-- ==== Sys2Proof/Word.lean ====
section
/-! DEFINITION. Bytes, and tables with a fixed number of like cells (bays, outfalls, gauges, devices, terminals). -/

namespace Sys2Proof

/-- One byte of the host line or the actuator line. -/
abbrev Byte := BitVec 8

/-- A table of `n` like things, indexed from 0. -/
abbrev Tab (n : Nat) (α : Type) := Vector α n

namespace Tab

/-- The cell of a table at an index. -/
def at_ {n : Nat} {α : Type} (v : Tab n α) (i : Fin n) : α := v[i.val]

/-- The table with one cell replaced. -/
def put {n : Nat} {α : Type} (v : Tab n α) (i : Fin n) (x : α) : Tab n α := v.set i.val x i.isLt

/-- The table with one cell changed by a function. -/
def upd {n : Nat} {α : Type} (v : Tab n α) (i : Fin n) (f : α → α) : Tab n α := v.put i (f (v.at_ i))

/-- The table with the same value in every cell. -/
def all {α : Type} (n : Nat) (x : α) : Tab n α := Vector.replicate n x

end Tab

/-- The eight bays in index order (spec/00 Indices). -/
def allBays : List (Fin 8) := [0, 1, 2, 3, 4, 5, 6, 7]
/-- The four outfalls in index order. -/
def allOutfalls : List (Fin 4) := [0, 1, 2, 3]
/-- The four rain gauges in index order. -/
def allGauges : List (Fin 4) := [0, 1, 2, 3]
/-- The eight alert rules in index order. -/
def allRules : List (Fin 8) := [0, 1, 2, 3, 4, 5, 6, 7]
/-- The four forecast slots in index order. -/
def allSlots : List (Fin 4) := [0, 1, 2, 3]
/-- The four alarm lines in index order. -/
def allLines : List (Fin 4) := [0, 1, 2, 3]
/-- The sixteen field devices in index order. -/
def allDevices : List (Fin 16) := [0, 1, 2, 3, 4, 5, 6, 7, 8, 9, 10, 11, 12, 13, 14, 15]
/-- The twelve terminals T0 to T11 in order. -/
def allTerminals : List (Fin 12) := [0, 1, 2, 3, 4, 5, 6, 7, 8, 9, 10, 11]

/-- A request's index as an index of a table, where it lies in range. -/
def index? (n : Nat) (i : Nat) : Option (Fin n) := if h : i < n then some ⟨i, h⟩ else none

end Sys2Proof
end

