-- ==== Sys2Proof/Request.lean ====
section
/-! DEFINITION. What a command brings with it: the moment it is taken at, the fall of power that interrupts a start (R191), and the bodies of the host's requests (R212). -/

namespace Sys2Proof

/-- The moment of a command (log entry 1): the microseconds since the command before it, and the raw
levels at the terminals T0 to T11 (bit `n` set where Tn is high). -/
structure Moment where
  elapsed : Nat
  pins : BitVec 12
  deriving DecidableEq, Repr

/-- A fall of main power during a start sequence (R191; log entry 50): how many of the sequence's retained writes it found complete, and
the microseconds that the sequence had run. -/
structure StartFall where
  writes : Nat
  elapsed : Nat
  deriving DecidableEq, Repr

/-- What START carries: its moment, and the fall of main power that interrupts its sequence, or none (R191; log entry 50). -/
structure StartEvent where
  moment : Moment
  fall : Option StartFall
  deriving DecidableEq, Repr

/-- A request's body as received: of the length its kind asks for, with its fields, or of another length (R212). -/
inductive Body (α : Type) where
  | wrongLength
  | fields (x : α)
  deriving DecidableEq, Repr

/-- One point of a stage table: level in millimetres, volume in decicubes (R2). -/
structure StagePoint where
  level : Nat
  volume : Nat
  deriving DecidableEq, Repr

/-- One point of a weir table: head in millimetres, flow in litres per second (R9). -/
structure WeirPoint where
  head : Nat
  flow : Nat
  deriving DecidableEq, Repr

/-- The SOUNDING parameter group (R20): milliseconds, microseconds, mm/ms, seconds, and a count. -/
structure SoundingParams where
  charge : Nat
  stuck : Nat
  speed : Nat
  drain : Nat
  dry : Nat
  watch : Nat
  storm : Nat
  recovery : Nat
  maintenance : Nat
  faultLimit : Nat
  deriving DecidableEq, Repr

/-- The DRAIN parameter group (R121): a count, decicubes, seconds. -/
structure DrainParams where
  slots : Nat
  lotVolume : Nat
  lotTime : Nat
  deriving DecidableEq, Repr

/-- The ACTUATOR parameter group (R160): milliseconds, a count, milliseconds, a count, seconds. -/
structure ActuatorParams where
  timeout : Nat
  retries : Nat
  nakBackoff : Nat
  nakLimit : Nat
  poll : Nat
  deriving DecidableEq, Repr

/-- The fields of SET_BAY as sent (R212): the destination 0 is NEXT_BAY and 1 to 4 are outfalls 0 to 3; the device 255 is none. -/
structure BayFields where
  bay : Nat
  enabled : Nat
  frequency : Nat
  pulses : Nat
  blanking : Nat
  step : Nat
  tolerance : Nat
  mounting : Nat
  empty : Nat
  fill : Nat
  drawdown : Nat
  high : Nat
  crest : Nat
  slew : Nat
  dest : Nat
  device : Nat
  rank : Nat
  floatHeight : Nat
  count : Nat
  points : List StagePoint
  deriving DecidableEq, Repr

/-- The fields of SET_OUTFALL as sent (R212). -/
structure OutfallFields where
  outfall : Nat
  onset : Nat
  hysteresis : Nat
  tail : Nat
  blockHours : Nat
  count : Nat
  points : List WeirPoint
  deriving DecidableEq, Repr

/-- The fields of SET_GAUGE as sent (R212). -/
structure GaugeFields where
  gauge : Nat
  enabled : Nat
  tipDepth : Nat
  dead : Nat
  stuck : Nat
  deriving DecidableEq, Repr

/-- The fields of SET_RULE as sent (R212). -/
structure RuleFields where
  rule : Nat
  level : Nat
  count : Nat
  gauges : List Nat
  combine : Nat
  window : Nat
  raise : Nat
  clear : Nat
  hold : Nat
  deriving DecidableEq, Repr

/-- The fields of FORECAST as sent (R70, R212). -/
structure ForecastFields where
  slot : Nat
  level : Nat
  delay : Nat
  duration : Nat
  deriving DecidableEq, Repr

/-- The fields of READ_SPILLS (R109). -/
structure ReadSpillsFields where
  fromId : Nat
  count : Nat
  deriving DecidableEq, Repr

/-- The fields of GRANT (R116): a count and a lifetime in minutes. -/
structure GrantFields where
  count : Nat
  lifetime : Nat
  deriving DecidableEq, Repr

/-- The fields of DRAIN (R124). -/
structure DrainFields where
  bay : Nat
  lots : Nat
  target : Nat
  deriving DecidableEq, Repr

/-- The fields of INHIBIT_AUTO (R151): a bay, and 0 for OFF or 1 for ON. -/
structure InhibitFields where
  bay : Nat
  value : Nat
  deriving DecidableEq, Repr

/-- The fields of SET_DEVICE as sent (R154, R212). -/
structure DeviceFields where
  device : Nat
  configured : Nat
  address : Nat
  kind : Nat
  completion : Nat
  limit : Nat
  deriving DecidableEq, Repr

/-- The fields of SET_TERMINAL as sent (R177, R212). -/
structure TerminalFields where
  terminal : Nat
  function : Nat
  parameter : Nat
  polarity : Nat
  deriving DecidableEq, Repr

/-- The fields of SET_ALARM_LINE as sent (R181, R212); bit `n` of the mask is bay `n`. -/
structure AlarmFields where
  line : Nat
  condition : Nat
  level : Nat
  grouping : Nat
  mask : BitVec 8
  deriving DecidableEq, Repr

/-- A request as the part takes it from a good frame (R198, R211, R212): its kind, and its body. -/
inductive Request where
  | getStatus (b : Body Unit)
  | fetchNotices (b : Body Nat)
  | getClock (b : Body Unit)
  | setClock (b : Body Nat)
  | restart (b : Body Unit)
  | setParamsSounding (b : Body SoundingParams)
  | setParamsLevel (b : Body Nat)
  | setParamsRain (b : Body Nat)
  | setParamsDrain (b : Body DrainParams)
  | setParamsPlanner (b : Body Nat)
  | setParamsActuator (b : Body ActuatorParams)
  /-- SET_PARAMS with an empty body (R212). -/
  | setParamsEmpty
  /-- SET_PARAMS whose first byte names no group (R21, R212). -/
  | setParamsNoGroup
  | setBay (b : Body BayFields)
  | setOutfall (b : Body OutfallFields)
  | setMode (b : Body Nat)
  | sound (b : Body Nat)
  | getSounding (b : Body Unit)
  | getBay (b : Body Nat)
  | setGauge (b : Body GaugeFields)
  | setRule (b : Body RuleFields)
  | forecast (b : Body ForecastFields)
  | getRain (b : Body Unit)
  | readRainMinutes (b : Body Nat)
  | getOutfall (b : Body Nat)
  | closePeriod (b : Body Nat)
  | readSpills (b : Body ReadSpillsFields)
  | releaseSpills (b : Body Nat)
  | grant (b : Body GrantFields)
  | withdraw (b : Body Nat)
  | drain (b : Body DrainFields)
  | stopDrain (b : Body Nat)
  | reshut (b : Body Nat)
  | getCredits (b : Body Unit)
  | inhibitAuto (b : Body InhibitFields)
  | getPlanner (b : Body Unit)
  | setDevice (b : Body DeviceFields)
  | clearDevice (b : Body Nat)
  | pollDevice (b : Body Nat)
  | getDevice (b : Body Nat)
  | setTerminal (b : Body TerminalFields)
  | setAlarmLine (b : Body AlarmFields)
  | getTerminals (b : Body Unit)
  /-- A request whose kind is not in the table of message kinds (R198). -/
  | unknownKind (kind : Byte)
  deriving DecidableEq, Repr

/-- A good frame: its sequence byte and its request (R197, R199). -/
structure HostMessage where
  seq : Byte
  request : Request
  deriving DecidableEq, Repr

end Sys2Proof
end

