-- ==== Sys2Proof/Syntax.lean ====
section
/-! DEFINITION. The commands of the part: one constructor for each row of spec/opcode_table.json. -/

namespace Sys2Proof

/-- The commands. Every one carries its moment `m` (log entry 1). A host request also carries its sequence byte
and its body; it stands for the completion of a good frame of that kind (R197, log entry 14). -/
inductive Instr where
  | getStatus (m : Moment) (seq : Byte) (b : Body Unit)
  | fetchNotices (m : Moment) (seq : Byte) (b : Body Nat)
  | getClock (m : Moment) (seq : Byte) (b : Body Unit)
  | setClock (m : Moment) (seq : Byte) (b : Body Nat)
  | restart (m : Moment) (seq : Byte) (b : Body Unit)
  | setParamsSounding (m : Moment) (seq : Byte) (b : Body SoundingParams)
  | setParamsLevel (m : Moment) (seq : Byte) (b : Body Nat)
  | setParamsRain (m : Moment) (seq : Byte) (b : Body Nat)
  | setParamsDrain (m : Moment) (seq : Byte) (b : Body DrainParams)
  | setParamsPlanner (m : Moment) (seq : Byte) (b : Body Nat)
  | setParamsActuator (m : Moment) (seq : Byte) (b : Body ActuatorParams)
  | setBay (m : Moment) (seq : Byte) (b : Body BayFields)
  | setOutfall (m : Moment) (seq : Byte) (b : Body OutfallFields)
  | setModeMaintenance (m : Moment) (seq : Byte)
  | setModeAutomatic (m : Moment) (seq : Byte)
  | sound (m : Moment) (seq : Byte) (b : Body Nat)
  | getSounding (m : Moment) (seq : Byte) (b : Body Unit)
  | getBay (m : Moment) (seq : Byte) (b : Body Nat)
  | setGauge (m : Moment) (seq : Byte) (b : Body GaugeFields)
  | setRule (m : Moment) (seq : Byte) (b : Body RuleFields)
  | forecast (m : Moment) (seq : Byte) (b : Body ForecastFields)
  | getRain (m : Moment) (seq : Byte) (b : Body Unit)
  | readRainMinutes (m : Moment) (seq : Byte) (b : Body Nat)
  | getOutfall (m : Moment) (seq : Byte) (b : Body Nat)
  | closePeriod (m : Moment) (seq : Byte) (b : Body Nat)
  | readSpills (m : Moment) (seq : Byte) (b : Body ReadSpillsFields)
  | releaseSpills (m : Moment) (seq : Byte) (b : Body Nat)
  | grant (m : Moment) (seq : Byte) (b : Body GrantFields)
  | withdraw (m : Moment) (seq : Byte) (b : Body Nat)
  | drain (m : Moment) (seq : Byte) (b : Body DrainFields)
  | stopDrain (m : Moment) (seq : Byte) (b : Body Nat)
  | reshut (m : Moment) (seq : Byte) (b : Body Nat)
  | getCredits (m : Moment) (seq : Byte) (b : Body Unit)
  /-- INHIBIT_AUTO with the value ON: the body holds the bay. -/
  | inhibitAutoOn (m : Moment) (seq : Byte) (bay : Nat)
  /-- INHIBIT_AUTO with the value OFF: the body holds the bay. -/
  | inhibitAutoOff (m : Moment) (seq : Byte) (bay : Nat)
  | getPlanner (m : Moment) (seq : Byte) (b : Body Unit)
  | setDevice (m : Moment) (seq : Byte) (b : Body DeviceFields)
  | clearDevice (m : Moment) (seq : Byte) (b : Body Nat)
  | pollDevice (m : Moment) (seq : Byte) (b : Body Nat)
  | getDevice (m : Moment) (seq : Byte) (b : Body Nat)
  | setTerminal (m : Moment) (seq : Byte) (b : Body TerminalFields)
  | setAlarmLine (m : Moment) (seq : Byte) (b : Body AlarmFields)
  | getTerminals (m : Moment) (seq : Byte) (b : Body Unit)
  /-- A request of a kind that R211 does not list. -/
  | unknownKindRequest (m : Moment) (seq : Byte) (kind : Byte)
  /-- Bytes of the host line, received without a gap, whose last completes a frame (R195, R196, R197). -/
  | hostFrameComplete (m : Moment) (bytes : List Byte)
  /-- Bytes of the host line whose last is a length byte above 240 (R195). -/
  | hostLengthOver240 (m : Moment) (bytes : List Byte)
  /-- Bytes of the host line, then a gap of more than 5 ms, then the byte that ends the gap (R195). -/
  | hostFrameGap (m : Moment) (bytes : List Byte) (ending : Byte)
  /-- Bytes of the host line, then a break (R195). -/
  | hostLineBreak (m : Moment) (bytes : List Byte)
  | replySent (m : Moment)
  | soundingDue (m : Moment) (bay : Fin 8)
  | soundingBackoffPassed (m : Moment) (bay : Fin 8)
  | supplyReady (m : Moment)
  | chargeDeadlineExpired (m : Moment)
  | driveStuck (m : Moment)
  /-- The burst ends, having delivered `pulses` pulses (R27). -/
  | burstEnd (m : Moment) (pulses : Nat)
  /-- A crossing of the echo threshold `tof` whole microseconds after the start of the burst (R28). -/
  | echoCrossing (m : Moment) (tof : Nat)
  | listenWindowEnd (m : Moment)
  /-- Sixteen half-periods counted in `nanos` nanoseconds (R30, log entry 12). -/
  | soundingGateComplete (m : Moment) (nanos : Nat)
  | soundingGateTimeout (m : Moment)
  | tailDeadline (m : Moment) (outfall : Fin 4)
  | blockEndReached (m : Moment) (outfall : Fin 4)
  /-- The raw level of a terminal, as the moment gives it, has held for 10 ms (R179). -/
  | debounceComplete (m : Moment) (terminal : Fin 12)
  | gaugeStuckDeadline (m : Moment) (gauge : Fin 4)
  | minuteRoll (m : Moment)
  | forecastSlotStart (m : Moment) (slot : Fin 4)
  | forecastSlotEnd (m : Moment) (slot : Fin 4)
  /-- The first grant in consumption order reaches its expiry (R118). -/
  | grantExpiry (m : Moment)
  | lotDeadline (m : Moment) (bay : Fin 8)
  /-- A frame arrives from the actuator line: its bytes (R164, R215). -/
  | actuatorReply (m : Moment) (bytes : List Byte)
  | actuatorResponseTimeout (m : Moment)
  | actuatorNakBackoffPassed (m : Moment) (device : Fin 16)
  | devicePollDue (m : Moment) (device : Fin 16)
  | movementDeadline (m : Moment) (device : Fin 16)
  | mainPowerFail (m : Moment)
  | backupSupplyLoss (m : Moment)
  /-- A start, which a fall of main power may interrupt (R191). -/
  | start (e : StartEvent)
  | backupSupplyReturn (m : Moment)
  deriving DecidableEq, Repr

end Sys2Proof
end

