-- ==== Sys2Proof/Decode.lean ====
section
/-! DEFINITION. The decoder over the rows of the table that give bits: no row gives any. -/

namespace Sys2Proof

/-- The command that a word spells by the table's bits: none, since the table gives no row any bits. -/
def decodeTableWord (_nbits _w : Nat) : Option Instr := none

end Sys2Proof
end

