-- ==== Sys2Proof/Config.lean ====
section
/-! DEFINITION. The bounds the manual fixes for the part, and the one free value the manual leaves open. -/

namespace Sys2Proof.Config

/-- Top of every 32-bit count (spec/00 Units; R84, R91, R120, R188). -/
def max32 : Nat := 4294967295
/-- Top of a 16-bit count (R61, R99, R122). -/
def max16 : Nat := 65535
/-- Notices the queue holds (R203). -/
def noticeCap : Nat := 32
/-- Records the spill log holds (R102). -/
def logCap : Nat := 48
/-- Grants the grant list holds (R115). -/
def grantCap : Nat := 8
/-- Minute buckets of a gauge's history (R63). -/
def buckets : Nat := 60
/-- Cap of one accrual interval, in seconds (R84). -/
def accrualCap : Nat := 60
/-- Constant part of the allowed slew, in millimetres (R46). -/
def slewSlack : Nat := 20
/-- Consecutive charge-deadline expiries that post SUPPLY_FAULT (R26). -/
def supplyFaultAt : Nat := 3
/-- Longest body of a host frame (R195). -/
def maxBody : Nat := 240

/-- Free value (log entry 6): which delay of its range the part uses for the `n`th interference
back-off (R31: "The part varies which value within the range it uses"). Nothing constrains it. -/
opaque backoffDelay : Nat → Nat

end Sys2Proof.Config
end

