-- ==== Sys2Proof/Machine/State.lean ====
section
/-! DEFINITION. The state of the part as plain data, its report types, the reasons a step can stop, and the state after a cold start. -/

namespace Sys2Proof.Machine

/-- The reasons a step may fault. The spec names no behaviour at which the part stops with an error
(INVENTORY, Faults), so there is none: safe, since no step answers a fault. -/
inductive Fault where
  deriving DecidableEq, Repr

/-- The reasons a command may be refused a meaning. -/
inductive Refusal where
  /-- A command not modelled yet: raised by exec's arms alone (there is none left). Safe: nothing is proved of it. -/
  | notModelled (mnemonic : String)
  deriving DecidableEq, Repr

/-! ### Named values -/

/-- The site mode (R14 to R19). -/
inductive Mode where
  | dry | watch | storm | recovery | maintenance
  deriving DecidableEq, Repr

/-- The site alert level, lowest first (R72). -/
inductive Alert where
  | none | advisory | warning | severe
  deriving DecidableEq, Repr

/-- The quality of an accepted level (R44). -/
inductive Quality where
  | none | good | held | float | stale
  deriving DecidableEq, Repr

/-- The float state of a bay (R50). -/
inductive FloatState where
  | absent | released | active
  deriving DecidableEq, Repr

/-- The result of a finished sounding (R32). -/
inductive ReadingResult where
  | good | lostEcho | outOfRange | driveFault | interfered
  deriving DecidableEq, Repr

/-- The two drive faults (R27). -/
inductive DriveFault where
  | stuck | short
  deriving DecidableEq, Repr

/-- Channel health (R40, R41). -/
inductive Health where
  | ok | failed
  deriving DecidableEq, Repr

/-- The engine's states (R22). -/
inductive EngineState where
  | idle | charging | bursting | listening | gating
  deriving DecidableEq, Repr

/-- Where the water above a crest goes (R1). -/
inductive Dest where
  | nextBay
  | outfall (k : Fin 4)
  deriving DecidableEq, Repr

/-- How an alert rule combines its gauges (R64). -/
inductive Combine where
  | max | mean
  deriving DecidableEq, Repr

/-- The state of an alert rule (R66 to R68). -/
inductive RuleState where
  | disarmed | clear | raised | fading
  deriving DecidableEq, Repr

/-- The state of a gauge (R60). -/
inductive GaugeState where
  | disabled | unwired | ready | stuck
  deriving DecidableEq, Repr

/-- A forecast slot (R70): its level, start and end, in retention seconds. -/
inductive ForecastSlot where
  | empty
  | pending (level : Alert) (start finish : Nat)
  | active (level : Alert) (start finish : Nat)
  deriving DecidableEq, Repr

/-- The class of a spill (R86). -/
inductive SpillClass where
  | rain | dry
  deriving DecidableEq, Repr

/-- The end cause of a spill (R90). -/
inductive EndCause where
  | ended | powerLoss | restart
  deriving DecidableEq, Repr

/-- The spill state of an outfall (R78); TAILING holds its tentative end and its tail deadline. -/
inductive SpillState where
  | quiet
  | spilling
  | tailing (tentative deadline : Nat)
  | blind
  deriving DecidableEq, Repr

/-- Who made a drain order (R122). -/
inductive Source where
  | host | auto
  deriving DecidableEq, Repr

/-- The state of a drain order (R122). -/
inductive OrderState where
  | queued | held | opening | running | closing | suspect
  deriving DecidableEq, Repr

/-- The closing cause of an order (R122). -/
inductive ClosingCause where
  | done | gap | cancel | stalled | worksStop | gauge | openFailed | deviceFailed
  deriving DecidableEq, Repr

/-- Who cancelled an order (R141, R149). -/
inductive CancelCause where
  | host | planner
  deriving DecidableEq, Repr

/-- A device outcome that an order records as its failure, or that a RESHUT's RESET ended with (R122, R142, R213). -/
inductive Failure where
  | lost | faulted | hand | superseded
  deriving DecidableEq, Repr

/-- Why a bay is inhibited (R150). -/
inductive InhibitCause where
  | host | stopDrain | stalled | shutFailed
  deriving DecidableEq, Repr

/-- The kind of a field device (R154). -/
inductive DeviceKind where
  | gate | pump
  deriving DecidableEq, Repr

/-- How a device's movement is completed (R154). -/
inductive Completion where
  | watched | ackOnly
  deriving DecidableEq, Repr

/-- Why a device is FAULTED (R156). -/
inductive FaultCause where
  | reported | busy | moveTimeout
  deriving DecidableEq, Repr

/-- Why a device is LOST (R156). -/
inductive LostCause where
  | timeout | badReply
  deriving DecidableEq, Repr

/-- The device state, with its fault cause (R156). -/
inductive DeviceState where
  | unknown | closed | opened | moving
  | faulted (cause : FaultCause)
  | lost (cause : LostCause)
  | hand
  deriving DecidableEq, Repr

/-- The commands of the actuator line (R157). -/
inductive LineCommand where
  | engage | release | reset | query
  deriving DecidableEq, Repr

/-- Who put a command (spec/09 opening table). -/
inductive Originator where
  | order (bay : Fin 8)
  | sweep | host | watch
  deriving DecidableEq, Repr

/-- The outcomes of a drive entry (R171). -/
inductive LineOutcome where
  | done | superseded | lost | faulted | hand
  deriving DecidableEq, Repr

/-- The target of a movement (R157). -/
inductive MoveTarget where
  | opened | closed
  deriving DecidableEq, Repr

/-- A terminal's function and its parameter (R176). -/
inductive TerminalFunction where
  | unused
  | float (bay : Fin 8)
  | gauge (gauge : Fin 4)
  | worksStop
  | alarm (line : Fin 4)
  deriving DecidableEq, Repr

/-- A terminal's polarity (R176). -/
inductive Polarity where
  | activeHigh | activeLow
  deriving DecidableEq, Repr

/-- The condition of an alarm line (R181). -/
inductive AlarmCondition where
  | off | spill | high | fault | alert
  deriving DecidableEq, Repr

/-- The grouping of an alarm line (R182). -/
inductive Grouping where
  | block | stride | site
  deriving DecidableEq, Repr

/-- The cause of a start (R191). -/
inductive StartCause where
  | cold | warm | restart
  deriving DecidableEq, Repr

/-- The results of a request (spec/00 Results of a request, R210). -/
inductive Result where
  | ok | accepted | refusedKind | refusedLength | refusedRange | refusedState | refusedFull | refusedUnconfigured
  deriving DecidableEq, Repr

/-- Whether the part runs, is stopped by a fall of main power (R187), or stands between a RESTART reply and its start (R193). -/
inductive Run where
  | running | stopped | restarting
  deriving DecidableEq, Repr

/-! ### Configuration image (R186) -/

/-- A bay record (R2). -/
structure BayRec where
  enabled : Bool
  frequency : Nat
  pulses : Nat
  blanking : Nat
  step : Nat
  tolerance : Nat
  mounting : Nat
  empty : Nat
  fill : Nat
  drawdown : Nat
  high : Nat
  crest : Nat
  slew : Nat
  stage : List StagePoint
  dest : Dest
  device : Option (Fin 16)
  rank : Nat
  floatHeight : Nat
  deriving DecidableEq, Repr

/-- An outfall record (R9), with whether it has been configured (R10). -/
structure OutfallRec where
  configured : Bool
  onset : Nat
  hysteresis : Nat
  tail : Nat
  blockHours : Nat
  weir : List WeirPoint
  deriving DecidableEq, Repr

/-- A gauge record (R58): micrometres, milliseconds, seconds. -/
structure GaugeRec where
  enabled : Bool
  tipDepth : Nat
  dead : Nat
  stuck : Nat
  deriving DecidableEq, Repr

/-- An alert rule record (R65); a level of NONE disarms the rule. -/
structure RuleRec where
  level : Alert
  gauges : List (Fin 4)
  combine : Combine
  window : Nat
  raise : Nat
  clear : Nat
  hold : Nat
  deriving DecidableEq, Repr

/-- A field device record (R154). -/
structure DeviceRec where
  address : Nat
  kind : DeviceKind
  completion : Completion
  limit : Nat
  deriving DecidableEq, Repr

/-- A terminal record (R176). -/
structure TerminalRec where
  function : TerminalFunction
  polarity : Polarity
  deriving DecidableEq, Repr

/-- An alarm-line record (R181); the level is kept as its code, since only ALERT checks it. -/
structure AlarmRec where
  condition : AlarmCondition
  level : Nat
  grouping : Grouping
  mask : BitVec 8
  deriving DecidableEq, Repr

/-- The configuration image (R186). -/
structure Image where
  bays : Tab 8 BayRec
  outfalls : Tab 4 OutfallRec
  gauges : Tab 4 GaugeRec
  rules : Tab 8 RuleRec
  devices : Tab 16 (Option DeviceRec)
  terminals : Tab 12 TerminalRec
  alarms : Tab 4 AlarmRec
  sounding : SoundingParams
  staleLimit : Nat
  dryLookback : Nat
  drain : DrainParams
  margin : Nat
  actuator : ActuatorParams
  deriving DecidableEq, Repr

/-! ### Other retained contents (R186) -/

/-- The figures of an open spill (R78, log entry 21). -/
structure OpenSpill where
  start : Nat
  cls : SpillClass
  peak : Nat
  volume : Nat
  blocks : Nat
  gap : Bool
  deriving DecidableEq, Repr

/-- A spill record or aggregate (R99) without its id. `merged` is 0 on a single record (R214). It is open
exactly while it holds an open spill. -/
structure SpillRecord where
  outfall : Fin 4
  cls : SpillClass
  start : Nat
  finish : Option Nat
  cause : Option EndCause
  duration : Nat
  peak : Nat
  volume : Nat
  blocks : Nat
  clockUnset : Bool
  clockLate : Bool
  gap : Bool
  aggregate : Bool
  merged : Nat
  firstStart : Nat
  openSpill : Option OpenSpill
  deriving DecidableEq, Repr

/-- A record in the log, with its id (R99, R101). -/
structure LogEntry where
  id : Nat
  record : SpillRecord
  deriving DecidableEq, Repr

/-- One set of period counters (R91). -/
structure PeriodSet where
  blocks : Nat
  dryBlocks : Nat
  events : Nat
  duration : Nat
  volume : Nat
  start : Nat
  deriving DecidableEq, Repr

/-- The retained counters and the block-end of an outfall (R87, R91). -/
structure OutfallCounts where
  current : PeriodSet
  previous : PeriodSet
  blockEnd : Nat
  deriving DecidableEq, Repr

/-- The retention domain without the configuration image (R186). -/
structure Retained where
  /-- Retention seconds (R187). -/
  seconds : Nat
  /-- Microseconds of the retention second that runs. -/
  micros : Nat
  offset : Nat
  clockSet : Bool
  powerLoss : Option Nat
  /-- Oldest first (R102). -/
  log : List LogEntry
  slots : Tab 4 (Option SpillRecord)
  /-- `none` once exhausted (R101). -/
  nextId : Option Nat
  counts : Tab 4 OutfallCounts
  /-- `none` is never (R73). -/
  lastRain : Option Nat
  cold : Bool
  /-- Whether the check value matches the contents (R186, log entry 18). -/
  checkGood : Bool
  deriving DecidableEq, Repr

/-! ### Volatile state of the blocks -/

/-- A waiting entry of the sounding queue (R34). `urgent` holds its place in the urgent order; the not-before time is in microseconds of fast time;
`joined` is set where a SOUND request joined the sounding at an attempt before this one (R31, R37; log entry 44). -/
structure SoundingEntry where
  bay : Fin 8
  due : Nat
  urgent : Option Nat
  attempt : Nat
  notBefore : Option Nat
  joined : Bool
  deriving DecidableEq, Repr

/-- The sounding in flight (R23), with the phase the engine is in for it. -/
structure InFlight where
  phase : EngineState
  bay : Fin 8
  due : Nat
  urgent : Option Nat
  attempt : Nat
  frequency : Nat
  pulses : Nat
  blanking : Nat
  step : Nat
  tolerance : Nat
  mounting : Nat
  charge : Nat
  stuck : Nat
  speed : Nat
  joined : Bool
  discard : Bool
  /-- The charge deadline passed before the burst (R25). -/
  weak : Bool
  /-- Fast time at which CHARGING began. -/
  chargeStart : Nat
  /-- Fast time of the start of the first pulse (R27). -/
  burstStart : Nat
  /-- Time of flight of the echo, in microseconds (R28). -/
  tof : Nat
  deriving DecidableEq, Repr

/-- A reading (R32). The measured frequency is held as the time of its 16 half-periods in nanoseconds (log entry 12). -/
structure Reading where
  bay : Fin 8
  result : ReadingResult
  level : Option Nat
  driveFault : Option DriveFault
  weak : Bool
  gateNanos : Option Nat
  attempts : Nat
  joined : Bool
  time : Nat
  deriving DecidableEq, Repr

/-- Channel health and the count of consecutive bad results (R40). -/
structure Channel where
  health : Health
  bad : Nat
  deriving DecidableEq, Repr

/-- The ranging engine and the sounding scheduler (R22 to R43). -/
structure Sounding where
  /-- `none` is IDLE (R22). -/
  engine : Option InFlight
  supplyOn : Bool
  supplyReady : Bool
  expiries : Nat
  /-- In queue order (R34). -/
  queue : List SoundingEntry
  /-- The next place in the urgent order (R34). -/
  urgentNext : Nat
  channels : Tab 8 Channel
  last : Tab 8 (Option Reading)
  deriving DecidableEq, Repr

/-- A candidate level and the completion time of its reading (R44). -/
structure Candidate where
  level : Nat
  time : Nat
  deriving DecidableEq, Repr

/-- The accepted level record of a bay (R44). -/
structure LevelRecord where
  value : Option Nat
  quality : Quality
  accepted : Option Nat
  candidate : Option Candidate
  misses : Nat
  disagreed : Bool
  deriving DecidableEq, Repr

/-- The level keeper (R44, R50). -/
structure Levels where
  records : Tab 8 LevelRecord
  floats : Tab 8 FloatState
  deriving DecidableEq, Repr

/-- A stuck deadline: the second it stands at, and the stuck time that it was given (R59, R62). -/
structure StuckDeadline where
  due : Nat
  time : Nat
  deriving DecidableEq, Repr

/-- The volatile state of a gauge (R60 to R63). -/
structure GaugeVol where
  stuck : Bool
  /-- The current minute first (R63); empty while the gauge is DISABLED. -/
  history : List Nat
  minuteStart : Nat
  total : Nat
  /-- Fast time of the last counted tip, in microseconds (R61). -/
  lastTip : Option Nat
  stuckDeadline : Option StuckDeadline
  deriving DecidableEq, Repr

/-- The volatile state of an alert rule (R67, R68). -/
structure RuleVol where
  state : RuleState
  holdUntil : Option Nat
  deriving DecidableEq, Repr

/-- The rain watch (R58 to R77). -/
structure Rain where
  gauges : Tab 4 GaugeVol
  rules : Tab 8 RuleVol
  slots : Tab 4 ForecastSlot
  alert : Alert
  /-- The retention second of the next minute roll (R63, log entry 31). -/
  nextRoll : Nat
  deriving DecidableEq, Repr

/-- The volatile spill state of an outfall (R78). -/
structure OutfallVol where
  state : SpillState
  remainder : Nat
  deriving DecidableEq, Repr

/-- A grant of return credits (R115). -/
structure Grant where
  count : Nat
  expiry : Nat
  deriving DecidableEq, Repr

/-- The credit counters (R120). -/
structure CreditCounters where
  granted : Nat
  consumed : Nat
  forfeited : Nat
  expired : Nat
  withdrawn : Nat
  deriving DecidableEq, Repr

/-- The lot of a RUNNING order (R122). -/
structure Lot where
  startVolume : Nat
  startTime : Nat
  deadline : Nat
  drained : Int
  deriving DecidableEq, Repr

/-- A set of hold causes (R123). -/
structure HoldCauses where
  worksStop : Bool
  gauge : Bool
  hand : Bool
  deriving DecidableEq, Repr

/-- A drain order (R122); its bay is its index. -/
structure Order where
  source : Source
  lots : Nat
  target : Nat
  done : Nat
  total : Nat
  lot : Option Lot
  credit : Bool
  holds : HoldCauses
  closing : Option ClosingCause
  cancelCause : Option CancelCause
  failure : Option Failure
  reshut : Bool
  state : OrderState
  deriving DecidableEq, Repr

/-- The drain scheduler (R115 to R144). -/
structure Drain where
  /-- In consumption order (R115). -/
  grants : List Grant
  counters : CreditCounters
  /-- The credits-wanted flag: armed (R127). -/
  armed : Bool
  orders : Tab 8 (Option Order)
  deriving DecidableEq, Repr

/-- The watch of a moving device (R156), with the command it follows (log entry 24). -/
structure Watch where
  target : MoveTarget
  orig : Originator
  command : LineCommand
  deriving DecidableEq, Repr

/-- The last outcome of a device (R156). -/
structure LastOutcome where
  command : LineCommand
  orig : Originator
  outcome : LineOutcome
  time : Nat
  deriving DecidableEq, Repr

/-- A movement deadline: the second it stands at, and the command of the transaction that began it (R167, R168, R171; log entry 24). -/
structure MoveDeadline where
  due : Nat
  command : LineCommand
  deriving DecidableEq, Repr

/-- The volatile state of a field device, but for its last outcome (R156). -/
structure DeviceVol where
  state : DeviceState
  toggle : Bool
  inStep : Bool
  naks : Nat
  deadline : Option MoveDeadline
  watch : Option Watch
  nextPoll : Option Nat
  deriving DecidableEq, Repr

/-- A waiting entry of the actuator line (R161); its joining order is its place in the list. -/
structure LineEntry where
  device : Fin 16
  command : LineCommand
  orig : Originator
  notBefore : Option Nat
  deriving DecidableEq, Repr

/-- The current transaction (R163, R164). `exchange` is the command on the line, which differs from
the entry's for a device that is not in step (R159). The timeout and the retry limit are those of the frame sent (R160). -/
structure Transaction where
  device : Fin 16
  command : LineCommand
  orig : Originator
  exchange : LineCommand
  toggle : Bool
  resends : Nat
  timeout : Nat
  retries : Nat
  frame : List Byte
  sentAt : Nat
  deriving DecidableEq, Repr

/-- The actuator line controller (R154 to R175). -/
structure Actuator where
  devices : Tab 16 DeviceVol
  /-- The last outcome of each device (R156). -/
  lasts : Tab 16 (Option LastOutcome)
  /-- In queue order (R161). -/
  queue : List LineEntry
  current : Option Transaction
  deriving DecidableEq, Repr

/-- The terminal block (R176 to R185). -/
structure Terminals where
  /-- Raw levels, bit `n` for Tn, set where high. -/
  pins : BitVec 12
  debounced : BitVec 12
  worksStop : Bool
  lineActive : Tab 4 Bool
  deriving DecidableEq, Repr

/-! ### Notices (R203, R213) -/

/-- The block outcome of SPILL_STARTED (R93). -/
inductive BlockOutcome where
  | opened | merged
  deriving DecidableEq, Repr

/-- Who changed the mode (R18). -/
inductive ModeOrigin where
  | site | host
  deriving DecidableEq, Repr

/-- The kind of cause of ALERT_CHANGED (R72). -/
inductive AlertCause where
  | rule | slot
  deriving DecidableEq, Repr

/-- The drain cause of a drain notice (R125, R135, R142, R213). -/
inductive DrainCause where
  | done | host | planner | stalled | openFailed | deviceFailed | shutRecovered | shutFailed | reshutFailed
  deriving DecidableEq, Repr

/-- The detail of the three drain notices (R213). -/
structure DrainDetail where
  lots : Nat
  total : Nat
  cause : DrainCause
  failure : Option Failure
  closing : Option ClosingCause
  deriving DecidableEq, Repr

/-- The fault cause carried by DEVICE_FAULT (R171). -/
inductive AnnouncedCause where
  | reported | busy | moveTimeout | timeout | badReply | hand
  deriving DecidableEq, Repr

/-- The device state as a code names it, without its cause (R213). -/
inductive DeviceStateName where
  | unknown | closed | opened | moving | faulted | lost | hand
  deriving DecidableEq, Repr

/-- The kind and the detail of a notice (R213). A record id is absent for the aggregate mark. -/
inductive NoticeDetail where
  | started (cause : StartCause) (powerLoss : Option Nat) (spills : Nat) (clockSet : Bool)
  | modeChanged (old new : Mode) (origin : ModeOrigin)
  | alertChanged (old new : Alert) (cause : AlertCause)
  | spillStarted (id : Option Nat) (cls : SpillClass) (block : BlockOutcome) (head : Int)
  | spillEnded (id : Option Nat) (cause : EndCause) (minutes : Nat)
  | blockCarried (id : Option Nat) (seconds blocks : Nat)
  | logFull (id above openRecords : Nat)
  | drainDone (d : DrainDetail)
  | drainCancelled (d : DrainDetail)
  | drainFault (d : DrainDetail)
  | creditsWanted (eligible free : Nat)
  | creditExpired (lost expiry pool : Nat)
  | gaugeFault (result : ReadingResult) (bad : Nat) (fault : Option DriveFault)
  | gaugeRecovered (bad : Nat)
  | floatDisagree (value height : Nat) (quality : Quality)
  | rainGaugeStuck (terminal stuck : Nat)
  | supplyFault (expiries bay : Nat)
  | deviceFault (state : DeviceStateName) (cause : AnnouncedCause) (command : LineCommand) (address : Nat)
  | deviceRestored (old new : DeviceStateName)
  deriving DecidableEq, Repr

/-- A notice (R203). `unset` is the time mark. -/
structure Notice where
  subject : Nat
  number : Nat
  unset : Bool
  time : Nat
  detail : NoticeDetail
  deriving DecidableEq, Repr

/-! ### Reports: the bodies of replies -/

/-- A time as site time, or as retention seconds with the unset mark (R188). -/
structure Stamp where
  unset : Bool
  time : Nat
  deriving DecidableEq, Repr

/-- The GET_CLOCK report (R189). -/
structure ClockReport where
  now : Stamp
  seconds : Nat
  clockSet : Bool
  offset : Option Nat
  powerLoss : Option Nat
  cause : StartCause
  startSecond : Nat
  cold : Bool
  deriving DecidableEq, Repr

/-- What SOUND found (R37). -/
inductive SoundOutcome where
  | marked | alreadyUrgent | joined
  deriving DecidableEq, Repr

/-- The sounding in flight as GET_SOUNDING reports it (R42). -/
structure InFlightReport where
  bay : Fin 8
  attempt : Nat
  urgent : Bool
  joined : Bool
  discard : Bool
  deriving DecidableEq, Repr

/-- A queue entry as GET_SOUNDING reports it (R42). -/
structure EntryReport where
  bay : Fin 8
  urgent : Bool
  attempt : Nat
  secondsToDue : Nat
  millisToNotBefore : Option Nat
  deriving DecidableEq, Repr

/-- The GET_SOUNDING report (R42). -/
structure SoundingReport where
  engine : EngineState
  inFlight : Option InFlightReport
  supplyOn : Bool
  supplyReady : Bool
  expiries : Nat
  queue : List EntryReport
  channels : List Channel
  deriving DecidableEq, Repr

/-- The conditions of R126, in the order listed there. -/
inductive EligibilityCondition where
  | queued | qualityGood | aboveTarget | deviceHealthy | noWorksStop
  deriving DecidableEq, Repr

/-- The lot of a RUNNING order as reported (R143). -/
structure LotReport where
  drained : Int
  startVolume : Nat
  secondsToDeadline : Nat
  deriving DecidableEq, Repr

/-- The drain-order summary (R143). -/
structure OrderSummary where
  state : OrderState
  source : Source
  lots : Nat
  target : Nat
  done : Nat
  total : Nat
  holds : HoldCauses
  closing : Option ClosingCause
  failure : Option Failure
  reshut : Bool
  running : Option LotReport
  eligible : Bool
  /-- The first unmet condition, where the order is QUEUED and not eligible. -/
  unmet : Option EligibilityCondition
  deriving DecidableEq, Repr

/-- The GET_BAY report (R56). -/
structure BayReport where
  record : LevelRecord
  reading : Option Reading
  channel : Channel
  float : FloatState
  floatHeight : Nat
  volume : Option Nat
  order : Option OrderSummary
  deriving DecidableEq, Repr

/-- A gauge as GET_RAIN reports it (R75). -/
structure GaugeReport where
  state : GaugeState
  terminal : Option (Fin 12)
  tipDepth : Nat
  dead : Nat
  stuck : Nat
  bucket : Nat
  total : Nat
  deriving DecidableEq, Repr

/-- An armed rule as GET_RAIN reports it (R75): for each gauge of its set the window depth, or the mark that it is not usable. -/
structure ArmedReport where
  blind : Bool
  depths : List (Fin 4 × Option Nat)
  combined : Option Nat
  holdRemaining : Option Nat
  deriving DecidableEq, Repr

/-- A rule as GET_RAIN reports it (R75): for a DISARMED rule the state alone. -/
structure RuleReport where
  state : RuleState
  armed : Option ArmedReport
  deriving DecidableEq, Repr

/-- A forecast slot as GET_RAIN reports it (R75). -/
inductive SlotReport where
  | empty
  | pending (level : Alert) (toStart toEnd : Nat)
  | active (level : Alert) (toStart toEnd : Nat)
  deriving DecidableEq, Repr

/-- The GET_RAIN report (R75). -/
structure RainReport where
  gauges : List GaugeReport
  rules : List RuleReport
  slots : List SlotReport
  alert : Alert
  lastRain : Option Nat
  sinceRain : Option Nat
  dryLookback : Nat
  attributed : Bool
  deriving DecidableEq, Repr

/-- The tail of an open spill as reported (R97). -/
structure TailReport where
  tentative : Nat
  secondsToDeadline : Nat
  deriving DecidableEq, Repr

/-- An open spill as GET_OUTFALL reports it (R97); the id is absent for the aggregate mark. -/
structure OpenReport where
  id : Option Nat
  cls : SpillClass
  start : Nat
  startStamp : Stamp
  duration : Nat
  peak : Nat
  volume : Nat
  blocks : Nat
  gap : Bool
  tail : Option TailReport
  deriving DecidableEq, Repr

/-- Why a closed aggregate stays in its slot (R112). -/
inductive SlotWait where
  | room | exhausted
  deriving DecidableEq, Repr

/-- The aggregate slot as GET_OUTFALL reports it (R112), with the running duration while open. -/
inductive AggregateReport where
  | empty
  | opened (record : SpillRecord)
  | closed (record : SpillRecord) (wait : SlotWait)
  deriving DecidableEq, Repr

/-- A period set as GET_OUTFALL reports it (R97). -/
structure PeriodReport where
  counters : PeriodSet
  startStamp : Stamp
  deriving DecidableEq, Repr

/-- The GET_OUTFALL report (R97). -/
structure OutfallReport where
  reference : Option (Fin 8)
  inService : Bool
  state : SpillState
  head : Option Int
  openSpill : Option OpenReport
  blockEnd : Nat
  blockRemaining : Nat
  current : PeriodReport
  previous : PeriodReport
  aggregate : AggregateReport
  deriving DecidableEq, Repr

/-- The READ_SPILLS reply (R109, R214). The next id is absent once exhausted. -/
structure SpillsReport where
  held : Nat
  oldest : Option Nat
  newest : Option Nat
  next : Option Nat
  records : List LogEntry
  deriving DecidableEq, Repr

/-- The RELEASE_SPILLS reply (R110). -/
structure ReleaseReport where
  removed : Nat
  transferred : Nat
  oldest : Option Nat
  oldestOpen : Option Nat
  deriving DecidableEq, Repr

/-- A grant as GET_CREDITS reports it (R143). -/
structure GrantReport where
  count : Nat
  secondsToExpiry : Nat
  deriving DecidableEq, Repr

/-- An order as GET_CREDITS reports it (R143). -/
structure CreditOrderReport where
  bay : Fin 8
  rank : Nat
  state : OrderState
  source : Source
  done : Nat
  holds : HoldCauses
  deriving DecidableEq, Repr

/-- The GET_CREDITS report (R143). -/
structure CreditsReport where
  grants : List GrantReport
  pool : Nat
  counters : CreditCounters
  slots : Nat
  holders : List (Fin 8)
  armed : Bool
  orders : List CreditOrderReport
  worksStop : Bool
  deriving DecidableEq, Repr

/-- The planner target (R152). -/
inductive PlannerTarget where
  | empty | drawdown | none
  deriving DecidableEq, Repr

/-- The conditions of R147, in the order listed there. -/
inductive CandidateCondition where
  | enabledWithDevice | notInhibited | noOrder | qualityGood | calledFor
  deriving DecidableEq, Repr

/-- A bay as GET_PLANNER reports it (R152). -/
structure PlannerBayReport where
  inhibit : Option InhibitCause
  order : Option (Source × OrderState)
  candidate : Bool
  unmet : Option CandidateCondition
  deriving DecidableEq, Repr

/-- The GET_PLANNER report (R152). -/
structure PlannerReport where
  margin : Nat
  target : PlannerTarget
  bays : List PlannerBayReport
  deriving DecidableEq, Repr

/-- A waiting entry as GET_DEVICE reports it (R174). -/
structure LineEntryReport where
  command : LineCommand
  orig : Originator
  millisToNotBefore : Option Nat
  deriving DecidableEq, Repr

/-- The GET_DEVICE report (R174). -/
structure DeviceReport where
  record : Option DeviceRec
  bay : Option (Fin 8)
  state : DeviceState
  toggle : Bool
  inStep : Bool
  naks : Nat
  watch : Option (MoveTarget × Originator)
  secondsToDeadline : Option Nat
  secondsToPoll : Option Nat
  drive : Option LineEntryReport
  query : Option LineEntryReport
  /-- The command and the attempt number, where the current transaction is this device's. -/
  current : Option (LineCommand × Nat)
  last : Option LastOutcome
  queued : Nat
  lineIdle : Bool
  deriving DecidableEq, Repr

/-- A terminal as GET_TERMINALS reports it (R184). -/
inductive TerminalReport where
  | input (record : TerminalRec) (high active : Bool)
  | output (record : TerminalRec) (driven : Bool)
  deriving DecidableEq, Repr

/-- An alarm line as GET_TERMINALS reports it (R184). -/
structure LineReport where
  record : AlarmRec
  covered : List (Fin 8)
  active : Bool
  meeting : List (Fin 8)
  terminal : Option (Fin 12)
  deriving DecidableEq, Repr

/-- The GET_TERMINALS report (R184). -/
structure TerminalsReport where
  terminals : List TerminalReport
  worksStop : Bool
  worksStopTerminal : Option (Fin 12)
  lines : List LineReport
  deriving DecidableEq, Repr

/-- The reply body of a request (R199), as its rule gives it. -/
inductive ReplyBody where
  | empty
  | notices (left : Nat) (returned : List Notice)
  | clock (r : ClockReport)
  | clockSet (before : Stamp) (first : Bool)
  | sound (o : SoundOutcome)
  | sounding (r : SoundingReport)
  | bay (r : BayReport)
  | rain (r : RainReport)
  | rainMinutes (oldestFirst : List Nat) (tipDepth minuteStart : Nat)
  | outfall (r : OutfallReport)
  | periodClosed (previous : PeriodSet) (start : Nat)
  | spills (r : SpillsReport)
  | released (r : ReleaseReport)
  | withdrawn (removed pool : Nat)
  /-- The order's state, or the mark that it has been retired. -/
  | drain (state : Option OrderState)
  | credits (r : CreditsReport)
  | inhibit (cause : Option InhibitCause) (created : Bool)
  | planner (r : PlannerReport)
  /-- Whether the RESET replaced a waiting drive entry. -/
  | cleared (replaced : Bool)
  /-- QUEUED, or ALREADY_WAITING where false. -/
  | polled (queued : Bool)
  | device (r : DeviceReport)
  | terminals (r : TerminalsReport)
  deriving DecidableEq, Repr

/-! ### Host line port -/

/-- The flags of the status summary (R200). -/
structure StatusFlags where
  attn : Bool
  frameLost : Bool
  noticeLost : Bool
  clockUnset : Bool
  logFull : Bool
  worksStop : Bool
  cold : Bool
  suspect : Bool
  deriving DecidableEq, Repr

/-- The status summary (R200). -/
structure Summary where
  mode : Mode
  alert : Alert
  notices : Nat
  flags : StatusFlags
  credits : Nat
  deriving DecidableEq, Repr

/-- A reply (R199). `restart` marks the reply to an accepted RESTART, which a start follows (R193). -/
structure Reply where
  seq : Byte
  kind : Byte
  result : Result
  summary : Summary
  body : ReplyBody
  restart : Bool
  deriving DecidableEq, Repr

/-- The receiver (R195): hunting, or receiving with the bytes after the start byte. -/
inductive Receiver where
  | hunting
  | receiving (got : List Byte)
  deriving DecidableEq, Repr

/-- The host line port (R195 to R207). -/
structure Port where
  receiver : Receiver
  slot : Option HostMessage
  /-- The request being answered, with the reply being sent. -/
  answering : Option Reply
  /-- Oldest first (R203). -/
  notices : List Notice
  nextNumber : Nat
  frameLost : Bool
  noticeLost : Bool
  deriving DecidableEq, Repr

/-! ### The state -/

/-- Fast time, and the last start (R189). -/
structure Clock where
  /-- Microseconds since the start. -/
  fast : Nat
  cause : StartCause
  startSecond : Nat
  deriving DecidableEq, Repr

/-- The model's own fields: the counter of free values and the schedule of free orders (log entries 6 and 7). -/
structure Free where
  delays : Nat
  schedule : List Nat
  deriving DecidableEq, Repr

/-- The state of the part. -/
structure State where
  /-- The commands that wait, first in first out. -/
  pending : List Instr
  run : Run
  backup : Bool
  clock : Clock
  image : Image
  ret : Retained
  mode : Mode
  snd : Sounding
  lvl : Levels
  rain : Rain
  spill : Tab 4 OutfallVol
  drn : Drain
  inhibit : Tab 8 (Option InhibitCause)
  act : Actuator
  term : Terminals
  port : Port
  free : Free
  deriving DecidableEq, Repr

/-! ### Values after a cold start -/

/-- A bay record after a cold start (R8, log entry 5). -/
def BayRec.cold : BayRec :=
  { enabled := false, frequency := 0, pulses := 12, blanking := 3, step := 0, tolerance := 8, mounting := 0, empty := 0, fill := 0
    drawdown := 0, high := 0, crest := 0, slew := 50, stage := [], dest := .nextBay, device := none, rank := 0, floatHeight := 0 }

/-- An outfall record after a cold start (R9, R13). -/
def OutfallRec.cold : OutfallRec :=
  { configured := false, onset := 5, hysteresis := 10, tail := 300, blockHours := 12, weir := [] }

/-- A gauge record after a cold start (R58, R77). -/
def GaugeRec.cold : GaugeRec := { enabled := false, tipDepth := 200, dead := 80, stuck := 10 }

/-- A disarmed rule record (R65, R77, log entry 5). -/
def RuleRec.disarmed : RuleRec :=
  { level := .none, gauges := [], combine := .max, window := 0, raise := 0, clear := 0, hold := 0 }

/-- The SOUNDING defaults (R20). -/
def SoundingParams.defaults : SoundingParams :=
  { charge := 50, stuck := 16, speed := 343, drain := 3, dry := 60, watch := 15, storm := 5, recovery := 10, maintenance := 30, faultLimit := 5 }

/-- The DRAIN defaults (R121). -/
def DrainParams.defaults : DrainParams := { slots := 1, lotVolume := 500, lotTime := 900 }

/-- The ACTUATOR defaults (R160). -/
def ActuatorParams.defaults : ActuatorParams := { timeout := 40, retries := 2, nakBackoff := 250, nakLimit := 8, poll := 2 }

/-- The configuration image after a cold start (R190). -/
def Image.afterCold : Image :=
  { bays := Tab.all 8 BayRec.cold, outfalls := Tab.all 4 OutfallRec.cold, gauges := Tab.all 4 GaugeRec.cold
    rules := Tab.all 8 RuleRec.disarmed, devices := Tab.all 16 none
    terminals := Tab.all 12 { function := .unused, polarity := .activeHigh }
    alarms := Tab.all 4 { condition := .off, level := 0, grouping := .site, mask := 0 }
    sounding := SoundingParams.defaults, staleLimit := 4, dryLookback := 6, drain := DrainParams.defaults, margin := 50
    actuator := ActuatorParams.defaults }

/-- A period set that begins at a retention second (R91, R92). -/
def PeriodSet.begin_ (start : Nat) : PeriodSet :=
  { blocks := 0, dryBlocks := 0, events := 0, duration := 0, volume := 0, start := start }

/-- The other retained contents after a cold start (R190), the COLD flag set. -/
def Retained.afterCold : Retained :=
  { seconds := 0, micros := 0, offset := 0, clockSet := false, powerLoss := none, log := [], slots := Tab.all 4 none, nextId := some 1
    counts := Tab.all 4 { current := PeriodSet.begin_ 0, previous := PeriodSet.begin_ 0, blockEnd := 0 }
    lastRain := none, cold := true, checkGood := true }

/-- The scheduler at every start (R43). -/
def Sounding.start : Sounding :=
  { engine := none, supplyOn := false, supplyReady := false, expiries := 0, queue := [], urgentNext := 0
    channels := Tab.all 8 { health := .ok, bad := 0 }, last := Tab.all 8 none }

/-- A level record that has become NONE (R7, R57). -/
def LevelRecord.blank : LevelRecord :=
  { value := none, quality := .none, accepted := none, candidate := none, misses := 0, disagreed := false }

/-- A gauge that is not enabled (R59, R77). -/
def GaugeVol.blank : GaugeVol :=
  { stuck := false, history := [], minuteStart := 0, total := 0, lastTip := none, stuckDeadline := none }

/-- The drain scheduler at every start (R144). -/
def Drain.start : Drain :=
  { grants := [], counters := { granted := 0, consumed := 0, forfeited := 0, expired := 0, withdrawn := 0 }, armed := true
    orders := Tab.all 8 none }

/-- A device's volatile state at a start and after SET_DEVICE (R155, R175). -/
def DeviceVol.start : DeviceVol :=
  { state := .unknown, toggle := false, inStep := false, naks := 0, deadline := none, watch := none, nextPoll := none }

/-- The actuator line at every start (R175). -/
def Actuator.start : Actuator := { devices := Tab.all 16 DeviceVol.start, lasts := Tab.all 16 none, queue := [], current := none }

/-- The host line port at every start, before STARTED (R207). -/
def Port.start : Port :=
  { receiver := .hunting, slot := none, answering := none, notices := [], nextNumber := 0, frameLost := false, noticeLost := false }

/-- The STARTED notice of a cold start (R194, R203): number 0, second 0 of an unset clock. -/
def Notice.coldStarted : Notice :=
  { subject := 0, number := 0, unset := true, time := 0, detail := .started .cold none 0 false }

/-- The machine right after reset: a cold start has been made (R190, R191), main and backup supply are present, and
every terminal's raw level is low (log entry 4). -/
def State.reset : State :=
  { pending := [], run := .running, backup := true
    clock := { fast := 0, cause := .cold, startSecond := 0 }
    image := Image.afterCold, ret := Retained.afterCold, mode := .dry, snd := Sounding.start
    lvl := { records := Tab.all 8 LevelRecord.blank, floats := Tab.all 8 .absent }
    rain := { gauges := Tab.all 4 GaugeVol.blank, rules := Tab.all 8 { state := .disarmed, holdUntil := none }
              slots := Tab.all 4 .empty, alert := .none, nextRoll := 60 }
    spill := Tab.all 4 { state := .quiet, remainder := 0 }
    drn := Drain.start, inhibit := Tab.all 8 none, act := Actuator.start
    term := { pins := 0, debounced := 0, worksStop := false, lineActive := Tab.all 4 false }
    port := { Port.start with notices := [Notice.coldStarted], nextNumber := 1 }
    free := { delays := 0, schedule := [] } }

end Sys2Proof.Machine
end

