-- ==== Sys2Proof/Machine/Wire.lean ====
section
/-! DEFINITION. Byte order, the check of both lines, the codes of named values, and the byte layouts of the section Wire formats (R208 to R215). -/

namespace Sys2Proof.Machine

/-! ### Byte order and check (R208) -/

/-- The low byte of a number. -/
def byteOf (n : Nat) : Byte := BitVec.ofNat 8 n

/-- Two bytes, most significant first. -/
def be16 (n : Nat) : List Byte := [byteOf (n / 256), byteOf n]

/-- Three bytes, most significant first: the one such field, in BLOCK_CARRIED, follows the order that R208 gives fields of two and four bytes (log
entry 69). -/
def be24 (n : Nat) : List Byte := [byteOf (n / 65536), byteOf (n / 256), byteOf n]

/-- Four bytes, most significant first. -/
def be32 (n : Nat) : List Byte := [byteOf (n / 16777216), byteOf (n / 65536), byteOf (n / 256), byteOf n]

/-- The number that bytes spell, most significant first. -/
def beNat (bs : List Byte) : Nat := bs.foldl (fun n b => n * 256 + b.toNat) 0

/-- A signed two-byte field, in two's complement (R208). -/
def beInt16 (i : Int) : List Byte := be16 (BitVec.ofInt 16 i).toNat

/-- One bit of the check register: generator x^16 + x^12 + x^5 + 1. -/
def crcShift (r : BitVec 16) : BitVec 16 :=
  if r.msb then (r <<< 1) ^^^ 0x1021#16 else r <<< 1

/-- One byte into the check register, most significant bit first. -/
def crcByte (r : BitVec 16) (b : Byte) : BitVec 16 :=
  crcShift (crcShift (crcShift (crcShift (crcShift (crcShift (crcShift (crcShift (r ^^^ ((b.zeroExtend 16) <<< 8)))))))))

/-- The check of both lines: register initialised to all ones, no inversion of the result (R208). -/
def crc16 (bs : List Byte) : BitVec 16 := bs.foldl crcByte 0xFFFF#16

/-- The two check bytes over some bytes, high byte first. -/
def checkBytes (bs : List Byte) : List Byte := be16 (crc16 bs).toNat

/-! ### Codes (R210, R213, R214, R215) -/

def Result.code : Result → Nat
  | .ok => 0 | .accepted => 1 | .refusedKind => 2 | .refusedLength => 3 | .refusedRange => 4 | .refusedState => 5
  | .refusedFull => 6 | .refusedUnconfigured => 7

def Mode.code : Mode → Nat
  | .dry => 0 | .watch => 1 | .storm => 2 | .recovery => 3 | .maintenance => 4

/-- The code of an alert level, which is also its rank (R72, R210). -/
def Alert.rank : Alert → Nat
  | .none => 0 | .advisory => 1 | .warning => 2 | .severe => 3

/-- The alert level that a code names (R212). -/
def Alert.ofCode? : Nat → Option Alert
  | 0 => some .none | 1 => some .advisory | 2 => some .warning | 3 => some .severe | _ => Option.none

def Quality.code : Quality → Nat
  | .none => 0 | .good => 1 | .held => 2 | .float => 3 | .stale => 4

def ReadingResult.code : ReadingResult → Nat
  | .good => 0 | .lostEcho => 1 | .outOfRange => 2 | .driveFault => 3 | .interfered => 4

def DriveFault.code : Option DriveFault → Nat
  | none => 0 | some .stuck => 1 | some .short => 2

def StartCause.code : StartCause → Nat
  | .cold => 0 | .warm => 1 | .restart => 2

def SpillClass.code : SpillClass → Nat
  | .rain => 0 | .dry => 1

/-- The code of an end cause; 0 while the record is open (R214). -/
def EndCause.code : Option EndCause → Nat
  | none => 0 | some .ended => 1 | some .powerLoss => 2 | some .restart => 3

def BlockOutcome.code : BlockOutcome → Nat
  | .opened => 0 | .merged => 1

def ModeOrigin.code : ModeOrigin → Nat
  | .site => 0 | .host => 1

def AlertCause.code : AlertCause → Nat
  | .rule => 0 | .slot => 1

def DrainCause.code : DrainCause → Nat
  | .done => 0 | .host => 1 | .planner => 2 | .stalled => 3 | .openFailed => 4 | .deviceFailed => 5 | .shutRecovered => 6
  | .shutFailed => 7 | .reshutFailed => 8

def Failure.code : Option Failure → Nat
  | none => 0 | some .lost => 1 | some .faulted => 2 | some .hand => 3 | some .superseded => 4

def ClosingCause.code : Option ClosingCause → Nat
  | none => 0 | some .done => 1 | some .gap => 2 | some .cancel => 3 | some .stalled => 4 | some .worksStop => 5 | some .gauge => 6
  | some .openFailed => 7 | some .deviceFailed => 8

def DeviceStateName.code : DeviceStateName → Nat
  | .unknown => 0 | .closed => 1 | .opened => 2 | .moving => 3 | .faulted => 4 | .lost => 5 | .hand => 6

def AnnouncedCause.code : AnnouncedCause → Nat
  | .reported => 1 | .busy => 2 | .moveTimeout => 3 | .timeout => 4 | .badReply => 5 | .hand => 6

def LineCommand.code : LineCommand → Nat
  | .engage => 1 | .release => 2 | .reset => 3 | .query => 4

def DeviceKind.code : DeviceKind → Nat
  | .gate => 1 | .pump => 2

/-! ### The notice (R203, R204, R213) -/

namespace NoticeDetail

/-- The kind code of a notice (R213). -/
def code : NoticeDetail → Nat
  | .started .. => 1 | .modeChanged .. => 2 | .alertChanged .. => 3 | .spillStarted .. => 4 | .spillEnded .. => 5
  | .blockCarried .. => 6 | .logFull .. => 7 | .drainDone .. => 8 | .drainCancelled .. => 9 | .drainFault .. => 10
  | .creditsWanted .. => 11 | .creditExpired .. => 12 | .gaugeFault .. => 13 | .gaugeRecovered .. => 14 | .floatDisagree .. => 15
  | .rainGaugeStuck .. => 16 | .supplyFault .. => 17 | .deviceFault .. => 18 | .deviceRestored .. => 19

/-- The informational kinds (R204). -/
def informational : NoticeDetail → Bool
  | .modeChanged .. | .drainDone .. | .creditExpired .. | .gaugeRecovered .. | .deviceRestored .. => true
  | .started .. | .alertChanged .. | .spillStarted .. | .spillEnded .. | .blockCarried .. | .logFull .. | .drainCancelled ..
  | .drainFault .. | .creditsWanted .. | .gaugeFault .. | .floatDisagree .. | .rainGaugeStuck .. | .supplyFault .. | .deviceFault .. => false

end NoticeDetail

/-- A record id in a detail: 0 for the aggregate mark (R213). -/
def idBytes (id : Option Nat) : List Byte := be32 (id.getD 0)

/-- The named bytes of a drain notice's detail (R213). -/
def DrainDetail.bytes (d : DrainDetail) : List Byte :=
  be16 d.lots ++ be32 d.total ++ [byteOf d.cause.code, byteOf (Failure.code d.failure * 16 + ClosingCause.code d.closing)]

/-- The named bytes of a detail (R213). -/
def NoticeDetail.named : NoticeDetail → List Byte
  | .started c p n s => [byteOf c.code] ++ be32 (p.getD 0) ++ [byteOf n, if s then 1 else 0]
  | .modeChanged o n g => [byteOf o.code, byteOf n.code, byteOf g.code]
  | .alertChanged o n c => [byteOf o.rank, byteOf n.rank, byteOf c.code]
  | .spillStarted id c b h => idBytes id ++ [byteOf c.code, byteOf b.code] ++ beInt16 h
  | .spillEnded id c m => idBytes id ++ [byteOf (EndCause.code (some c))] ++ be16 (min m Config.max16)
  | .blockCarried id sec b => idBytes id ++ be24 sec ++ [byteOf (min b 255)]
  | .logFull id a o => be32 id ++ [byteOf a, byteOf o]
  | .drainDone d => d.bytes
  | .drainCancelled d => d.bytes
  | .drainFault d => d.bytes
  | .creditsWanted e f => [byteOf e, byteOf f]
  | .creditExpired l x p => [byteOf l] ++ be32 x ++ be16 p
  | .gaugeFault r b f => [byteOf r.code, byteOf b, byteOf (DriveFault.code f)]
  | .gaugeRecovered b => [byteOf b]
  | .floatDisagree v h q => be16 v ++ be16 h ++ [byteOf q.code]
  | .rainGaugeStuck t s => [byteOf t, byteOf s]
  | .supplyFault n b => [byteOf n, byteOf b]
  | .deviceFault s c cmd a => [byteOf s.code, byteOf c.code, byteOf cmd.code, byteOf a]
  | .deviceRestored o n => [byteOf o.code, byteOf n.code]

/-- The eight detail bytes: those not named for the kind are 0 (R213). -/
def NoticeDetail.bytes (d : NoticeDetail) : List Byte := (d.named ++ List.replicate 8 0).take 8

/-- The 16 bytes of a notice (R213). -/
def Notice.bytes (n : Notice) : List Byte :=
  [byteOf n.detail.code, byteOf n.subject, byteOf n.number, if n.unset then 1 else 0] ++ be32 n.time ++ n.detail.bytes

/-! ### The spill record (R214) -/

/-- The flag byte of a spill record. -/
def SpillRecord.flagByte (r : SpillRecord) : Byte :=
  byteOf ((if r.clockUnset then 1 else 0) + (if r.clockLate then 2 else 0) + (if r.gap then 4 else 0) + (if r.aggregate then 8 else 0))

/-- The 30 bytes of a spill record, with the duration it holds. -/
def LogEntry.bytes (e : LogEntry) : List Byte :=
  be32 e.id ++ [byteOf e.record.outfall.val, byteOf e.record.cls.code] ++ be32 e.record.start ++ be32 (e.record.finish.getD 0)
    ++ [byteOf (EndCause.code e.record.cause)] ++ be32 e.record.duration ++ be16 e.record.peak ++ be32 e.record.volume
    ++ be16 e.record.blocks ++ [e.record.flagByte] ++ be16 e.record.merged

/-! ### Replies (R209, R210) -/

/-- The flag byte of the reply head (R210). -/
def StatusFlags.byte (f : StatusFlags) : Byte :=
  byteOf ((if f.attn then 1 else 0) + (if f.frameLost then 2 else 0) + (if f.noticeLost then 4 else 0) + (if f.clockUnset then 8 else 0)
    + (if f.logFull then 16 else 0) + (if f.worksStop then 32 else 0) + (if f.cold then 64 else 0) + (if f.suspect then 128 else 0))

/-- The seven bytes of the reply head (R210). -/
def Reply.head (r : Reply) : List Byte :=
  [byteOf r.result.code, byteOf r.summary.mode.code, byteOf r.summary.alert.rank, byteOf r.summary.notices, r.summary.flags.byte]
    ++ be16 r.summary.credits

/-- The bytes of a reply body, where the manual gives its layout (R213, R214; log entry 13). -/
def ReplyBody.bytes? : ReplyBody → Option (List Byte)
  | .empty => some []
  | .notices left ns => some ([byteOf ns.length, byteOf left] ++ ns.flatMap Notice.bytes)
  | .spills r => some ([byteOf r.held] ++ be32 (r.oldest.getD 0) ++ be32 (r.newest.getD 0) ++ be32 (r.next.getD 0)
      ++ [byteOf r.records.length] ++ r.records.flatMap LogEntry.bytes)
  | _ => none

/-- A host frame with its start byte and its check (R209). -/
def hostFrame (seq kind : Byte) (body : List Byte) : List Byte :=
  let covered := [byteOf body.length, seq, kind] ++ body
  [0xA5#8] ++ covered ++ checkBytes covered

/-- The frame of a reply, where its body has a layout. -/
def Reply.frame? (r : Reply) : Option (List Byte) := r.body.bytes?.map fun b => hostFrame r.seq r.kind (r.head ++ b)

/-! ### The actuator line (R215) -/

/-- The six bytes of a request frame. -/
def lineFrame (address : Nat) (c : LineCommand) (toggle : Bool) : List Byte :=
  let covered := [byteOf address, byteOf c.code, if toggle then 1 else 0]
  [0xC3#8] ++ covered ++ checkBytes covered

/-- A reply's status (R157, R215). -/
inductive LineStatus where
  | ack | nak | fault | hand
  deriving DecidableEq, Repr

/-- A reply's position (R157, R215). -/
inductive LinePosition where
  | closed | opened | moving | fault
  deriving DecidableEq, Repr

def LineStatus.ofCode? : Nat → Option LineStatus
  | 0 => some .ack | 1 => some .nak | 2 => some .fault | 3 => some .hand | _ => none

def LinePosition.ofCode? : Nat → Option LinePosition
  | 0 => some .closed | 1 => some .opened | 2 => some .moving | 3 => some .fault | _ => none

/-- The frame of nine bytes that received bytes hold, once the bytes before the start byte are discarded; `none` while no whole frame
has arrived (R215, log entry 41). -/
def replyFrame (bytes : List Byte) : Option (List Byte) :=
  let f := bytes.dropWhile (fun b => b != 0x3C#8)
  if 9 ≤ f.length then some (f.take 9) else none

/-- The status and the position of a frame that is valid for what the transaction expects; `none` for a bad reply
(R164, R215). The toggle echo is tested for ENGAGE and RELEASE alone. -/
def judgeReply (address : Nat) (kind : DeviceKind) (exchange : LineCommand) (toggle : Bool) (frame : List Byte) :
    Option (LineStatus × LinePosition) :=
  match frame with
  | [_, a, k, c, t, s, p, hi, lo] =>
    if checkBytes [a, k, c, t, s, p] = [hi, lo] ∧ a.toNat = address ∧ k.toNat = kind.code ∧ c.toNat = exchange.code
        ∧ ((exchange = .engage ∨ exchange = .release) → t.toNat = (if toggle then 1 else 0)) then
      match LineStatus.ofCode? s.toNat, LinePosition.ofCode? p.toNat with
      | some st, some po => some (st, po)
      | _, _ => none
    else none
  | _ => none

end Sys2Proof.Machine
end

