-- ==== Sys2Proof/Machine/Operands.lean ====
section
/-! DEFINITION. The operand forms of the host's requests: kinds (R211), bodies read from their bytes (R212), and the same bodies written as bytes. -/

namespace Sys2Proof.Machine

/-- One byte's number in a body. -/
def u8 (bs : List Byte) (at_ : Nat) : Nat := (bs.getD at_ 0).toNat

/-- A two-byte field of a body, most significant byte first (R208). -/
def u16 (bs : List Byte) (at_ : Nat) : Nat := beNat ((bs.drop at_).take 2)

/-- A four-byte field of a body. -/
def u32 (bs : List Byte) (at_ : Nat) : Nat := beNat ((bs.drop at_).take 4)

/-- The body's fields, where it has the length its kind asks for (R212). -/
def ofLength {α : Type} (n : Nat) (bs : List Byte) (f : List Byte → α) : Body α :=
  if bs.length = n then .fields (f bs) else .wrongLength

/-- An empty body (R212). -/
def emptyBody (bs : List Byte) : Body Unit := ofLength 0 bs fun _ => ()

/-- A body of one byte. -/
def byteBody (bs : List Byte) : Body Nat := ofLength 1 bs fun b => u8 b 0

/-- Eight stage points of six bytes each, from an offset. -/
def stagePoints (bs : List Byte) (at_ : Nat) : List StagePoint :=
  [0, 1, 2, 3, 4, 5, 6, 7].map fun i => { level := u16 bs (at_ + 6 * i), volume := u32 bs (at_ + 6 * i + 2) }

/-- Eight weir points of six bytes each, from an offset. -/
def weirPoints (bs : List Byte) (at_ : Nat) : List WeirPoint :=
  [0, 1, 2, 3, 4, 5, 6, 7].map fun i => { head := u16 bs (at_ + 6 * i), flow := u32 bs (at_ + 6 * i + 2) }

/-- SET_PARAMS by its group byte (R211, R212). -/
def parseParams (bs : List Byte) : Request :=
  match bs with
  | [] => .setParamsEmpty
  | g :: _ =>
    match g.toNat with
    | 1 => .setParamsSounding (ofLength 17 bs fun b =>
        { charge := u8 b 1, stuck := u8 b 2, speed := u16 b 3, drain := u8 b 5, dry := u16 b 6, watch := u16 b 8, storm := u16 b 10
          recovery := u16 b 12, maintenance := u16 b 14, faultLimit := u8 b 16 })
    | 2 => .setParamsLevel (ofLength 2 bs fun b => u8 b 1)
    | 3 => .setParamsRain (ofLength 2 bs fun b => u8 b 1)
    | 4 => .setParamsDrain (ofLength 6 bs fun b => { slots := u8 b 1, lotVolume := u16 b 2, lotTime := u16 b 4 })
    | 5 => .setParamsPlanner (ofLength 3 bs fun b => u16 b 1)
    | 6 => .setParamsActuator (ofLength 7 bs fun b =>
        { timeout := u8 b 1, retries := u8 b 2, nakBackoff := u16 b 3, nakLimit := u8 b 5, poll := u8 b 6 })
    | _ => .setParamsNoGroup

/-- SET_BAY's 75 bytes (R212). -/
def parseBay (bs : List Byte) : Body BayFields :=
  ofLength 75 bs fun b =>
    { bay := u8 b 0, enabled := u8 b 1, frequency := u8 b 2, pulses := u8 b 3, blanking := u8 b 4, step := u8 b 5, tolerance := u8 b 6
      mounting := u16 b 7, empty := u16 b 9, fill := u16 b 11, drawdown := u16 b 13, high := u16 b 15, crest := u16 b 17
      slew := u16 b 19, dest := u8 b 21, device := u8 b 22, rank := u8 b 23, floatHeight := u16 b 24, count := u8 b 26
      points := stagePoints b 27 }

/-- SET_OUTFALL's 55 bytes (R212). -/
def parseOutfall (bs : List Byte) : Body OutfallFields :=
  ofLength 55 bs fun b =>
    { outfall := u8 b 0, onset := u8 b 1, hysteresis := u8 b 2, tail := u16 b 3, blockHours := u8 b 5, count := u8 b 6
      points := weirPoints b 7 }

/-- SET_RULE's 18 bytes (R212). -/
def parseRule (bs : List Byte) : Body RuleFields :=
  ofLength 18 bs fun b =>
    { rule := u8 b 0, level := u8 b 1, count := u8 b 2, gauges := [u8 b 3, u8 b 4, u8 b 5, u8 b 6], combine := u8 b 7, window := u8 b 8
      raise := u32 b 9, clear := u32 b 13, hold := u8 b 17 }

/-- A request from its kind and its body bytes (R198, R211, R212). -/
def parseRequest (kind : Byte) (bs : List Byte) : Request :=
  match kind.toNat with
  | 0x01 => .getStatus (emptyBody bs)
  | 0x02 => .fetchNotices (byteBody bs)
  | 0x03 => .getClock (emptyBody bs)
  | 0x04 => .setClock (ofLength 4 bs fun b => u32 b 0)
  | 0x05 => .restart (emptyBody bs)
  | 0x08 => parseParams bs
  | 0x10 => .setBay (parseBay bs)
  | 0x11 => .setOutfall (parseOutfall bs)
  | 0x12 => .setMode (byteBody bs)
  | 0x18 => .sound (byteBody bs)
  | 0x19 => .getSounding (emptyBody bs)
  | 0x1C => .getBay (byteBody bs)
  | 0x20 => .setGauge (ofLength 7 bs fun b =>
      { gauge := u8 b 0, enabled := u8 b 1, tipDepth := u16 b 2, dead := u16 b 4, stuck := u8 b 6 })
  | 0x21 => .setRule (parseRule bs)
  | 0x22 => .forecast (ofLength 6 bs fun b => { slot := u8 b 0, level := u8 b 1, delay := u16 b 2, duration := u16 b 4 })
  | 0x23 => .getRain (emptyBody bs)
  | 0x24 => .readRainMinutes (byteBody bs)
  | 0x28 => .getOutfall (byteBody bs)
  | 0x29 => .closePeriod (byteBody bs)
  | 0x2C => .readSpills (ofLength 5 bs fun b => { fromId := u32 b 0, count := u8 b 4 })
  | 0x2D => .releaseSpills (ofLength 4 bs fun b => u32 b 0)
  | 0x30 => .grant (ofLength 3 bs fun b => { count := u8 b 0, lifetime := u16 b 1 })
  | 0x31 => .withdraw (ofLength 2 bs fun b => u16 b 0)
  | 0x32 => .drain (ofLength 4 bs fun b => { bay := u8 b 0, lots := u8 b 1, target := u16 b 2 })
  | 0x33 => .stopDrain (byteBody bs)
  | 0x34 => .reshut (byteBody bs)
  | 0x35 => .getCredits (emptyBody bs)
  | 0x38 => .inhibitAuto (ofLength 2 bs fun b => { bay := u8 b 0, value := u8 b 1 })
  | 0x39 => .getPlanner (emptyBody bs)
  | 0x40 => .setDevice (ofLength 7 bs fun b =>
      { device := u8 b 0, configured := u8 b 1, address := u8 b 2, kind := u8 b 3, completion := u8 b 4, limit := u16 b 5 })
  | 0x41 => .clearDevice (byteBody bs)
  | 0x42 => .pollDevice (byteBody bs)
  | 0x43 => .getDevice (byteBody bs)
  | 0x48 => .setTerminal (ofLength 4 bs fun b => { terminal := u8 b 0, function := u8 b 1, parameter := u8 b 2, polarity := u8 b 3 })
  | 0x49 => .setAlarmLine (ofLength 5 bs fun b =>
      { line := u8 b 0, condition := u8 b 1, level := u8 b 2, grouping := u8 b 3, mask := b.getD 4 0 })
  | 0x4A => .getTerminals (emptyBody bs)
  | _ => .unknownKind kind

/-- The kind of a request (R211). -/
def requestKind : Request → Byte
  | .getStatus _ => 0x01 | .fetchNotices _ => 0x02 | .getClock _ => 0x03 | .setClock _ => 0x04 | .restart _ => 0x05
  | .setParamsSounding _ | .setParamsLevel _ | .setParamsRain _ | .setParamsDrain _ | .setParamsPlanner _ | .setParamsActuator _
  | .setParamsEmpty | .setParamsNoGroup => 0x08
  | .setBay _ => 0x10 | .setOutfall _ => 0x11 | .setMode _ => 0x12 | .sound _ => 0x18 | .getSounding _ => 0x19 | .getBay _ => 0x1C
  | .setGauge _ => 0x20 | .setRule _ => 0x21 | .forecast _ => 0x22 | .getRain _ => 0x23 | .readRainMinutes _ => 0x24
  | .getOutfall _ => 0x28 | .closePeriod _ => 0x29 | .readSpills _ => 0x2C | .releaseSpills _ => 0x2D
  | .grant _ => 0x30 | .withdraw _ => 0x31 | .drain _ => 0x32 | .stopDrain _ => 0x33 | .reshut _ => 0x34 | .getCredits _ => 0x35
  | .inhibitAuto _ => 0x38 | .getPlanner _ => 0x39
  | .setDevice _ => 0x40 | .clearDevice _ => 0x41 | .pollDevice _ => 0x42 | .getDevice _ => 0x43
  | .setTerminal _ => 0x48 | .setAlarmLine _ => 0x49 | .getTerminals _ => 0x4A
  | .unknownKind k => k

/-- The kind of the reply to a request (R199, R211): the request's kind plus 128, but the request's own kind where it is 128 or above. -/
def replyKind (r : Request) : Byte :=
  if (requestKind r).toNat < 128 then requestKind r + 128#8 else requestKind r

end Sys2Proof.Machine
end

