-- ==== Sys2Proof/Machine/Ops.lean ====
section
/-! DEFINITION. The named operations shared by all blocks: the setters of State, the passing of time, site time, the posting of notices, and free orders. -/

namespace Sys2Proof.Machine

/-! ### Setters, one for each field of State -/

/-- The state with another `pending`. -/
def State.withPending (s : State) (x : List Instr) : State := { s with pending := x }
/-- The state with another `run`. -/
def State.withRun (s : State) (x : Run) : State := { s with run := x }
/-- The state with another `backup`. -/
def State.withBackup (s : State) (x : Bool) : State := { s with backup := x }
/-- The state with another `clock`. -/
def State.withClock (s : State) (x : Clock) : State := { s with clock := x }
/-- The state with another `image`. -/
def State.withImage (s : State) (x : Image) : State := { s with image := x }
/-- The state with another `ret`. -/
def State.withRet (s : State) (x : Retained) : State := { s with ret := x }
/-- The state with another `mode`. -/
def State.withMode (s : State) (x : Mode) : State := { s with mode := x }
/-- The state with another `snd`. -/
def State.withSnd (s : State) (x : Sounding) : State := { s with snd := x }
/-- The state with another `lvl`. -/
def State.withLvl (s : State) (x : Levels) : State := { s with lvl := x }
/-- The state with another `rain`. -/
def State.withRain (s : State) (x : Rain) : State := { s with rain := x }
/-- The state with another `spill`. -/
def State.withSpill (s : State) (x : Tab 4 OutfallVol) : State := { s with spill := x }
/-- The state with another `drn`. -/
def State.withDrn (s : State) (x : Drain) : State := { s with drn := x }
/-- The state with another `inhibit`. -/
def State.withInhibit (s : State) (x : Tab 8 (Option InhibitCause)) : State := { s with inhibit := x }
/-- The state with another `act`. -/
def State.withAct (s : State) (x : Actuator) : State := { s with act := x }
/-- The state with another `term`. -/
def State.withTerm (s : State) (x : Terminals) : State := { s with term := x }
/-- The state with another `port`. -/
def State.withPort (s : State) (x : Port) : State := { s with port := x }
/-- The state with another `free`. -/
def State.withFree (s : State) (x : Free) : State := { s with free := x }

/-! ### Setters of cells -/

/-- The state with another bay record. -/
def State.setBayRec (s : State) (b : Fin 8) (r : BayRec) : State := s.withImage { s.image with bays := s.image.bays.put b r }
/-- The state with another level record. -/
def State.setLevel (s : State) (b : Fin 8) (r : LevelRecord) : State := s.withLvl { s.lvl with records := s.lvl.records.put b r }
/-- The state with another float state. -/
def State.setFloat (s : State) (b : Fin 8) (f : FloatState) : State := s.withLvl { s.lvl with floats := s.lvl.floats.put b f }
/-- The state with another order, or none, for a bay. -/
def State.setOrder (s : State) (b : Fin 8) (o : Option Order) : State := s.withDrn { s.drn with orders := s.drn.orders.put b o }
/-- The state with the volatile state of a device changed. -/
def State.setDevice (s : State) (d : Fin 16) (v : DeviceVol) : State := s.withAct { s.act with devices := s.act.devices.put d v }
/-- The state with the last outcome of a device changed. -/
def State.setLast (s : State) (d : Fin 16) (x : Option LastOutcome) : State := s.withAct { s.act with lasts := s.act.lasts.put d x }
/-- The state with the volatile state of an outfall changed. -/
def State.setOutfall (s : State) (k : Fin 4) (v : OutfallVol) : State := s.withSpill (s.spill.put k v)
/-- The state with the retained counts of an outfall changed. -/
def State.setCounts (s : State) (k : Fin 4) (c : OutfallCounts) : State := s.withRet { s.ret with counts := s.ret.counts.put k c }
/-- The state with the volatile state of a gauge changed. -/
def State.setGauge (s : State) (g : Fin 4) (v : GaugeVol) : State := s.withRain { s.rain with gauges := s.rain.gauges.put g v }

/-- The bay record of a bay. -/
def State.bay (s : State) (b : Fin 8) : BayRec := s.image.bays.at_ b
/-- The accepted level record of a bay. -/
def State.level (s : State) (b : Fin 8) : LevelRecord := s.lvl.records.at_ b
/-- The order of a bay. -/
def State.order (s : State) (b : Fin 8) : Option Order := s.drn.orders.at_ b
/-- The volatile state of a device. -/
def State.device (s : State) (d : Fin 16) : DeviceVol := s.act.devices.at_ d
/-- The last outcome of a device. -/
def State.last (s : State) (d : Fin 16) : Option LastOutcome := s.act.lasts.at_ d
/-- The spill state of an outfall. -/
def State.spillState (s : State) (k : Fin 4) : SpillState := (s.spill.at_ k).state
/-- The present retention second. -/
def State.now (s : State) : Nat := s.ret.seconds

/-! ### Time (R187; log entries 1, 2) -/

/-- Time passes. Retention seconds advance while main or backup supply is present, fast time while the part runs. -/
def advance (us : Nat) (s : State) : State :=
  let t := s.ret.micros + us
  let s1 := if s.run = .stopped ∧ s.backup = false then s
    else s.withRet { s.ret with seconds := s.ret.seconds + t / 1000000, micros := t % 1000000 }
  if s.run = .running then s1.withClock { s1.clock with fast := s1.clock.fast + us } else s1

/-- The command's moment comes: time passes and the raw levels are as it gives them (log entry 1). -/
def arrive (m : Moment) (s : State) : State :=
  let s1 := advance m.elapsed s
  s1.withTerm { s1.term with pins := m.pins }

/-- The clocks stand at a retention second or later (log entry 2). -/
def reachSecond (t : Nat) (s : State) : State := advance (t * 1000000 - (s.ret.seconds * 1000000 + s.ret.micros)) s

/-- Fast time stands at a microsecond or later (log entry 2). -/
def reachFast (t : Nat) (s : State) : State := advance (t - s.clock.fast) s

/-! ### Site time (R188) -/

/-- Site time of a retention second, held at the top. -/
def siteTime (s : State) (t : Nat) : Nat := min (t + s.ret.offset) Config.max32

/-- A retention second as it is written or reported: site time, or itself while the clock is unset (R100, R188, R203). -/
def written (s : State) (t : Nat) : Nat := if s.ret.clockSet then siteTime s t else t

/-- A retention second with its unset mark (R188). -/
def stampOf (s : State) (t : Nat) : Stamp := { unset := !s.ret.clockSet, time := written s t }

/-! ### Notices (R203, R204) -/

/-- A notice joins the queue, or is handled by the overflow rule (R204). -/
def addNotice (n : Notice) (p : Port) : Port :=
  if p.notices.length < Config.noticeCap then { p with notices := p.notices ++ [n] }
  else if p.notices.any (fun x => x.detail.informational) then
    { p with notices := p.notices.eraseP (fun x => x.detail.informational) ++ [n], noticeLost := true }
  else { p with noticeLost := true }

/-- A block posts a notice whose time is a retention second that its rule gives (R203). -/
def postAt (t subject : Nat) (d : NoticeDetail) (s : State) : State :=
  let n : Notice := { subject := subject, number := s.port.nextNumber, unset := !s.ret.clockSet, time := written s t, detail := d }
  s.withPort (addNotice n { s.port with nextNumber := (s.port.nextNumber + 1) % 256 })

/-- A block posts a notice at the present second (R203). -/
def post (subject : Nat) (d : NoticeDetail) (s : State) : State := postAt s.now subject d s

/-! ### Free orders (log entry 7) -/

/-- The next entry of the schedule, 0 where it is empty. -/
def choice (s : State) : Nat := s.free.schedule.headD 0

/-- The schedule without its next entry. -/
def dropChoice (s : State) : State := s.withFree { s.free with schedule := s.free.schedule.tail }

/-- A permutation of a list, named by a number; 0 names the list's own order. -/
def permute {α : Type} : Nat → Nat → List α → List α
  | 0, _, l => l
  | n + 1, c, l =>
    match l[c % l.length]? with
    | none => l
    | some x => x :: permute n (c / l.length) (l.eraseIdx (c % l.length))

/-! ### Bounded counts and interpolation -/

/-- A sum held at the top of its range (R84, R91, R99, R120). -/
def addHeld (top a b : Nat) : Nat := min top (a + b)

/-- Linear interpolation between two points, truncated (R12, R55). -/
def between (x0 y0 x1 y1 x : Nat) : Nat := y0 + (x - x0) * (y1 - y0) / (x1 - x0)

/-- The value of a table of points at `x`, from the point before: clamped at the last point (R12, R55). -/
def interpolate (x0 y0 : Nat) : List (Nat × Nat) → Nat → Nat
  | [], _ => y0
  | (x1, y1) :: rest, x => if x < x1 then between x0 y0 x1 y1 x else interpolate x1 y1 rest x

/-- The volume of a level through a stage table (R55). -/
def volumeAt (stage : List StagePoint) (level : Nat) : Nat :=
  match stage with
  | [] => 0
  | p :: rest => if level ≤ p.level then p.volume else interpolate p.level p.volume (rest.map fun q => (q.level, q.volume)) level

/-- The flow over a weir at a head (R12). -/
def weirFlow (weir : List WeirPoint) (head : Int) : Nat :=
  if head ≤ 0 then 0 else interpolate 0 0 (weir.map fun p => (p.head, p.flow)) head.toNat

/-! ### The cascade (R1, R10) -/

/-- The reference bay of an outfall. -/
def refBay (s : State) (k : Fin 4) : Option (Fin 8) :=
  allBays.find? fun b => (s.bay b).enabled && (s.bay b).dest == .outfall k

/-- The outfall whose reference bay a bay is. -/
def outfallOf (s : State) (b : Fin 8) : Option (Fin 4) :=
  if (s.bay b).enabled then match (s.bay b).dest with
    | .outfall k => some k
    | .nextBay => none
  else none

/-- Whether an outfall is in service (R10). -/
def inService (s : State) (k : Fin 4) : Bool := (s.image.outfalls.at_ k).configured && (refBay s k).isSome

/-- The volume of a bay's record: absent while the quality is NONE (R55). -/
def volumeOf (s : State) (b : Fin 8) : Option Nat := (s.level b).value.map (volumeAt (s.bay b).stage)

/-- The enabled bay whose drain device a device is (R156, R174). -/
def bayOfDevice (s : State) (d : Fin 16) : Option (Fin 8) :=
  allBays.find? fun b => (s.bay b).enabled && (s.bay b).device == some d

end Sys2Proof.Machine
end

