-- ==== Sys2Proof/Machine/Flags.lean ====
section
/-! DEFINITION. Conditions computed from the state: the inputs of the site mode, the status summary, terminal levels, the alarm lines. -/

namespace Sys2Proof.Machine

/-! ### Inputs of the site mode (R14) -/

/-- An outfall is not QUIET. -/
def notQuiet (s : State) (k : Fin 4) : Bool := s.spillState k != .quiet

/-- The input "spilling" (R14). -/
def spilling (s : State) : Bool := allOutfalls.any (notQuiet s)

/-- A bay counts as filled (R14, R54). -/
def bayFilled (s : State) (b : Fin 8) : Bool :=
  (s.bay b).enabled && ((s.level b).quality == .good || (s.level b).quality == .float)
    && (match (s.level b).value with
        | some v => decide ((s.bay b).fill < v)
        | none => false)

/-- The input "filled" (R14). -/
def filled (s : State) : Bool := allBays.any (bayFilled s)

/-- A bay counts as empty (R14, R54). -/
def bayEmpty (s : State) (b : Fin 8) : Bool :=
  (s.level b).quality == .good
    && (match (s.level b).value with
        | some v => decide (v ≤ (s.bay b).empty)
        | none => false)

/-- The input "all empty" (R14). -/
def allEmpty (s : State) : Bool :=
  allBays.all (fun b => !(s.bay b).enabled || bayEmpty s b) && allBays.all (fun b => (s.order b).isNone)

/-- The first transition of a mode whose condition holds (R15). -/
def modeTransition (alert : Alert) (isFilled isSpilling isEmpty : Bool) (m : Mode) : Option Mode :=
  match m with
  | .dry => if isFilled then some .storm else if 1 ≤ alert.rank then some .watch else none
  | .watch => if isFilled then some .storm else if alert = .none then some .dry else none
  | .storm => if alert = .none ∧ isSpilling = false then some .recovery else none
  | .recovery =>
    if 2 ≤ alert.rank ∨ isSpilling = true then some .storm
    else if isEmpty = true then some .dry else none
  | .maintenance => none

/-- An evaluation of the mode from a mode (R15): transitions until none holds. Four rounds are more than the two that R15 allows. -/
def settle : Nat → Alert → Bool → Bool → Bool → Mode → Mode
  | 0, _, _, _, _, m => m
  | n + 1, a, f, sp, e, m =>
    match modeTransition a f sp e m with
    | none => m
    | some m' => settle n a f sp e m'

/-- The settled mode of an evaluation from a mode, on the present inputs (R15). -/
def settledFrom (s : State) (m : Mode) : Mode := settle 4 s.rain.alert (filled s) (spilling s) (allEmpty s) m

/-! ### The status summary (R200) -/

/-- The pool: the sum of the remaining counts (R115). -/
def pool (s : State) : Nat := (s.drn.grants.map fun g => g.count).sum

/-- At least one drain order is SUSPECT (R125). -/
def anySuspect (s : State) : Bool :=
  allBays.any fun b => match s.order b with
    | some o => o.state == .suspect
    | none => false

/-- ATTN is asserted: the queue holds a notice, and main power is present. It stays asserted between the reply to a RESTART and the START
(R206; log entry 49). -/
def attn (s : State) : Bool := s.run != .stopped && !s.port.notices.isEmpty

/-- The flags of the status summary (R200). -/
def statusFlags (s : State) : StatusFlags :=
  { attn := attn s, frameLost := s.port.frameLost, noticeLost := s.port.noticeLost, clockUnset := !s.ret.clockSet
    logFull := decide (Config.logCap ≤ s.ret.log.length), worksStop := s.term.worksStop, cold := s.ret.cold, suspect := anySuspect s }

/-- The status summary (R200). -/
def summary (s : State) : Summary :=
  { mode := s.mode, alert := s.rain.alert, notices := s.port.notices.length, flags := statusFlags s, credits := pool s }

/-! ### Terminals (R176, R179) -/

/-- The terminal that holds a function, if any. -/
def terminalOf (s : State) (f : TerminalFunction) : Option (Fin 12) :=
  allTerminals.find? fun t => (s.image.terminals.at_ t).function == f

/-- An input is active: its debounced level is the one its polarity names (R179). -/
def inputActive (s : State) (t : Fin 12) : Bool :=
  match (s.image.terminals.at_ t).polarity with
  | .activeHigh => s.term.debounced.getLsbD t.val
  | .activeLow => !s.term.debounced.getLsbD t.val

/-- The level of an ALARM terminal by its polarity and its line's activity, high where true (R183). -/
def drivenHigh (s : State) (t : Fin 12) (line : Fin 4) : Bool :=
  match (s.image.terminals.at_ t).polarity with
  | .activeHigh => s.term.lineActive.at_ line
  | .activeLow => !s.term.lineActive.at_ line

/-- What the part drives at a terminal's pin, high where true; `none` where it drives nothing: at an input (R176, R178), and at every terminal
while main power is absent (R183). -/
def pinDrive (s : State) (t : Fin 12) : Option Bool :=
  if s.run = .stopped then none
  else match (s.image.terminals.at_ t).function with
    | .alarm line => some (drivenHigh s t line)
    | .unused | .float _ | .gauge _ | .worksStop => none

/-! ### Alarm lines (R182) -/

/-- The bays of a line's group (R182). -/
def inGroup (g : Grouping) (line : Fin 4) (b : Fin 8) : Bool :=
  match g with
  | .block => b.val / 2 == line.val
  | .stride => b.val % 4 == line.val
  | .site => true

/-- The bays a line covers (R182). -/
def covered (s : State) (line : Fin 4) : List (Fin 8) :=
  let r := s.image.alarms.at_ line
  allBays.filter fun b => (s.bay b).enabled && inGroup r.grouping line b && r.mask.getLsbD b.val

/-- A bay meets the condition SPILL (R1, R182). -/
def meetsSpill (s : State) (b : Fin 8) : Bool :=
  match outfallOf s b with
  | some k => notQuiet s k
  | none => false

/-- A bay meets the condition HIGH (R182). -/
def meetsHigh (s : State) (b : Fin 8) : Bool :=
  (((s.level b).quality == .good || (s.level b).quality == .float)
    && (match (s.level b).value with
        | some v => decide ((s.bay b).high ≤ v)
        | none => false))
    || s.lvl.floats.at_ b == .active

/-- A device state is FAULTED or LOST. -/
def DeviceState.outOfService : DeviceState → Bool
  | .faulted _ | .lost _ => true
  | .unknown | .closed | .opened | .moving | .hand => false

/-- A bay meets the condition FAULT (R182). -/
def meetsFault (s : State) (b : Fin 8) : Bool :=
  (s.snd.channels.at_ b).health == .failed
    || (match s.order b with
        | some o => o.state == .suspect
        | none => false)
    || (match (s.bay b).device with
        | some d => (s.device d).state.outOfService
        | none => false)

/-- A bay meets a line's condition; OFF and ALERT are met by no bay (R181, R182). -/
def meets (s : State) (c : AlarmCondition) (b : Fin 8) : Bool :=
  match c with
  | .spill => meetsSpill s b
  | .high => meetsHigh s b
  | .fault => meetsFault s b
  | .off | .alert => false

/-- The covered bays that meet the condition (R182), which are also the bays that GET_TERMINALS lists; none under ALERT (R184; log
entry 53). -/
def meeting (s : State) (line : Fin 4) : List (Fin 8) :=
  (covered s line).filter (meets s (s.image.alarms.at_ line).condition)

/-- The activity of a line as an evaluation finds it (R182). -/
def lineCondition (s : State) (line : Fin 4) : Bool :=
  match (s.image.alarms.at_ line).condition with
  | .alert => decide ((s.image.alarms.at_ line).level ≤ s.rain.alert.rank)
  | .off | .spill | .high | .fault => !(meeting s line).isEmpty

/-- Every alarm line is evaluated and its terminal follows (R182, R183; log entry 8). -/
def refreshAlarms (s : State) : State :=
  s.withTerm { s.term with lineActive := Vector.ofFn (lineCondition s) }

end Sys2Proof.Machine
end

