-- ==== Sys2Proof/Machine/Line.lean ====
section
/-! DEFINITION. The actuator line: the waiting queue, putting and taking commands, and the device state (R156 to R163, R169). -/

namespace Sys2Proof.Machine

/-! ### The waiting queue (R161, R162) -/

/-- The class of a command in the queue: shut class, ENGAGE, QUERY (R161). -/
def LineCommand.rank : LineCommand → Nat
  | .release | .reset => 0
  | .engage => 1
  | .query => 2

/-- A drive command (R157). -/
def LineCommand.isDrive : LineCommand → Bool
  | .engage | .release | .reset => true
  | .query => false

/-- An entry joins at the back of its class (R161). -/
def joinLine (e : LineEntry) (q : List LineEntry) : List LineEntry :=
  q.filter (fun x => decide (x.command.rank ≤ e.command.rank)) ++ e :: q.filter (fun x => decide (e.command.rank < x.command.rank))

/-- The entry is the drive entry of a device. -/
def LineEntry.isDriveOf (d : Fin 16) (e : LineEntry) : Bool := e.device == d && e.command.isDrive

/-- The entry is the query entry of a device. -/
def LineEntry.isQueryOf (d : Fin 16) (e : LineEntry) : Bool := e.device == d && !e.command.isDrive

/-- The waiting drive entry of a device. -/
def waitingDrive (s : State) (d : Fin 16) : Option LineEntry := s.act.queue.find? (LineEntry.isDriveOf d)

/-- The waiting query entry of a device. -/
def waitingQuery (s : State) (d : Fin 16) : Option LineEntry := s.act.queue.find? (LineEntry.isQueryOf d)

/-- The target of a drive command's movement (R157). -/
def LineCommand.target : LineCommand → MoveTarget
  | .engage => .opened
  | .release | .reset | .query => .closed

/-! ### Taking an entry (R159, R163) -/

/-- An entry is ready (R163). -/
def LineEntry.ready (s : State) (e : LineEntry) : Bool :=
  match e.notBefore with
  | some t => decide (t ≤ s.clock.fast)
  | none => true

/-- The command put on the line for an entry: a drive command to a device that is not in step is opened by a RESET (R159). -/
def firstExchange (v : DeviceVol) (c : LineCommand) : LineCommand :=
  match c with
  | .engage | .release => if v.inStep then c else .reset
  | .reset => .reset
  | .query => .query

/-- The bus address of a device. -/
def addressOf (s : State) (d : Fin 16) : Nat :=
  match s.image.devices.at_ d with
  | some r => r.address
  | none => 0

/-- The toggle that a frame carries: the next toggle for ENGAGE and RELEASE, 0 otherwise (R158, R215). -/
def frameToggle (v : DeviceVol) (exchange : LineCommand) : Bool :=
  match exchange with
  | .engage | .release => v.toggle
  | .reset | .query => false

/-- A transaction whose first frame is sent now, on the present parameters (R160, R164). -/
def sendFrame (s : State) (d : Fin 16) (command : LineCommand) (orig : Originator) (exchange : LineCommand) : Transaction :=
  let tg := frameToggle (s.device d) exchange
  { device := d, command := command, orig := orig, exchange := exchange, toggle := tg, resends := 0
    timeout := s.image.actuator.timeout, retries := s.image.actuator.retries, frame := lineFrame (addressOf s d) exchange tg
    sentAt := s.clock.fast }

/-- The idle line takes the first ready entry, if there is one (R163). -/
def lineTake (s : State) : State :=
  match s.act.current, s.act.queue.find? (LineEntry.ready s) with
  | none, some e =>
    s.withAct { s.act with queue := s.act.queue.erase e
                           current := some (sendFrame s e.device e.command e.orig (firstExchange (s.device e.device) e.command)) }
  | _, _ => s

/-- The transaction has ended: the line becomes idle and takes the next entry (R163, R164; log entry 48). -/
def lineIdle (s : State) : State := lineTake (s.withAct { s.act with current := none })

/-! ### Putting a command (R162) -/

/-- The details of a drain notice without qualifier (R125, R213; log entry 19). -/
def drainDetail (o : Order) (cause : DrainCause) (failure : Option Failure) (closing : Option ClosingCause) : DrainDetail :=
  { lots := o.done, total := o.total, cause := cause, failure := failure, closing := closing }

/-- A RESHUT's RESET has ended otherwise than DONE: the order stays SUSPECT (R142). -/
def reshutFailed (b : Fin 8) (f : Failure) (s : State) : State :=
  match s.order b with
  | some o => post b.val (.drainFault (drainDetail o .reshutFailed (some f) none)) (s.setOrder b (some { o with reshut := false }))
  | none => s

/-- An originator is told SUPERSEDED (R142, R162). Only an order that waits for the outcome of its RESHUT acts on it: an ENGAGE or
a RELEASE is superseded only by its own order's later command, and that order disregards the outcome (R128, R172). -/
def tellSuperseded (orig : Originator) (c : LineCommand) (s : State) : State :=
  match orig with
  | .order b =>
    match s.order b with
    | some o => if o.state = .suspect ∧ o.reshut = true ∧ c = .reset then reshutFailed b .superseded s else s
    | none => s
  | .sweep | .host | .watch => s

/-- The outcome of a finished transaction or watch is recorded (R156, R171 step 4). -/
def recordOutcome (d : Fin 16) (c : LineCommand) (orig : Originator) (o : LineOutcome) (s : State) : State :=
  s.setLast d (some { command := c, orig := orig, outcome := o, time := s.now })

/-- A waiting drive entry has been superseded: its originator is told, and where the entry had been taken, so that it waits out a back-off,
the outcome is its device's last (R162, R171; log entry 23). -/
def supersede (w : LineEntry) (s : State) : State :=
  let s1 := tellSuperseded w.orig w.command s
  if w.notBefore.isSome then recordOutcome w.device w.command w.orig .superseded s1 else s1

/-- A drive command is put: it replaces a waiting drive entry of its device (R162). -/
def putDrive (d : Fin 16) (c : LineCommand) (orig : Originator) (s : State) : State :=
  let e : LineEntry := { device := d, command := c, orig := orig, notBefore := none }
  let join (s : State) : State := lineTake (s.withAct { s.act with queue := joinLine e s.act.queue })
  match waitingDrive s d with
  | none => join s
  | some w => join (supersede w (s.withAct { s.act with queue := s.act.queue.erase w }))

/-- A query is put: it is dropped where a query of its device waits (R162). -/
def putQuery (d : Fin 16) (orig : Originator) (s : State) : State :=
  match waitingQuery s d with
  | some _ => s
  | none =>
    lineTake (s.withAct { s.act with queue := joinLine { device := d, command := .query, orig := orig, notBefore := none } s.act.queue })

/-- An order withdraws its own waiting ENGAGE (R139, R162). -/
def withdrawEngage (d : Fin 16) (b : Fin 8) (s : State) : State :=
  s.withAct { s.act with queue := s.act.queue.filter fun e => !(e.device == d && e.command == .engage && e.orig == .order b) }

/-- An entry returns to the queue after a NAK. A drive entry that has become the older command is superseded (R162, R165). -/
def returnEntry (d : Fin 16) (c : LineCommand) (orig : Originator) (notBefore : Nat) (s : State) : State :=
  let e : LineEntry := { device := d, command := c, orig := orig, notBefore := some notBefore }
  if c.isDrive then
    match waitingDrive s d with
    | some _ => supersede e s
    | none => s.withAct { s.act with queue := joinLine e s.act.queue }
  else
    match waitingQuery s d with
    | some _ => s
    | none => s.withAct { s.act with queue := joinLine e s.act.queue }

/-! ### The device state (R156, R169, R170) -/

/-- The state a target names. -/
def MoveTarget.state : MoveTarget → DeviceState
  | .opened => .opened
  | .closed => .closed

/-- The device state without its cause (R213). -/
def DeviceState.name : DeviceState → DeviceStateName
  | .unknown => .unknown
  | .closed => .closed
  | .opened => .opened
  | .moving => .moving
  | .faulted _ => .faulted
  | .lost _ => .lost
  | .hand => .hand

/-- The states on the watch list (R156, R169). -/
def DeviceStateName.watched : DeviceStateName → Bool
  | .opened | .moving | .hand => true
  | .unknown | .closed | .faulted | .lost => false

/-- The states whose entry posts DEVICE_FAULT (R171). -/
def DeviceStateName.announced : DeviceStateName → Bool
  | .faulted | .lost | .hand => true
  | .unknown | .closed | .opened | .moving => false

/-- The fault cause that DEVICE_FAULT carries (R171). -/
def DeviceState.announcedCause : DeviceState → AnnouncedCause
  | .faulted .reported => .reported
  | .faulted .busy => .busy
  | .faulted .moveTimeout => .moveTimeout
  | .lost .timeout => .timeout
  | .lost .badReply => .badReply
  | .unknown | .closed | .opened | .moving | .hand => .hand

/-- A device takes a state: the next poll time follows the watch list, and leaving MOVING ends the watch and the deadline
(R156, R169, R170). -/
def DeviceVol.enter (v : DeviceVol) (st : DeviceState) (now poll : Nat) : DeviceVol :=
  { v with
    state := st
    nextPoll := if st.name.watched then (if v.state.name.watched then v.nextPoll else some (now + poll)) else none
    deadline := if st = .moving then v.deadline else none
    watch := if st = .moving then v.watch else none }

/-- A device takes a state (R171 step 1). -/
def enterState (d : Fin 16) (st : DeviceState) (s : State) : State :=
  s.setDevice d ((s.device d).enter st s.now s.image.actuator.poll)

/-- The notices of a change of device state (R171). -/
def announce (d : Fin 16) (old new : DeviceState) (c : LineCommand) (s : State) : State :=
  if new.name.announced ∧ old.name ≠ new.name then
    post d.val (.deviceFault new.name new.announcedCause c (addressOf s d)) s
  else if old.name.announced ∧ (new.name = .closed ∨ new.name = .opened ∨ new.name = .moving) then
    post d.val (.deviceRestored old.name new.name) s
  else s

end Sys2Proof.Machine
end

