-- ==== Sys2Proof/Machine/Sounder.lean ====
section
/-! DEFINITION. The sounding queue, the drive supply, the taking of an entry, and the sounding intervals (R23, R24, R34, R35, R38, R39). -/

namespace Sys2Proof.Machine

/-! ### The queue (R34) -/

/-- An entry stands before another (R34): the urgent first in their order, then by due time, then by bay. -/
def SoundingEntry.before (a b : SoundingEntry) : Bool :=
  match a.urgent, b.urgent with
  | some x, some y => decide (x < y)
  | some _, none => true
  | none, some _ => false
  | none, none => decide (a.due < b.due) || (a.due == b.due && decide (a.bay.val < b.bay.val))

/-- An entry takes its place in the queue (R34). -/
def insertEntry (e : SoundingEntry) : List SoundingEntry → List SoundingEntry
  | [] => [e]
  | h :: t => if e.before h then e :: h :: t else h :: insertEntry e t

/-- The queue without a bay's entry. -/
def withoutBay (b : Fin 8) (q : List SoundingEntry) : List SoundingEntry := q.filter fun e => e.bay != b

/-- The waiting entry of a bay. -/
def waitingEntry (s : State) (b : Fin 8) : Option SoundingEntry := s.snd.queue.find? fun e => e.bay == b

/-- An entry is ready (R35). -/
def SoundingEntry.ready (s : State) (e : SoundingEntry) : Bool :=
  (match e.notBefore with
    | some t => decide (t ≤ s.clock.fast)
    | none => true)
  && (e.urgent.isSome || decide (e.due ≤ s.now))

/-- A fresh entry, of a sounding that has not begun: due at a second, attempt number 0, no urgent flag, no not-before time, not joined (R38). -/
def freshEntry (b : Fin 8) (due : Nat) : SoundingEntry :=
  { bay := b, due := due, urgent := none, attempt := 0, notBefore := none, joined := false }

/-- An entry joins the queue, in place of any other of its bay (R34). -/
def queueEntry (e : SoundingEntry) (s : State) : State :=
  s.withSnd { s.snd with queue := insertEntry e (withoutBay e.bay s.snd.queue) }

/-! ### The drive supply (R24) -/

/-- The modes that keep the drive supply on (R24). -/
def Mode.keepsSupply : Mode → Bool
  | .watch | .storm | .recovery => true
  | .dry | .maintenance => false

/-- The supply is switched on if it is off; it then reports not ready (R24). -/
def supplyOn (s : State) : State :=
  if s.snd.supplyOn then s else s.withSnd { s.snd with supplyOn := true, supplyReady := false }

/-- The supply is switched off and reports not ready at once (R24). -/
def supplyOff (s : State) : State := s.withSnd { s.snd with supplyOn := false, supplyReady := false }

/-- The supply follows a settled mode (R24, R36). -/
def supplyFollowsMode (s : State) : State :=
  if s.mode.keepsSupply then supplyOn s
  else if s.snd.engine.isNone then supplyOff s else s

/-! ### Taking an entry (R23, R35) -/

/-- The sounding in flight that an entry makes, on the record and the parameters as they stand (R23). A later attempt
of a sounding keeps its joined flag (log entry 44); its weak-drive mark is clear (log entry 52). -/
def takenEntry (s : State) (e : SoundingEntry) (phase : EngineState) : InFlight :=
  let r := s.bay e.bay
  let p := s.image.sounding
  { phase := phase, bay := e.bay, due := e.due, urgent := e.urgent, attempt := e.attempt, frequency := r.frequency, pulses := r.pulses
    blanking := r.blanking, step := r.step, tolerance := r.tolerance, mounting := r.mounting, charge := p.charge, stuck := p.stuck
    speed := p.speed, joined := e.joined, discard := false, weak := false, chargeStart := s.clock.fast, burstStart := s.clock.fast
    tof := 0 }

/-- The IDLE engine takes the first ready entry, if there is one (R23, R35). -/
def engineTake (s : State) : State :=
  match s.snd.engine, s.snd.queue.find? (SoundingEntry.ready s) with
  | none, some e =>
    let s1 := s.withSnd { s.snd with queue := withoutBay e.bay s.snd.queue }
    if s1.snd.supplyOn && s1.snd.supplyReady then s1.withSnd { s1.snd with engine := some (takenEntry s e .bursting) }
    else
      let s2 := supplyOn s1
      s2.withSnd { s2.snd with engine := some (takenEntry s e .charging) }
  | _, _ => s

/-- The engine returns to IDLE: the sounding in flight is dropped, the supply is switched off in DRY and MAINTENANCE,
and the next ready entry is taken (R23, R24). -/
def engineIdle (s : State) : State :=
  let s1 := s.withSnd { s.snd with engine := none }
  engineTake (if s1.mode.keepsSupply then s1 else supplyOff s1)

/-- The sounding in flight with another content. -/
def setEngine (f : InFlight) (s : State) : State := s.withSnd { s.snd with engine := some f }

/-! ### Intervals (R38, R39) -/

/-- The interval of a mode (R20, R38). -/
def modeInterval (p : SoundingParams) : Mode → Nat
  | .dry => p.dry
  | .watch => p.watch
  | .storm => p.storm
  | .recovery => p.recovery
  | .maintenance => p.maintenance

/-- A bay has a drain order in RUNNING. -/
def bayRunning (s : State) (b : Fin 8) : Bool :=
  match s.order b with
  | some o => o.state == .running
  | none => false

/-- The applicable interval of a bay (R38). -/
def applicableInterval (s : State) (b : Fin 8) : Nat :=
  if bayRunning s b then s.image.sounding.drain
  else if meetsSpill s b then s.image.sounding.storm
  else if (s.snd.channels.at_ b).health = .failed then s.image.sounding.dry
  else modeInterval s.image.sounding s.mode

/-- A waiting entry's due time is revised at an event of R39's list, also where that event leaves the bay's interval as it was
(log entry 57). -/
def reviseEntry (b : Fin 8) (s : State) : State :=
  match waitingEntry s b, s.snd.last.at_ b with
  | some e, some r => queueEntry { e with due := min e.due (r.time + applicableInterval s b) } s
  | _, _ => s

/-- The applicable interval of one bay has changed (R39); the engine may take its entry at once. -/
def intervalChanged (b : Fin 8) (s : State) : State := engineTake (reviseEntry b s)

/-- The applicable intervals of all bays have changed (R39). -/
def intervalsChanged (s : State) : State := engineTake (allBays.foldl (fun s b => reviseEntry b s) s)

/-- The applicable interval of an outfall's reference bay has changed (R39). -/
def refIntervalChanged (k : Fin 4) (s : State) : State :=
  match refBay s k with
  | some b => intervalChanged b s
  | none => s

end Sys2Proof.Machine
end

