-- ==== Sys2Proof/Machine/Credits.lean ====
section
/-! DEFINITION. Return credits, return slots and the moves of a drain order that need no retirement: grants, consumption, forfeit, closing, opening, lots, slot grant (R115 to R134). -/

namespace Sys2Proof.Machine

/-! ### Grants and counters (R115 to R120) -/

/-- The credit counters changed. -/
def State.withCounters (s : State) (c : CreditCounters) : State := s.withDrn { s.drn with counters := c }

/-- A grant takes its place in consumption order: after every grant whose expiry is earlier or equal (R115). -/
def insertGrant (g : Grant) : List Grant → List Grant
  | [] => [g]
  | h :: t => if h.expiry ≤ g.expiry then h :: insertGrant g t else g :: h :: t

/-- One credit is taken from the first grant in consumption order (R117). -/
def takeCredit : List Grant → List Grant
  | [] => []
  | g :: t => if g.count ≤ 1 then t else { g with count := g.count - 1 } :: t

/-- A consumption (R117). -/
def consume (s : State) : State :=
  s.withDrn { s.drn with
    grants := takeCredit s.drn.grants
    counters := { s.drn.counters with consumed := addHeld Config.max32 s.drn.counters.consumed 1 } }

/-- Credits removed from the front of a list, with the number removed (R119 takes them from the end: the list is given reversed). -/
def removeCredits : Nat → List Grant → Nat × List Grant
  | _, [] => (0, [])
  | n, g :: t =>
    if n = 0 then (0, g :: t)
    else if n < g.count then (n, { g with count := g.count - n } :: t)
    else
      let rest := removeCredits (n - g.count) t
      (g.count + rest.1, rest.2)

/-! ### Slots (R121) -/

/-- The states that hold a slot (R121). -/
def OrderState.holdsSlot : OrderState → Bool
  | .opening | .running | .closing | .suspect => true
  | .queued | .held => false

/-- The bays whose orders hold slots. -/
def slotHolders (s : State) : List (Fin 8) :=
  allBays.filter fun b => match s.order b with
    | some o => o.state.holdsSlot
    | none => false

/-- The free slots (R121). -/
def freeSlots (s : State) : Nat := s.image.drain.slots - (slotHolders s).length

/-! ### Hold causes (R123) -/

/-- No hold cause stands. -/
def HoldCauses.isEmpty (h : HoldCauses) : Bool := !h.worksStop && !h.gauge && !h.hand

/-- The qualities that are a loss of the level (R54, R79, R138). -/
def Quality.isLoss : Quality → Bool
  | .stale | .float | .none => true
  | .good | .held => false

/-- The drain device of a bay is in hand control. -/
def deviceInHand (s : State) (b : Fin 8) : Bool :=
  match (s.bay b).device with
  | some d => (s.device d).state == .hand
  | none => false

/-- The hold causes of an order at its creation (R123). -/
def presentHolds (s : State) (b : Fin 8) : HoldCauses :=
  { worksStop := s.term.worksStop, gauge := (s.level b).quality.isLoss, hand := deviceInHand s b }

/-- The state of a waiting order, by its hold causes (R123). -/
def waitingState (h : HoldCauses) : OrderState := if h.isEmpty then .queued else .held

/-- An order with other hold causes: in QUEUED and HELD its state follows them at once (R123). -/
def Order.withHolds (o : Order) (h : HoldCauses) : Order :=
  { o with holds := h
           state := match o.state with
             | .queued | .held => waitingState h
             | .opening | .running | .closing | .suspect => o.state }

/-! ### Eligibility (R126) -/

/-- The drain device lets an order be eligible: it is not FAULTED, LOST or LOCAL. -/
def deviceHealthy (s : State) (b : Fin 8) : Bool :=
  match (s.bay b).device with
  | some d => !(s.device d).state.name.announced
  | none => true

/-- The bay's value lies above a target. -/
def aboveTarget (s : State) (b : Fin 8) (target : Nat) : Bool :=
  match (s.level b).value with
  | some v => decide (target < v)
  | none => false

/-- The first condition of R126 that an order does not meet, in the order listed there. -/
def firstUnmet (s : State) (b : Fin 8) (o : Order) : Option EligibilityCondition :=
  if o.state ≠ .queued then some .queued
  else if (s.level b).quality ≠ .good then some .qualityGood
  else if aboveTarget s b o.target = false then some .aboveTarget
  else if deviceHealthy s b = false then some .deviceHealthy
  else if s.term.worksStop = true then some .noWorksStop
  else none

/-- The order of a bay is eligible (R126). -/
def eligible (s : State) (b : Fin 8) : Bool :=
  match s.order b with
  | some o => (firstUnmet s b o).isNone
  | none => false

/-- The bays with eligible orders, in bay order. -/
def eligibleBays (s : State) : List (Fin 8) := allBays.filter (eligible s)

/-- The bay with the best drain rank of a list; ranks are distinct (R5, R126), and the lower bay stands first otherwise. -/
def bestRanked (s : State) : List (Fin 8) → Option (Fin 8)
  | [] => none
  | b :: t =>
    match bestRanked s t with
    | none => some b
    | some b' => if (s.bay b').rank < (s.bay b).rank then some b' else some b

/-! ### Moves of an order -/

/-- Drained in lot is added to total drained where it is above 0 (R130, R133), which holds at its top (log entry 67). -/
def Order.creditDrained (o : Order) : Order :=
  match o.lot with
  | some l => { o with total := addHeld Config.max32 o.total l.drained.toNat }
  | none => o

/-- The lot's credit is forfeited, where the order holds one (R133). -/
def forfeit (b : Fin 8) (s : State) : State :=
  match s.order b with
  | some o =>
    if o.credit then
      let s1 := s.withCounters { s.drn.counters with forfeited := addHeld Config.max32 s.drn.counters.forfeited 1 }
      s1.setOrder b (some { o.creditDrained with credit := false })
    else s
  | none => s

/-- A drive command is put to a bay's drain device by its order (R128, R134, R142). -/
def putForOrder (b : Fin 8) (c : LineCommand) (s : State) : State :=
  match (s.bay b).device with
  | some d => putDrive d c (.order b) s
  | none => s

/-- An order enters CLOSING with a closing cause: its lot ends, RELEASE is put, and the sounding interval follows where it left RUNNING
(R39, R134). -/
def enterClosing (b : Fin 8) (cause : ClosingCause) (s : State) : State :=
  match s.order b with
  | some o =>
    let s1 := putForOrder b .release (s.setOrder b (some { o with state := .closing, closing := some cause, lot := none }))
    if o.state = .running then intervalChanged b s1 else s1
  | none => s

/-- The lot of an order is overtaken: its credit is forfeited and the order closes (R128, R132, R136, R138, R140, R141). -/
def overtake (b : Fin 8) (cause : ClosingCause) (s : State) : State := enterClosing b cause (forfeit b s)

/-- A device outcome is recorded as the failure of an order. -/
def setFailure (b : Fin 8) (f : Failure) (s : State) : State :=
  match s.order b with
  | some o => s.setOrder b (some { o with failure := some f })
  | none => s

/-- A lot begins at a volume (R129, R131). -/
def newLot (s : State) (volume : Nat) : Lot :=
  { startVolume := volume, startTime := s.now, deadline := s.now + s.image.drain.lotTime, drained := 0 }

/-- An order enters RUNNING and begins a lot (R129). -/
def enterRunning (b : Fin 8) (s : State) : State :=
  match s.order b with
  | some o => intervalChanged b (s.setOrder b (some { o with state := .running, lot := some (newLot s ((volumeOf s b).getD 0)) }))
  | none => s

/-- An order enters OPENING: a credit is consumed and ENGAGE is put (R126, R128). -/
def enterOpening (b : Fin 8) (s : State) : State :=
  match s.order b with
  | some o => putForOrder b .engage ((consume s).setOrder b (some { o with state := .opening, credit := true }))
  | none => s

/-! ### Slot grant (R126, R127) -/

/-- CREDITS_WANTED is posted where slot grant has stopped for want of credits and the flag is armed (R127). -/
def creditsWanted (s : State) : State :=
  if 0 < freeSlots s ∧ pool s = 0 ∧ s.drn.armed = true then
    match bestRanked s (eligibleBays s) with
    | some b =>
      post b.val (.creditsWanted (eligibleBays s).length (freeSlots s)) (s.withDrn { s.drn with armed := false })
    | none => s
  else s

/-- Slot grant: free slots and credits go to eligible orders by rank. Each round moves one order, so eight rounds are enough (R126). -/
def slotGrantRounds : Nat → State → State
  | 0, s => creditsWanted s
  | n + 1, s =>
    if 0 < freeSlots s ∧ 0 < pool s then
      match bestRanked s (eligibleBays s) with
      | some b => slotGrantRounds n (enterOpening b s)
      | none => s
    else creditsWanted s

/-- Slot grant runs (R126). -/
def slotGrant (s : State) : State := slotGrantRounds 8 s

end Sys2Proof.Machine
end

