-- ==== Sys2Proof/Machine/SiteMode.lean ====
section
/-! DEFINITION. The site mode's evaluation, the drawdown planner's evaluation, and the retirement of drain orders (R15 to R18, R125, R146, R147). -/

namespace Sys2Proof.Machine

/-! ### The planner's evaluation (R147) -/

/-- The planner target of a mode and an alert level (R147, R152). -/
def plannerTarget (s : State) : PlannerTarget :=
  match s.mode with
  | .recovery => .empty
  | .watch => if 2 ≤ s.rain.alert.rank then .drawdown else .none
  | .dry | .storm | .maintenance => .none

/-- The level of a bay that a planner target names (R147). -/
def targetLevel (s : State) (b : Fin 8) : PlannerTarget → Option Nat
  | .empty => some (s.bay b).empty
  | .drawdown => some (s.bay b).drawdown
  | .none => Option.none

/-- The mode and the alert level call for a drain of the bay (R147). -/
def calledFor (s : State) (b : Fin 8) : Bool :=
  match targetLevel s b (plannerTarget s) with
  | some t => aboveTarget s b (t + s.image.margin)
  | none => false

/-- The first condition of R147 that a bay does not meet, in the order listed there; `none` for a candidate. -/
def candidateUnmet (s : State) (b : Fin 8) : Option CandidateCondition :=
  if (s.bay b).enabled = false ∨ (s.bay b).device = none then some .enabledWithDevice
  else if (s.inhibit.at_ b).isSome then some .notInhibited
  else if (s.order b).isSome then some .noOrder
  else if (s.level b).quality ≠ .good then some .qualityGood
  else if calledFor s b = false then some .calledFor
  else none

/-- A new drain order (R122, R124): its hold causes and its state follow the conditions as they stand. -/
def newOrder (s : State) (b : Fin 8) (source : Source) (lots target : Nat) : Order :=
  { source := source, lots := lots, target := target, done := 0, total := 0, lot := none, credit := false, holds := presentHolds s b
    closing := none, cancelCause := none, failure := none, reshut := false, state := waitingState (presentHolds s b) }

/-- The planner reaches a bay: it creates an order for a candidate, and slot grant runs after the creation (R147). -/
def plannerBay (s : State) (b : Fin 8) : State :=
  match candidateUnmet s b, targetLevel s b (plannerTarget s) with
  | none, some t => slotGrant (s.setOrder b (some (newOrder s b .auto 0 t)))
  | _, _ => s

/-- Whether an evaluation finds a candidate. -/
def anyCandidate (s : State) : Bool := allBays.any fun b => (candidateUnmet s b).isNone

/-- An evaluation of the planner: the bays in index order (R147). -/
def plannerEvaluation (s : State) : State := allBays.foldl plannerBay s

/-! ### The mode (R15, R16, R18, R24, R39) -/

/-- The settled mode changes: MODE_CHANGED is posted, and the drive supply, the sounding intervals and the planner take the new mode
(R18, R24, R39, R146). A creation by the planner cannot make a further transition, since an order only makes "all empty" false. -/
def changeMode (m : Mode) (origin : ModeOrigin) (s : State) : State :=
  plannerEvaluation (intervalsChanged (supplyFollowsMode ((post 0 (.modeChanged s.mode m origin) s).withMode m)))

/-- The site model evaluates the mode after an event of R16. -/
def evaluateMode (s : State) : State :=
  if settledFrom s s.mode = s.mode then s else changeMode (settledFrom s s.mode) .site s

/-- The planner takes an event of R146: it evaluates, and the site model takes the creations (R16; log entry 29). -/
def plannerTake (s : State) : State :=
  if anyCandidate s then evaluateMode (plannerEvaluation s) else plannerEvaluation s

/-- The site model and the planner take one event for themselves, in either order (R125, R146; log entry 7). -/
def sitePlanner (s : State) : State :=
  if choice s % 2 = 0 then plannerTake (evaluateMode (dropChoice s)) else evaluateMode (plannerTake (dropChoice s))

/-! ### Retirement (R125) -/

/-- An order leaves the drain scheduler with a notice made from its last contents (R125 steps 1 to 3). -/
def dropOrder (b : Fin 8) (o : Order) (notice : DrainDetail → NoticeDetail) (cause : DrainCause) (failure : Option Failure) (s : State) :
    State :=
  post b.val (notice (drainDetail o cause failure none)) (s.setOrder b none)

/-- An order is retired (R125). -/
def retire (b : Fin 8) (notice : DrainDetail → NoticeDetail) (cause : DrainCause) (failure : Option Failure) (s : State) : State :=
  match s.order b with
  | some o =>
    let s1 := sitePlanner (dropOrder b o notice cause failure s)
    if o.state.holdsSlot then slotGrant s1 else s1
  | none => s

/-- An order is retired DONE (R125). -/
def retireDone (b : Fin 8) (s : State) : State := retire b .drainDone .done none s

/-- An order is retired CANCELLED with a cause (R125). -/
def retireCancelled (b : Fin 8) (c : CancelCause) (s : State) : State :=
  retire b .drainCancelled (match c with
    | .host => .host
    | .planner => .planner) none s

/-- The target test of an order finds it done (R123, R124). -/
def targetReached (s : State) (b : Fin 8) (o : Order) : Bool :=
  ((s.level b).quality == .good
    && (match (s.level b).value with
        | some v => decide (v ≤ o.target)
        | none => false))
    || (o.lots != 0 && decide (o.lots ≤ o.done))

/-- The test of a bay's order in QUEUED finds it done (R123, R124). -/
def testRetires (s : State) (b : Fin 8) : Bool :=
  match s.order b with
  | some o => o.state == .queued && targetReached s b o
  | none => false

/-- An order in QUEUED is tested, and retired DONE where it is done (R123, R124). -/
def testQueued (b : Fin 8) (s : State) : State := if testRetires s b then retireDone b s else s

/-- An auto-inhibit flag is set with a cause (R150). -/
def raiseInhibit (b : Fin 8) (c : InhibitCause) (s : State) : State := s.withInhibit (s.inhibit.put b (some c))

/-- An auto-inhibit flag is set with a cause, and the planner takes the setting as an event (R146, R150). -/
def setInhibit (b : Fin 8) (c : InhibitCause) (s : State) : State := plannerTake (raiseInhibit b c s)

end Sys2Proof.Machine
end

