-- ==== Sys2Proof/Machine/Drains.lean ====
section
/-! DEFINITION. The events that reach drain orders: acceptances, gauge loss, works-stop, outcomes of the actuator line, device changes, cancellation (R130 to R142). -/

namespace Sys2Proof.Machine

/-! ### Acceptances and gauge loss (R123, R130, R131, R138) -/

/-- A lot boundary lets the order continue: the pool is above 0, and no better-ranked eligible order waits while every slot is held
(R131). -/
def mayContinue (s : State) (b : Fin 8) : Bool :=
  decide (0 < pool s)
    && !(decide (freeSlots s = 0) && (eligibleBays s).any fun b' => decide ((s.bay b').rank < (s.bay b).rank))

/-- A lot boundary: the order goes on into a new lot, or closes for a GAP (R131). -/
def lotBoundary (b : Fin 8) (volume : Nat) (s : State) : State :=
  if mayContinue s b then
    let s1 := consume s
    match s1.order b with
    | some o => s1.setOrder b (some { o with credit := true, lot := some (newLot s1 volume) })
    | none => s1
  else enterClosing b .gap s

/-- An acceptance of the bay of a RUNNING order, with the accepted value and volume (R130). Lots done hold at 65,535 (log entry 67). -/
def lotProgress (b : Fin 8) (value volume : Nat) (s : State) : State :=
  match s.order b with
  | some o =>
    match o.lot with
    | some l =>
      let drained : Int := (l.startVolume : Int) - (volume : Int)
      let o1 := { o with lot := some { l with drained := drained } }
      let completes := decide ((s.image.drain.lotVolume : Int) ≤ drained)
      let o2 := if completes then { o1.creditDrained with done := addHeld Config.max16 o1.done 1, credit := false } else o1
      if value ≤ o.target then
        let o3 := if completes then o2 else { o2.creditDrained with credit := false }
        enterClosing b .done (s.setOrder b (some o3))
      else if completes then
        let s2 := s.setOrder b (some o2)
        if o2.lots ≠ 0 ∧ o2.lots ≤ o2.done then enterClosing b .done s2 else lotBoundary b volume s2
      else s.setOrder b (some o2)
    | none => s
  | none => s

/-- A hold cause is changed in the order of a bay (R123). -/
def changeHolds (b : Fin 8) (f : HoldCauses → HoldCauses) (s : State) : State :=
  match s.order b with
  | some o => s.setOrder b (some (o.withHolds (f o.holds)))
  | none => s

/-- The drain scheduler takes an acceptance of a bay's level (R123, R126, R130, R138). -/
def drainAcceptance (b : Fin 8) (value volume : Nat) (s : State) : State :=
  let s1 := changeHolds b (fun h => { h with gauge := false }) s
  let s2 := if bayRunning s1 b then lotProgress b value volume s1 else testQueued b s1
  slotGrant s2

/-- The order of a bay loses its gauge (R138). -/
def gaugeLoss (b : Fin 8) (s : State) : State :=
  let s1 := changeHolds b (fun h => { h with gauge := true }) s
  match s1.order b with
  | some o =>
    match o.state with
    | .opening | .running => overtake b .gauge s1
    | .queued | .held | .closing | .suspect => s1
  | none => s1

/-! ### Works-stop (R136, R137) -/

/-- Works-stop overtakes an order that is opening or running (R136). -/
def worksStopBay (s : State) (b : Fin 8) : State :=
  match s.order b with
  | some o =>
    match o.state with
    | .opening | .running => overtake b .worksStop s
    | .queued | .held | .closing | .suspect => s
  | none => s

/-- Works-stop becomes asserted: every order takes the hold cause, and then the orders act in bay order (R136, R180; log entry 47). -/
def worksStopAsserted (s : State) : State :=
  let s1 := s.withTerm { s.term with worksStop := true }
  let s2 := allBays.foldl (fun s b => changeHolds b (fun h => { h with worksStop := true }) s) s1
  allBays.foldl worksStopBay s2

/-- Works-stop leaves the hold causes of every order (R123, R137). -/
def worksStopFrees (s : State) : State :=
  allBays.foldl (fun s b => changeHolds b (fun h => { h with worksStop := false }) s) (s.withTerm { s.term with worksStop := false })

/-- An order that its test finds done leaves the drain scheduler (R123, R125 steps 1 to 3). -/
def dropTested (s : State) (b : Fin 8) : State :=
  match s.order b with
  | some o => if testRetires s b then dropOrder b o .drainDone .done none s else s
  | none => s

/-- Works-stop is released: every order is freed, then every order that is QUEUED is tested and leaves where it is done; then the site model and
the planner take each retirement, and then slot grant runs (R123, R125, R137, R180; log entry 47). -/
def worksStopReleased (s : State) : State :=
  let freed := worksStopFrees s
  let done := allBays.filter (testRetires freed)
  slotGrant (done.foldl (fun s _ => sitePlanner s) (done.foldl dropTested freed))

/-! ### The close and its failure (R134, R135) -/

/-- The close of an order is confirmed: its closing cause decides (R134). The auto-inhibit flag of a stalled order is set
before the retirement, and the planner takes the setting after it (R150; log entry 28). -/
def confirmClose (b : Fin 8) (s : State) : State :=
  match s.order b with
  | some o =>
    match o.closing with
    | some .done => retireDone b s
    | some .cancel => retireCancelled b (o.cancelCause.getD .host) s
    | some .stalled => plannerTake (retire b .drainFault .stalled none (raiseInhibit b .stalled s))
    | some .openFailed => retire b .drainFault .openFailed o.failure s
    | some .deviceFailed => retire b .drainFault .deviceFailed o.failure s
    | some .gap | some .worksStop | some .gauge | none =>
      slotGrant (testQueued b (s.setOrder b (some { o with closing := none, state := waitingState o.holds })))
  | none => s

/-- The close of an order has failed: it enters SUSPECT (R135). -/
def enterSuspect (b : Fin 8) (f : Failure) (s : State) : State :=
  match s.order b with
  | some o =>
    setInhibit b .shutFailed
      (post b.val (.drainFault (drainDetail o .shutFailed (some f) o.closing))
        (s.setOrder b (some { o with state := .suspect, failure := some f })))
  | none => s

/-! ### Outcomes of the actuator line (R128, R139, R142) -/

/-- The failure that a line outcome is recorded as. -/
def LineOutcome.failure : LineOutcome → Failure
  | .lost => .lost
  | .faulted => .faulted
  | .hand => .hand
  | .superseded | .done => .superseded

/-- The drain device of an order in OPENING or RUNNING is in hand control: the order is held without closing, and its slot becomes free
(R139). -/
def handOvertakes (b : Fin 8) (s : State) : State :=
  let s1 := forfeit b s
  match s1.order b with
  | some o =>
    let s2 := s1.setOrder b (some { o with state := .held, lot := none })
    let s3 := match (s.bay b).device with
      | some d => withdrawEngage d b s2
      | none => s2
    slotGrant (if o.state = .running then intervalChanged b s3 else s3)
  | none => s1

/-- LOCAL is added to the hold causes of an order, which acts according to its state (R139). -/
def handReported (b : Fin 8) (s : State) : State :=
  let s1 := changeHolds b (fun h => { h with hand := true }) s
  match s1.order b with
  | some o =>
    match o.state with
    | .opening | .running => handOvertakes b s1
    | .queued | .held | .closing | .suspect => s1
  | none => s1

/-- An order is told the outcome of its ENGAGE (R128). -/
def engageOutcome (b : Fin 8) (oc : LineOutcome) (s : State) : State :=
  match oc with
  | .done => enterRunning b s
  | .hand => handReported b s
  | .lost | .faulted => overtake b .openFailed (setFailure b oc.failure s)
  | .superseded => s

/-- An order is told the outcome of its RELEASE (R134, R135). -/
def releaseOutcome (b : Fin 8) (oc : LineOutcome) (s : State) : State :=
  match oc with
  | .done => confirmClose b s
  | .lost | .faulted | .hand => enterSuspect b oc.failure s
  | .superseded => s

/-- An order is told the outcome of its RESHUT's RESET (R142). -/
def reshutOutcome (b : Fin 8) (oc : LineOutcome) (s : State) : State :=
  match oc with
  | .done => retire b .drainFault .shutRecovered none s
  | .lost | .faulted | .hand | .superseded => reshutFailed b oc.failure s

/-- An originator is told an outcome; an order that does not wait for it disregards it (R128, R171). -/
def tell (orig : Originator) (c : LineCommand) (oc : LineOutcome) (s : State) : State :=
  match orig with
  | .order b =>
    match s.order b with
    | some o =>
      match c, o.state with
      | .engage, .opening => engageOutcome b oc s
      | .release, .closing => releaseOutcome b oc s
      | .reset, .suspect => if o.reshut then reshutOutcome b oc s else s
      | _, _ => s
    | none => s
  | .sweep | .host | .watch => s

/-! ### Changes of device state (R139, R140) -/

/-- The drain device of a bay has left LOCAL (R123, R139). -/
def handLeft (b : Fin 8) (s : State) : State := testQueued b (changeHolds b (fun h => { h with hand := false }) s)

/-- The drain device of a RUNNING order has become FAULTED or LOST (R140). -/
def deviceFailedRunning (b : Fin 8) (f : Failure) (s : State) : State :=
  if bayRunning s b then overtake b .deviceFailed (setFailure b f s) else s

/-- The drain scheduler takes a change of state of a bay's drain device (R126, R139, R140). -/
def deviceChanged (b : Fin 8) (old new : DeviceState) (s : State) : State :=
  if old.name = new.name then s
  else
    let s1 := if old.name = .hand then handLeft b s else s
    let s2 := match new with
      | .hand => handReported b s1
      | .faulted _ => deviceFailedRunning b .faulted s1
      | .lost _ => deviceFailedRunning b .lost s1
      | .unknown | .closed | .opened | .moving => s1
    slotGrant s2

/-- A change of device state is handed to the drain scheduler, where the device is the drain device of an enabled bay (R171 step 5). -/
def handChange (d : Fin 16) (old new : DeviceState) (s : State) : State :=
  match bayOfDevice s d with
  | some b => deviceChanged b old new s
  | none => s

/-! ### Cancellation (R141, R149) -/

/-- An order is cancelled with a cause (R141, R149). -/
def cancel (b : Fin 8) (c : CancelCause) (s : State) : State :=
  match s.order b with
  | some o =>
    match o.state with
    | .queued | .held => retireCancelled b c s
    | .opening | .running => overtake b .cancel (s.setOrder b (some { o with cancelCause := some c }))
    | .closing =>
      match o.closing with
      | some .gap | some .worksStop | some .gauge => s.setOrder b (some { o with closing := some .cancel, cancelCause := some c })
      | some .done | some .cancel | some .stalled | some .openFailed | some .deviceFailed | none => s
    | .suspect => s
  | none => s

/-- The planner cancels the order of a bay at the entry into MAINTENANCE, where its source is AUTO (R149). -/
def cancelAuto (s : State) (b : Fin 8) : State :=
  match s.order b with
  | some o => if o.source = .auto then cancel b .planner s else s
  | none => s

/-- The settled mode becomes MAINTENANCE (R17, R18, R149): the planner cancels, then evaluates. -/
def enterMaintenance (s : State) : State :=
  let s1 := intervalsChanged (supplyFollowsMode ((post 0 (.modeChanged s.mode .maintenance .host) s).withMode .maintenance))
  plannerEvaluation (allBays.foldl cancelAuto s1)

end Sys2Proof.Machine
end

