-- ==== Sys2Proof/Machine/LineEvents.lean ====
section
/-! DEFINITION. The ends of actuator-line transactions and movements, in the order of R171 (R164 to R171). -/

namespace Sys2Proof.Machine

/-- A drive entry that an event ends: its command, its originator, its outcome (R171). -/
structure EntryEnd where
  command : LineCommand
  orig : Originator
  outcome : LineOutcome
  deriving DecidableEq, Repr

/-- An originator is told where there is an end to tell (R171 steps 2 and 3). -/
def tellEnd (e : Option EntryEnd) (s : State) : State :=
  match e with
  | some x => tell x.orig x.command x.outcome s
  | none => s

/-- The last outcome is recorded: the entry's, else that of the watch that ended (R171 step 4; log entry 23). -/
def recordEnd (d : Fin 16) (entry watch : Option EntryEnd) (s : State) : State :=
  match entry, watch with
  | some x, _ => recordOutcome d x.command x.orig x.outcome s
  | none, some x => recordOutcome d x.command x.orig x.outcome s
  | none, none => s

/-- Steps 2 to 6 of R171, after the device state and the watch have been changed; `c` is the command that DEVICE_FAULT names. -/
def concludeEvent (d : Fin 16) (old : DeviceState) (watch entry : Option EntryEnd) (c : LineCommand) (s : State) : State :=
  let new := (s.device d).state
  announce d old new c (handChange d old new (recordEnd d entry watch (tellEnd entry (tellEnd watch s))))

/-- The end of a device's watch with an outcome, where it has one. -/
def watchEnd (s : State) (d : Fin 16) (oc : LineOutcome) : Option EntryEnd :=
  (s.device d).watch.map fun w => { command := w.command, orig := w.orig, outcome := oc }

/-- The end of the current entry with an outcome: a query has none (R171). -/
def entryEnd (t : Transaction) (oc : LineOutcome) : Option EntryEnd :=
  if t.command.isDrive then some { command := t.command, orig := t.orig, outcome := oc } else none

/-- The transaction ends in a state that takes the device out of service: any watch and the entry are told one outcome
(R164, R165, R166). The line becomes idle, and takes its next entry, after all the steps of R171 (log entry 48). -/
def endInFault (t : Transaction) (st : DeviceState) (oc : LineOutcome) (s : State) : State :=
  let old := (s.device t.device).state
  lineIdle (concludeEvent t.device old (watchEnd s t.device oc) (entryEnd t oc) t.command (enterState t.device st s))

/-- The in step flag of a device is cleared (R158). -/
def loseStep (d : Fin 16) (s : State) : State := s.setDevice d { s.device d with inStep := false }

/-- The NAK count of a device takes a value (R165). -/
def setNaks (d : Fin 16) (n : Nat) (s : State) : State := s.setDevice d { s.device d with naks := n }

/-- The frame is sent again: the same frame, on the present timeout and retry limit (R158, R160, R164). -/
def resend (t : Transaction) (s : State) : State :=
  s.withAct { s.act with current := some { t with resends := t.resends + 1, timeout := s.image.actuator.timeout
                                                  retries := s.image.actuator.retries, sentAt := s.clock.fast } }

/-- An attempt has failed: the frame is resent, or the transaction ends LOST (R164). -/
def attemptFailed (t : Transaction) (cause : LostCause) (s : State) : State :=
  if t.resends < t.retries then resend t s
  else endInFault t (.lost cause) .lost (if t.command.isDrive then loseStep t.device s else s)

/-- A valid NAK (R165); a raised count above the limit is taken as one at the limit (log entry 62). -/
def takeNak (t : Transaction) (s : State) : State :=
  let n := (s.device t.device).naks + 1
  if n < s.image.actuator.nakLimit then
    lineIdle (returnEntry t.device t.command t.orig (s.clock.fast + s.image.actuator.nakBackoff * 1000) (setNaks t.device n s))
  else endInFault t (.faulted .busy) .faulted (setNaks t.device 0 s)

/-- The toggle after an acknowledged exchange (R158). -/
def DeviceVol.acknowledged (exchange : LineCommand) (v : DeviceVol) : DeviceVol :=
  match exchange with
  | .engage | .release => { v with toggle := !v.toggle }
  | .reset => { v with toggle := true, inStep := true }
  | .query => v

/-- The device state that a reported position gives to a device without a watch; `none` where it stays as it is (R168). -/
def positionState (held : DeviceState) (p : LinePosition) : Option DeviceState :=
  match p with
  | .closed => some .closed
  | .opened => some .opened
  | .moving => if held = .moving then none else some .moving
  | .fault => none

/-- The movement limit of a device. -/
def movementLimit (s : State) (d : Fin 16) : Nat :=
  match s.image.devices.at_ d with
  | some r => r.limit
  | none => 0

/-- A device without a watch takes the position that a transaction of a command reports (R168). A movement deadline begins where it becomes
MOVING. -/
def takePosition (d : Fin 16) (c : LineCommand) (p : LinePosition) (s : State) : State :=
  match positionState (s.device d).state p with
  | some .moving =>
    let s1 := enterState d .moving s
    s1.setDevice d { s1.device d with deadline := some { due := s1.now + movementLimit s1 d, command := c }, watch := none }
  | some st => enterState d st s
  | none => s

/-- The ACK of the RESET exchange that opens an ENGAGE: the toggle is set, the device state follows the position, and the ENGAGE is sent at
once (R159; log entry 25). The state follows the position on an ACK_ONLY device too, which is then MOVING where it reports MOVING, although R169
says of such a device that its own commands never make it so (log entry 68). -/
def ackOpening (t : Transaction) (p : LinePosition) (s : State) : State :=
  let d := t.device
  let old := (s.device d).state
  let w := watchEnd s d .superseded
  let s1 := s.setDevice d { (s.device d).acknowledged .reset with watch := none }
  let s2 := concludeEvent d old w none t.command (takePosition d t.command p s1)
  s2.withAct { s2.act with current := some (sendFrame s2 d t.command t.orig .engage) }

/-- The movement of an acknowledged drive command is at its end: an ACK_ONLY device, or the target as the position (R167). -/
def atTarget (s : State) (d : Fin 16) (target : MoveTarget) (p : LinePosition) : Bool :=
  (match s.image.devices.at_ d with
    | some r => r.completion == .ackOnly
    | none => false)
  || (match target, p with
      | .opened, .opened | .closed, .closed => true
      | _, _ => false)

/-- The ACK of a drive command (R167). -/
def ackDrive (t : Transaction) (p : LinePosition) (s : State) : State :=
  let d := t.device
  let old := (s.device d).state
  let w := watchEnd s d .superseded
  let target := t.command.target
  let s1 := s.setDevice d { (s.device d).acknowledged t.exchange with watch := none }
  if atTarget s d target p then
    lineIdle (concludeEvent d old w (entryEnd t .done) t.command (enterState d target.state s1))
  else
    let s2 := enterState d .moving s1
    let s3 := s2.setDevice d { s2.device d with
      watch := some { target := target, orig := t.orig, command := t.command }
      deadline := some { due := s2.now + movementLimit s2 d, command := t.command } }
    lineIdle (concludeEvent d old w none t.command s3)

/-- A position is a watch's target. -/
def isTarget (w : Watch) (p : LinePosition) : Bool :=
  match w.target, p with
  | .opened, .opened | .closed, .closed => true
  | _, _ => false

/-- The ACK of a QUERY (R168). -/
def ackQuery (t : Transaction) (p : LinePosition) (s : State) : State :=
  let d := t.device
  let old := (s.device d).state
  match (s.device d).watch with
  | some w =>
    if isTarget w p then lineIdle (concludeEvent d old (watchEnd s d .done) none .query (enterState d w.target.state s))
    else lineIdle s
  | none => lineIdle (concludeEvent d old none none .query (takePosition d .query p s))

/-- A valid ACK that is not a fault reply (R159, R167, R168). -/
def takeAck (t : Transaction) (p : LinePosition) (s : State) : State :=
  match t.command, t.exchange with
  | .query, _ => ackQuery t p s
  | .engage, .reset => ackOpening t p s
  | _, _ => ackDrive t p s

/-- A valid reply (R165 to R168). LOCAL takes precedence over a fault (R157); every reply but NAK sets the NAK count to 0. A reply with the
position FAULT is a fault reply whatever its status, so it leaves the toggle and the step as they were (log entries 42, 54). -/
def takeReply (t : Transaction) (st : LineStatus) (p : LinePosition) (s : State) : State :=
  match st with
  | .hand => endInFault t .hand .hand (setNaks t.device 0 s)
  | .fault => endInFault t (.faulted .reported) .faulted (setNaks t.device 0 s)
  | .nak => if p = .fault then endInFault t (.faulted .reported) .faulted (setNaks t.device 0 s) else takeNak t s
  | .ack => if p = .fault then endInFault t (.faulted .reported) .faulted (setNaks t.device 0 s) else takeAck t p (setNaks t.device 0 s)

/-- A frame arrives in answer to the current transaction, and is judged (R164). -/
def judgeFrame (t : Transaction) (r : DeviceRec) (frame : List Byte) (s : State) : State :=
  match judgeReply r.address r.kind t.exchange t.toggle frame with
  | some (st, p) => takeReply t st p s
  | none => attemptFailed t .badReply s

/-- Microseconds that a request frame takes: six bytes at 19,200 baud (R215). -/
def frameMicros : Nat := 3125

/-- Fast time at which the frame of a transaction ends, and its wait begins (R164). -/
def waitBegins (t : Transaction) : Nat := t.sentAt + frameMicros

/-- Fast time at which the response timeout of a transaction's frame ends (R164). -/
def responseDeadline (t : Transaction) : Nat := waitBegins t + t.timeout * 1000

/-- Bytes arrive from the actuator line (R164). A frame is discarded while no attempt waits: without a transaction, and until its request
frame has ended (log entry 51). -/
def frameArrives (bytes : List Byte) (s : State) : State :=
  match s.act.current, replyFrame bytes with
  | some t, some frame =>
    if s.clock.fast < waitBegins t then s
    else match s.image.devices.at_ t.device with
      | some r => judgeFrame t r frame s
      | none => s
  | _, _ => s

/-- The movement deadline of a MOVING device, which a transaction of a command began, is reached (R170; log entry 24). -/
def movementTimesOut (d : Fin 16) (c : LineCommand) (s : State) : State :=
  concludeEvent d (s.device d).state (watchEnd s d .faulted) none c (enterState d (.faulted .moveTimeout) s)

end Sys2Proof.Machine
end

