-- ==== Sys2Proof/Machine/RainWatch.lean ====
section
/-! DEFINITION. The rain watch's operations: gauge states, window depths, rule evaluation, the site alert level, tips, the minute roll (R60 to R74). -/

namespace Sys2Proof.Machine

/-! ### Gauges (R60, R62) -/

/-- The state of a gauge (R60). -/
def gaugeState (s : State) (g : Fin 4) : GaugeState :=
  if (s.image.gauges.at_ g).enabled = false then .disabled
  else if terminalOf s (.gauge g) = none then .unwired
  else if (s.rain.gauges.at_ g).stuck then .stuck
  else .ready

/-- A gauge is usable (R60). -/
def usable (s : State) (g : Fin 4) : Bool := gaugeState s g == .ready

/-- A stuck deadline of a gauge that begins now, on the stuck time of the record as it stands (R59, R62). -/
def stuckDeadlineFrom (s : State) (g : Fin 4) : StuckDeadline :=
  { due := s.now + (s.image.gauges.at_ g).stuck, time := (s.image.gauges.at_ g).stuck }

/-- A stuck deadline starts for an enabled gauge whose input has become active or is found active (R62). -/
def startStuckDeadline (g : Fin 4) (s : State) : State :=
  if (s.image.gauges.at_ g).enabled then
    s.setGauge g { s.rain.gauges.at_ g with stuckDeadline := some (stuckDeadlineFrom s g) }
  else s

/-! ### Depths (R64) -/

/-- The window depth of a gauge over a number of minutes (R64). -/
def windowDepth (s : State) (window : Nat) (g : Fin 4) : Nat :=
  ((s.rain.gauges.at_ g).history.take window).sum * (s.image.gauges.at_ g).tipDepth

/-- The combined depth of a rule; absent while it is blind (R64). -/
def combinedDepth (s : State) (r : RuleRec) : Option Nat :=
  match (r.gauges.filter (usable s)).map (windowDepth s r.window) with
  | [] => none
  | ds => some (match r.combine with
    | .max => ds.foldl max 0
    | .mean => ds.sum / ds.length)

/-! ### The site alert level (R72) -/

/-- The level a rule contributes (R72). -/
def ruleLevel (s : State) (r : Fin 8) : Alert :=
  match (s.rain.rules.at_ r).state with
  | .raised | .fading => (s.image.rules.at_ r).level
  | .disarmed | .clear => .none

/-- The level a slot contributes (R72). -/
def slotLevel : ForecastSlot → Alert
  | .active l _ _ => l
  | .empty | .pending _ _ _ => .none

/-- The higher of two levels (R72). -/
def Alert.higher (a b : Alert) : Alert := if a.rank < b.rank then b else a

/-- The site alert level as its sources give it (R72). -/
def alertFromSources (s : State) : Alert :=
  let fromRules := allRules.foldl (fun a r => a.higher (ruleLevel s r)) .none
  allSlots.foldl (fun a i => a.higher (slotLevel (s.rain.slots.at_ i))) fromRules

/-- The site alert level is recomputed after a change of a source (R72). A new level is posted, held, and taken by the site model and the
planner (R16, R146). -/
def recomputeAlert (cause : AlertCause) (index : Nat) (s : State) : State :=
  let new := alertFromSources s
  if new = s.rain.alert then s
  else
    let s1 := post index (.alertChanged s.rain.alert new cause) s
    sitePlanner (s1.withRain { s1.rain with alert := new })

/-! ### Rules (R67, R68) -/

/-- A rule takes a state and recomputes the site alert level, where the state is another one (R66 to R68). -/
def enterRule (r : Fin 8) (v : RuleVol) (s : State) : State :=
  recomputeAlert .rule r.val (s.withRain { s.rain with rules := s.rain.rules.put r v })

/-- A rule raises: hold-until becomes now plus the hold time (R67, R68). -/
def raiseRule (r : Fin 8) (s : State) : State :=
  enterRule r { state := .raised, holdUntil := some (s.now + (s.image.rules.at_ r).hold * 60) } s

/-- A rule is evaluated for raising at a tip (R67). -/
def evaluateRaising (g : Fin 4) (s : State) (r : Fin 8) : State :=
  let rec_ := s.image.rules.at_ r
  if rec_.level ≠ .none ∧ g ∈ rec_.gauges then
    match combinedDepth s rec_ with
    | some d =>
      if rec_.raise ≤ d then
        match (s.rain.rules.at_ r).state with
        | .clear | .fading => raiseRule r s
        | .raised | .disarmed => s
      else s
    | none => s
  else s

/-- The outcome of a full evaluation of a rule that is not blind (R68). A rule that clears keeps its hold-until time (log entry 27). -/
def evaluateDepth (r : Fin 8) (d : Nat) (s : State) : State :=
  let rec_ := s.image.rules.at_ r
  let v := s.rain.rules.at_ r
  if rec_.raise ≤ d then
    match v.state with
    | .clear | .fading => raiseRule r s
    | .raised | .disarmed => s
  else if d < rec_.clear then
    match v.state with
    | .raised => enterRule r { v with state := .fading } s
    | .fading => if v.holdUntil.getD 0 ≤ s.now then enterRule r { v with state := .clear } s else s
    | .clear | .disarmed => s
  else s

/-- A rule is evaluated in full at a minute roll; a blind rule keeps its state (R68, R69). -/
def evaluateFull (s : State) (r : Fin 8) : State :=
  if (s.image.rules.at_ r).level = .none then s
  else match combinedDepth s (s.image.rules.at_ r) with
    | some d => evaluateDepth r d s
    | none => s

/-! ### Tips and rolls (R61, R63) -/

/-- The history with one more tip in its current minute, held at 255 (R61 step 2). -/
def addTip : List Nat → List Nat
  | [] => []
  | c :: rest => addHeld 255 c 1 :: rest

/-- A tip (R61). -/
def takeTip (g : Fin 4) (s : State) : State :=
  let v := s.rain.gauges.at_ g
  let s1 := s.setGauge g { v with lastTip := some s.clock.fast, history := addTip v.history, total := addHeld Config.max16 v.total 1 }
  let s2 := s1.withRet { s1.ret with lastRain := some s1.now }
  allRules.foldl (evaluateRaising g) s2

/-- The edge falls within the dead time of the gauge (R61). -/
def inDeadTime (s : State) (g : Fin 4) : Bool :=
  match (s.rain.gauges.at_ g).lastTip with
  | some t => decide (s.clock.fast < t + (s.image.gauges.at_ g).dead * 1000)
  | none => false

/-- An active edge reaches a gauge (R61, R62). -/
def gaugeActiveEdge (g : Fin 4) (s : State) : State :=
  let s1 := if usable s g && !inDeadTime s g then takeTip g s else s
  startStuckDeadline g s1

/-- An inactive edge reaches a gauge: it cancels the deadline, or ends STUCK (R62). -/
def gaugeInactiveEdge (g : Fin 4) (s : State) : State :=
  s.setGauge g { s.rain.gauges.at_ g with stuck := false, stuckDeadline := none }

/-- The history of a gauge after a roll at a second (R63 step 1). -/
def rollGauge (second : Nat) (v : GaugeVol) : GaugeVol :=
  { v with history := (0 :: v.history).take Config.buckets, minuteStart := second }

/-- The histories of the gauges that are not DISABLED roll (R63 step 1). -/
def rollHistories (second : Nat) (s : State) : State :=
  allGauges.foldl (fun s g => if (s.image.gauges.at_ g).enabled then s.setGauge g (rollGauge second (s.rain.gauges.at_ g)) else s) s

/-- A minute roll (R63). -/
def minuteRoll (s : State) : State :=
  let s1 := rollHistories s.rain.nextRoll s
  let s2 := s1.withRain { s1.rain with nextRoll := s.rain.nextRoll + 60 }
  allRules.foldl evaluateFull s2

/-! ### Attribution (R74) -/

/-- A rule is RAISED or FADING. -/
def ruleStanding (s : State) (r : Fin 8) : Bool :=
  match (s.rain.rules.at_ r).state with
  | .raised | .fading => true
  | .disarmed | .clear => false

/-- The station is rain-attributed (R74). -/
def rainAttributed (s : State) : Bool :=
  allRules.any (ruleStanding s)
    || (match s.ret.lastRain with
        | some t => decide (s.now - t ≤ s.image.dryLookback * 3600)
        | none => false)

end Sys2Proof.Machine
end

