-- ==== Sys2Proof/Machine/SpillLog.lean ====
section
/-! DEFINITION. The spill log: records, aggregate slots, next id, transfer, release, and the rewrite at the first clock setting (R99 to R114). -/

namespace Sys2Proof.Machine

/-- A record is open (R99). -/
def SpillRecord.isOpen (r : SpillRecord) : Bool := r.openSpill.isSome

/-- A record is the open record of an outfall (R78). -/
def SpillRecord.isOpenOf (k : Fin 4) (r : SpillRecord) : Bool := r.outfall == k && r.isOpen

/-- The open record of an outfall with its id, or with the aggregate mark (R78). -/
def openRecord (s : State) (k : Fin 4) : Option (Option Nat × SpillRecord) :=
  match s.ret.log.find? (fun e => e.record.isOpenOf k) with
  | some e => some (some e.id, e.record)
  | none => match s.ret.slots.at_ k with
    | some r => if r.isOpen then some (none, r) else none
    | none => none

/-- A change written into the open record of an outfall, in the log or in its slot (R103, R105). -/
def updateOpen (k : Fin 4) (f : SpillRecord → SpillRecord) (s : State) : State :=
  s.withRet { s.ret with
    log := s.ret.log.map fun e => if e.record.isOpenOf k then { e with record := f e.record } else e
    slots := s.ret.slots.upd k fun o => o.map fun r => if r.isOpen then f r else r }

/-- The log counts as full: 48 records, or the next id is exhausted (R101, R102). -/
def logRefuses (r : Retained) : Bool := decide (Config.logCap ≤ r.log.length) || r.nextId.isNone

/-- The next id after one has been given (R101). -/
def nextIdAfter (n : Nat) : Option Nat := if n = Config.max32 then none else some (n + 1)

/-- A record enters the log at its newest end with an id; the 48th posts LOG_FULL (R101, R102, R114). -/
def enterLog (id : Nat) (r : SpillRecord) (s : State) : State :=
  let s1 := s.withRet { s.ret with log := s.ret.log ++ [{ id := id, record := r }], nextId := nextIdAfter id }
  if s1.ret.log.length = Config.logCap then
    let oldest := match s1.ret.log with
      | e :: _ => e.id
      | [] => id
    post r.outfall.val (.logFull id (id - oldest) (s1.ret.log.countP fun e => e.record.isOpen)) s1
  else s1

/-- A single record at the start of its spill (R102). -/
def newRecord (s : State) (k : Fin 4) (start : Nat) (cls : SpillClass) (head : Nat) : SpillRecord :=
  { outfall := k, cls := cls, start := written s start, finish := none, cause := none, duration := 0, peak := head, volume := 0
    blocks := 0, clockUnset := !s.ret.clockSet, clockLate := false, gap := false, aggregate := false, merged := 0, firstStart := start
    openSpill := some { start := start, cls := cls, peak := head, volume := 0, blocks := 0, gap := false } }

/-- An aggregate opened in an empty slot (R105). -/
def newAggregate (s : State) (k : Fin 4) (start : Nat) (cls : SpillClass) (head : Nat) : SpillRecord :=
  { newRecord s k start cls head with aggregate := true, merged := 1 }

/-- A spill absorbed into the aggregate its slot holds (R106; log entry 67). -/
def absorb (s : State) (start : Nat) (cls : SpillClass) (head : Nat) (r : SpillRecord) : SpillRecord :=
  { r with
    merged := addHeld Config.max16 r.merged 1
    cls := if cls = .dry then .dry else r.cls
    peak := max r.peak head
    clockUnset := r.clockUnset || !s.ret.clockSet
    finish := none
    cause := none
    openSpill := some { start := start, cls := cls, peak := head, volume := 0, blocks := 0, gap := false } }

/-- A new spill is placed in the log, or in its outfall's aggregate slot (R102, R105, R106). -/
def placeSpill (k : Fin 4) (start : Nat) (cls : SpillClass) (head : Nat) (s : State) : State :=
  match s.ret.nextId with
  | some id =>
    if s.ret.log.length < Config.logCap then enterLog id (newRecord s k start cls head) s
    else placeSlot k start cls head s
  | none => placeSlot k start cls head s
where
  /-- The spill goes to its outfall's slot (R105, R106). -/
  placeSlot (k : Fin 4) (start : Nat) (cls : SpillClass) (head : Nat) (s : State) : State :=
    let r := match s.ret.slots.at_ k with
      | none => newAggregate s k start cls head
      | some r => absorb s start cls head r
    s.withRet { s.ret with slots := s.ret.slots.put k (some r) }

/-- Decicubes accrued by the open spill (R84, R103, R105). -/
def SpillRecord.addVolume (d : Nat) (r : SpillRecord) : SpillRecord :=
  { r with volume := addHeld Config.max32 r.volume d
           openSpill := r.openSpill.map fun o => { o with volume := addHeld Config.max32 o.volume d } }

/-- The peak head is raised to a greater head (R79 step 3, R105). -/
def SpillRecord.raisePeak (h : Int) (r : SpillRecord) : SpillRecord :=
  { r with peak := max r.peak h.toNat, openSpill := r.openSpill.map fun o => { o with peak := max o.peak h.toNat } }

/-- A block opened by the open spill (R87 to R89, R105; log entry 67). -/
def SpillRecord.addBlock (r : SpillRecord) : SpillRecord :=
  { r with blocks := addHeld Config.max16 r.blocks 1
           openSpill := r.openSpill.map fun o => { o with blocks := addHeld Config.max16 o.blocks 1 } }

/-- The open spill has gone BLIND (R83, R105). -/
def SpillRecord.setGap (r : SpillRecord) : SpillRecord :=
  { r with gap := true, openSpill := r.openSpill.map fun o => { o with gap := true } }

/-- A record whose open spill closes: the duration of the spill is added to that of the spills closed before,
which is 0 on a single record (R104, R107; log entry 67). -/
def SpillRecord.closeAt (s : State) (finish : Nat) (cause : EndCause) (r : SpillRecord) : SpillRecord :=
  match r.openSpill with
  | none => r
  | some o =>
    { r with
      duration := addHeld Config.max32 r.duration (finish - o.start)
      finish := some (written s finish)
      cause := some cause
      clockUnset := r.clockUnset || !s.ret.clockSet
      openSpill := none }

/-- The running duration of a record (R103, R105; log entry 67). -/
def SpillRecord.runningDuration (now : Nat) (r : SpillRecord) : Nat :=
  match r.openSpill with
  | none => r.duration
  | some o => addHeld Config.max32 r.duration (now - o.start)

/-- The record as it is reported: with its running duration (R103). -/
def SpillRecord.reported (now : Nat) (r : SpillRecord) : SpillRecord := { r with duration := r.runningDuration now }

/-- The slot whose closed aggregate goes first (R108): the earliest first start second, then the lower outfall. -/
def firstClosed (s : State) : Option (Fin 4 × SpillRecord) :=
  allOutfalls.foldl (fun best k =>
    match s.ret.slots.at_ k with
    | none => best
    | some r =>
      if r.isOpen then best
      else match best with
        | none => some (k, r)
        | some (k', r') => if r.firstStart < r'.firstStart then some (k, r) else some (k', r')) none

/-- One aggregate moves from its slot into the log, where there is one and room for it (R108). -/
def transferOne (s : State) : Option State :=
  if s.ret.log.length < Config.logCap then
    match s.ret.nextId, firstClosed s with
    | some id, some (k, r) => some (enterLog id r (s.withRet { s.ret with slots := s.ret.slots.put k none }))
    | _, _ => none
  else none

/-- Transfers, one after another, with their number (R108). -/
def transferLoop : Nat → Nat → State → State × Nat
  | 0, n, s => (s, n)
  | fuel + 1, n, s =>
    match transferOne s with
    | none => (s, n)
    | some s' => transferLoop fuel (n + 1) s'

/-- The transfer test (R108): four slots allow at most four transfers. -/
def transferTest (s : State) : State × Nat := transferLoop 4 0 s

/-- The rewrite of one record at the first clock setting (R111). -/
def SpillRecord.rewrite (s : State) (r : SpillRecord) : SpillRecord :=
  if r.clockUnset then
    { r with start := siteTime s r.start, finish := r.finish.map (siteTime s), clockUnset := false, clockLate := true }
  else r

/-- The rewrite of the log and the slots, with the offset already in force (R111). -/
def rewriteRecords (s : State) : State :=
  s.withRet { s.ret with
    log := s.ret.log.map fun e => { e with record := e.record.rewrite s }
    slots := Vector.ofFn fun k => (s.ret.slots.at_ k).map (SpillRecord.rewrite s) }

/-- The records that a release removes: from the oldest end, closed, with ids up to a limit (R110). -/
def releasable (upTo : Nat) (e : LogEntry) : Bool := decide (e.id ≤ upTo) && !e.record.isOpen

end Sys2Proof.Machine
end

