-- ==== Sys2Proof/Machine/Spills.lean ====
section
/-! DEFINITION. The spill accountant: heads, volume, transitions, count blocks, closes (R78 to R95). -/

namespace Sys2Proof.Machine

/-- The outfall record of an outfall. -/
def State.outfall (s : State) (k : Fin 4) : OutfallRec := s.image.outfalls.at_ k

/-- An outfall takes a spill state. -/
def enterSpillState (k : Fin 4) (st : SpillState) (s : State) : State := s.setOutfall k { s.spill.at_ k with state := st }

/-- The current period of an outfall changed (R91). -/
def creditPeriod (k : Fin 4) (f : PeriodSet → PeriodSet) (s : State) : State :=
  s.setCounts k { s.ret.counts.at_ k with current := f (s.ret.counts.at_ k).current }

/-! ### Volume (R84) -/

/-- The accrual interval: the seconds since the previous acceptance, capped at 60 (R84). -/
def accrualInterval (time : Nat) : Option Nat → Nat
  | some p => min Config.accrualCap (time - p)
  | none => 0

/-- Volume accrues over an interval at the flow of the present head (R84). -/
def accrue (k : Fin 4) (head : Int) (interval : Nat) (s : State) : State :=
  let litres := weirFlow (s.outfall k).weir head * interval + (s.spill.at_ k).remainder
  let s1 := updateOpen k (SpillRecord.addVolume (litres / 100)) s
  s1.setOutfall k { s1.spill.at_ k with remainder := litres % 100 }

/-! ### Count blocks (R87 to R89, R94) -/

/-- The open spill of an outfall. -/
def openSpillOf (s : State) (k : Fin 4) : Option OpenSpill :=
  match openRecord s k with
  | some (_, r) => r.openSpill
  | none => none

/-- The id of the open record, absent for the aggregate mark. -/
def openId (s : State) (k : Fin 4) : Option Nat :=
  match openRecord s k with
  | some (id, _) => id
  | none => none

/-- The count-block length of an outfall, in seconds. -/
def blockLength (s : State) (k : Fin 4) : Nat := (s.outfall k).blockHours * 3600

/-- The open spill of an outfall is DRY. -/
def spillIsDry (s : State) (k : Fin 4) : Bool :=
  match openSpillOf s k with
  | some o => o.cls == .dry
  | none => false

/-- A count block opens at a second (R87, R88, R89). -/
def openBlock (k : Fin 4) (start : Nat) (s : State) : State :=
  let dry := spillIsDry s k
  let s1 := s.setCounts k { s.ret.counts.at_ k with blockEnd := start + blockLength s k }
  let s2 := creditPeriod k (fun p => { p with blocks := addHeld Config.max32 p.blocks 1
                                              dryBlocks := if dry then addHeld Config.max32 p.dryBlocks 1 else p.dryBlocks }) s1
  updateOpen k SpillRecord.addBlock s2

/-- A carried block opens at a second, and BLOCK_CARRIED is posted (R88, R89, R94). -/
def carryBlock (k : Fin 4) (start : Nat) (s : State) : State :=
  let s1 := openBlock k start s
  let blocks := match openSpillOf s1 k with
    | some o => o.blocks
    | none => 0
  postAt start k.val (.blockCarried (openId s1 k) (blockLength s k) blocks) s1

/-! ### Starting (R80, R86, R87, R93) -/

/-- The change of an outfall between QUIET and another state reaches the sounding scheduler and the site model (R16, R39). -/
def outfallChanged (k : Fin 4) (s : State) : State := evaluateMode (refIntervalChanged k s)

/-- A spill starts at an acceptance (R80). -/
def startSpill (k : Fin 4) (head : Int) (time : Nat) (s : State) : State :=
  let cls : SpillClass := if rainAttributed s then .rain else .dry
  let s1 := s.setOutfall k { s.spill.at_ k with remainder := 0 }
  let s2 := placeSpill k time cls head.toNat s1
  let s3 := creditPeriod k (fun p => { p with events := addHeld Config.max32 p.events 1 }) s2
  let merged := decide (s3.now < (s3.ret.counts.at_ k).blockEnd)
  let s4 := if merged then s3 else openBlock k s3.now s3
  let s5 := enterSpillState k .spilling s4
  let s6 := postAt time k.val (.spillStarted (openId s5 k) cls (if merged then .merged else .opened) head) s5
  outfallChanged k s6

/-! ### Acceptances (R79, R81, R82, R83) -/

/-- The tail of a spill begins (R81, R83). -/
def beginTail (k : Fin 4) (time : Nat) (s : State) : State := enterSpillState k (.tailing time (time + (s.outfall k).tail)) s

/-- The transition of an outfall at an acceptance, after accrual and peak (R79 step 4, R80 to R83, R89). -/
def spillTransition (k : Fin 4) (head : Int) (time : Nat) (s : State) : State :=
  let onset : Int := (s.outfall k).onset
  match s.spillState k with
  | .quiet => if onset ≤ head then startSpill k head time s else s
  | .spilling => if head < onset - ((s.outfall k).hysteresis : Int) then beginTail k time s else s
  | .tailing _ _ =>
    if onset ≤ head then
      let s1 := enterSpillState k .spilling s
      if (s1.ret.counts.at_ k).blockEnd ≤ s1.now then carryBlock k s1.now s1 else s1
    else s
  | .blind => if onset ≤ head then enterSpillState k .spilling s else beginTail k time s

/-- Steps 2 and 3 of an acceptance: volume accrues in SPILLING and TAILING, and the peak rises while a spill is open (R79). -/
def accrueAndPeak (k : Fin 4) (head : Int) (time : Nat) (previous : Option Nat) (s : State) : State :=
  match s.spillState k with
  | .quiet => s
  | .spilling | .tailing _ _ => updateOpen k (SpillRecord.raisePeak head) (accrue k head (accrualInterval time previous) s)
  | .blind => updateOpen k (SpillRecord.raisePeak head) s

/-- The spill accountant takes an acceptance of a bay's level (R79). -/
def spillAcceptance (b : Fin 8) (value time : Nat) (previous : Option Nat) (s : State) : State :=
  match outfallOf s b with
  | some k =>
    if (s.outfall k).configured then
      let head : Int := (value : Int) - ((s.bay b).crest : Int)
      spillTransition k head time (accrueAndPeak k head time previous s)
    else s
  | none => s

/-- The spill accountant takes a loss of a bay's level (R83). -/
def spillLoss (b : Fin 8) (s : State) : State :=
  match outfallOf s b with
  | some k =>
    match s.spillState k with
    | .spilling | .tailing _ _ => updateOpen k SpillRecord.setGap (enterSpillState k .blind s)
    | .quiet | .blind => s
  | none => s

/-! ### Closing (R90, R95, R107) -/

/-- Steps 1 to 3 of a close: the duration is fixed, the period is credited, the record is closed (R90). -/
def closeFigures (k : Fin 4) (finish : Nat) (cause : EndCause) (o : OpenSpill) (s : State) : State :=
  let s1 := creditPeriod k (fun p => { p with duration := addHeld Config.max32 p.duration (finish - o.start)
                                              volume := addHeld Config.max32 p.volume o.volume }) s
  updateOpen k (SpillRecord.closeAt s1 finish cause) s1

/-- A spill closes (R90). `atStart` is a close of the start sequence, which makes its one transfer test later (R107, R192). -/
def closeSpill (k : Fin 4) (finish : Nat) (cause : EndCause) (atStart : Bool) (s : State) : State :=
  match openRecord s k with
  | some (id, r) =>
    match r.openSpill with
    | some o =>
      let s1 := closeFigures k finish cause o s
      let s2 := if id.isNone && !atStart then (transferTest s1).1 else s1
      let s3 := s2.setOutfall k { state := .quiet, remainder := 0 }
      postAt finish k.val (.spillEnded id cause (min ((finish - o.start) / 60) Config.max16)) s3
    | none => s
  | none => s

/-- The tail deadline of a TAILING outfall is reached (R82, R90). -/
def tailEnds (k : Fin 4) (s : State) : State :=
  match s.spillState k with
  | .tailing tentative _ => outfallChanged k (closeSpill k tentative .ended false s)
  | .quiet | .spilling | .blind => s

/-- The block-end of an outfall is reached (R88; log entry 66). -/
def blockEndReached (k : Fin 4) (s : State) : State :=
  match s.spillState k with
  | .spilling | .blind => carryBlock k (s.ret.counts.at_ k).blockEnd s
  | .quiet | .tailing _ _ => s

end Sys2Proof.Machine
end

