-- ==== Sys2Proof/Machine/LevelKeeper.lean ====
section
/-! DEFINITION. The level keeper: filtering, staleness, floats, and the level events it hands on (R44 to R54). -/

namespace Sys2Proof.Machine

/-! ### Level events (R53) -/

/-- A level event of a bay: an acceptance, or a change of quality. Both carry what R53 lists: the quality before and after, the value and
the volume after, and, for an acceptance, its time and the time of the acceptance before. An acceptance leaves the quality GOOD. -/
inductive LevelEvent where
  | acceptance (before : Quality) (value volume time : Nat) (previous : Option Nat)
  | qualityChange (before after : Quality) (value volume : Option Nat)
  deriving DecidableEq, Repr

/-- The blocks that take a level event, apart from the alarm lines, in the order of the table of R53. -/
inductive LevelTaker where
  | site | spill | drain | planner
  deriving DecidableEq, Repr

/-- One block takes a level event (R53). -/
def takeLevelEvent (b : Fin 8) (ev : LevelEvent) (s : State) (t : LevelTaker) : State :=
  match t with
  | .site => evaluateMode s
  | .planner => plannerTake s
  | .spill =>
    match ev with
    | .acceptance _ value _ time previous => spillAcceptance b value time previous s
    | .qualityChange _ after _ _ => if after.isLoss then spillLoss b s else s
  | .drain =>
    match ev with
    | .acceptance _ value volume _ _ => drainAcceptance b value volume s
    | .qualityChange _ after _ _ => if after.isLoss then gaugeLoss b s else s

/-- A level event is taken by the blocks that use the level, in a free order (R53, R146; log entry 7). -/
def handLevelEvent (b : Fin 8) (ev : LevelEvent) (s : State) : State :=
  (permute 4 (choice s) [LevelTaker.site, .spill, .drain, .planner]).foldl (takeLevelEvent b ev) (dropChoice s)

/-- A change of a bay's quality without an acceptance is handed on, with the value and the volume after it, where there is one (R53). -/
def handQualityChange (b : Fin 8) (before : Quality) (s : State) : State :=
  if (s.level b).quality = before then s
  else handLevelEvent b (.qualityChange before (s.level b).quality (s.level b).value (volumeOf s b)) s

/-! ### Disagreement (R52) -/

/-- The float and the transducer disagree (R52). -/
def disagrees (s : State) (b : Fin 8) : Bool :=
  s.lvl.floats.at_ b == .active && ((s.level b).quality == .good || (s.level b).quality == .held)
    && (match (s.level b).value with
        | some v => decide (v + 100 < (s.bay b).floatHeight)
        | none => false)

/-- The disagreement test: FLOAT_DISAGREE is posted once for an activation (R52). -/
def testDisagreement (b : Fin 8) (s : State) : State :=
  if disagrees s b && !(s.level b).disagreed then
    post b.val (.floatDisagree ((s.level b).value.getD 0) (s.bay b).floatHeight (s.level b).quality)
      (s.setLevel b { s.level b with disagreed := true })
  else s

/-! ### Staleness (R48, R49, R51) -/

/-- A record goes stale: FLOAT at the float height where the float is active, STALE otherwise; other qualities are kept
(R48, R49, R51). -/
def goStale (s : State) (b : Fin 8) (r : LevelRecord) : LevelRecord :=
  match r.quality with
  | .good | .held =>
    if s.lvl.floats.at_ b = .active then { r with quality := .float, value := some (s.bay b).floatHeight }
    else { r with quality := .stale }
  | .none | .stale | .float => r

/-- A completion without an acceptance: the miss count rises, and the record goes stale at the limit or with a channel that has just
failed (R48, R49). -/
def missed (s : State) (b : Fin 8) (failedNow : Bool) (r : LevelRecord) : LevelRecord :=
  let r1 := { r with misses := addHeld 255 r.misses 1 }
  if failedNow || decide (s.image.staleLimit ≤ r1.misses) then goStale s b r1 else r1

/-! ### Filtering (R46, R47) -/

/-- The distance of two levels without sign. -/
def levelGap (a b : Nat) : Nat := (a - b) + (b - a)

/-- A reading lies within the allowed slew of a level held since a time (R46). -/
def withinSlew (s : State) (b : Fin 8) (level time heldLevel heldTime : Nat) : Bool :=
  decide (levelGap level heldLevel ≤ (s.bay b).slew * (time - heldTime) + Config.slewSlack)

/-- A GOOD reading is accepted (R46). -/
def accepts (s : State) (b : Fin 8) (r : LevelRecord) (level time : Nat) : Bool :=
  match r.accepted with
  | none => true
  | some t =>
    withinSlew s b level time (r.value.getD 0) t
      || (match r.candidate with
          | some c => withinSlew s b level time c.level c.time
          | none => false)

/-- The record after an acceptance (R44). -/
def LevelRecord.accept (level time : Nat) (r : LevelRecord) : LevelRecord :=
  { r with value := some level, quality := .good, accepted := some time, candidate := none, misses := 0 }

/-- The record with a reading beyond slew as its candidate (R47). -/
def LevelRecord.hold (level time : Nat) (r : LevelRecord) : LevelRecord :=
  { r with candidate := some { level := level, time := time }, quality := if r.quality = .good then .held else r.quality }

/-- The level keeper accepts a reading and hands the acceptance on (R46, R52, R53). -/
def acceptReading (b : Fin 8) (level time : Nat) (s : State) : State :=
  let r := s.level b
  let s1 := testDisagreement b (s.setLevel b (r.accept level time))
  handLevelEvent b (.acceptance r.quality level (volumeAt (s1.bay b).stage level) time r.accepted) s1

/-- The level keeper takes a completion that leads to no acceptance, with the record it leaves (R47 to R49, R52, R53). -/
def withoutAcceptance (b : Fin 8) (r : LevelRecord) (s : State) : State :=
  let before := (s.level b).quality
  let s1 := s.setLevel b r
  handQualityChange b before (if r.quality = .held ∧ before ≠ .held then testDisagreement b s1 else s1)

/-- The level keeper takes one completion: a reading, and whether it has just failed its channel (R46 to R49). -/
def levelCompletion (b : Fin 8) (level : Option Nat) (time : Nat) (failedNow : Bool) (s : State) : State :=
  match level with
  | some l =>
    if accepts s b (s.level b) l time then acceptReading b l time s
    else withoutAcceptance b (missed s b failedNow ((s.level b).hold l time)) s
  | none => withoutAcceptance b (missed s b failedNow (s.level b)) s

/-! ### Floats (R50, R51) -/

/-- A record in STALE or NONE takes FLOAT while its bay's float is active (R51). -/
def floatRule (s : State) (b : Fin 8) (r : LevelRecord) : LevelRecord :=
  if s.lvl.floats.at_ b = .active ∧ (r.quality = .stale ∨ r.quality = .none) then
    { r with quality := .float, value := some (s.bay b).floatHeight }
  else r

/-- An activation of a bay's float (R50, R51, R52). The float of a bay that is not enabled has no effect on its record. -/
def floatActivated (b : Fin 8) (s : State) : State :=
  let s1 := s.setFloat b .active
  if (s1.bay b).enabled then
    let before := (s1.level b).quality
    let s2 := s1.setLevel b (floatRule s1 b { s1.level b with disagreed := false })
    handQualityChange b before (testDisagreement b s2)
  else s1

/-- A release of a bay's float, which leaves it RELEASED or ABSENT (R50, R51). -/
def floatReleased (b : Fin 8) (after : FloatState) (s : State) : State :=
  let s1 := s.setFloat b after
  if (s1.bay b).enabled = true ∧ (s1.level b).quality = .float then
    handQualityChange b .float (s1.setLevel b { s1.level b with quality := .stale })
  else s1

end Sys2Proof.Machine
end

