-- ==== Sys2Proof/Machine/SoundingEnd.lean ====
section
/-! DEFINITION. How a sounding ends: the reading, channel health, the completion, the new entry, the gate and its retries (R28 to R33, R38, R40, R41). -/

namespace Sys2Proof.Machine

/-! ### Channel health (R40, R41) -/

/-- The channel of a bay changed. -/
def setChannel (b : Fin 8) (c : Channel) (s : State) : State := s.withSnd { s.snd with channels := s.snd.channels.put b c }

/-- A GOOD result reaches channel health (R41). -/
def channelGood (b : Fin 8) (s : State) : State :=
  let c := s.snd.channels.at_ b
  let s1 := setChannel b { health := .ok, bad := 0 } s
  if c.health = .failed then post b.val (.gaugeRecovered c.bad) s1 else s1

/-- A bad result reaches channel health (R40). -/
def channelBad (b : Fin 8) (result : ReadingResult) (fault : Option DriveFault) (s : State) : State :=
  let c := s.snd.channels.at_ b
  let n := addHeld 255 c.bad 1
  if c.health = .ok ∧ s.image.sounding.faultLimit ≤ n then
    post b.val (.gaugeFault result n fault) (setChannel b { health := .failed, bad := n } s)
  else setChannel b { c with bad := n } s

/-- A finished reading reaches channel health (R40, R41). -/
def channelTakes (r : Reading) (s : State) : State :=
  if r.result = .good then channelGood r.bay s else channelBad r.bay r.result r.driveFault s

/-- A channel has just become FAILED between two states (R49). -/
def justFailed (before after : State) (b : Fin 8) : Bool :=
  (before.snd.channels.at_ b).health == .ok && (after.snd.channels.at_ b).health == .failed

/-! ### The finish (R32) -/

/-- The reading of a sounding that finishes now (R32). -/
def makeReading (s : State) (f : InFlight) (result : ReadingResult) (level : Option Nat) (fault : Option DriveFault)
    (nanos : Option Nat) : Reading :=
  { bay := f.bay, result := result, level := level, driveFault := fault, weak := f.weak, gateNanos := nanos, attempts := f.attempt + 1
    joined := f.joined, time := s.now }

/-- A discarded sounding has ended: the bay's fresh entry joins where it is enabled (R7, R32). -/
def endDiscarded (f : InFlight) (s : State) : State :=
  engineIdle (if (s.bay f.bay).enabled then queueEntry (freshEntry f.bay s.now) s else s)

/-- A sounding finishes with a reading, in the order of R32 (log entry 9). -/
def finishWith (f : InFlight) (r : Reading) (s : State) : State :=
  let s1 := s.withSnd { s.snd with last := s.snd.last.put f.bay (some r) }
  let s2 := channelTakes r s1
  let s3 := levelCompletion f.bay r.level r.time (justFailed s1 s2 f.bay) s2
  engineIdle (queueEntry (freshEntry f.bay (r.time + applicableInterval s3 f.bay)) s3)

/-- A sounding reaches a result (R32). -/
def finish (f : InFlight) (result : ReadingResult) (level : Option Nat) (fault : Option DriveFault) (nanos : Option Nat)
    (s : State) : State :=
  if f.discard then endDiscarded f s else finishWith f (makeReading s f result level fault nanos) s

/-! ### Timing of a sounding (R27, R28, R30) -/

/-- Fast time of the charge deadline (R25). -/
def chargeDeadline (f : InFlight) : Nat := f.chargeStart + f.charge * 1000

/-- The listen window from the start of the burst, in microseconds (R28). -/
def listenWindow (f : InFlight) : Nat := 2 * (f.mounting + 200) * 1000 / f.speed

/-- A time of flight lies at or after the end of blanking: the end of the burst, `pulses` periods of `frequency` kilohertz after its start,
plus the blanking time (R28, log entry 11). -/
def afterBlanking (f : InFlight) (tof : Nat) : Bool := decide (f.pulses * 1000 + f.blanking * 1000 * f.frequency ≤ tof * f.frequency)

/-- The raw level of a time of flight (R29). -/
def rawLevel (f : InFlight) : Int := (f.mounting : Int) - ((f.tof * f.speed / 2000 : Nat) : Int)

/-- The gate passes at a time of the 16 half-periods in nanoseconds: the measured frequency is 8,000,000 / nanos kilohertz
(R30, log entry 12). -/
def gatePasses (f : InFlight) (nanos : Nat) (tolerance : Nat) : Bool :=
  decide (f.frequency * (100 - tolerance) * nanos ≤ 800000000) && decide (800000000 ≤ f.frequency * (100 + tolerance) * nanos)

/-! ### The gate's outcomes (R29, R31) -/

/-- The gate passes (R29, R30). -/
def gatePassed (f : InFlight) (nanos : Nat) (s : State) : State :=
  if 0 ≤ rawLevel f then finish f .good (some (rawLevel f).toNat) none (some nanos) s
  else finish f .outOfRange none none (some nanos) s

/-- The delay range of an attempt number after a failure, in microseconds (R31). -/
def backoffRange : Nat → Nat × Nat
  | 0 | 1 => (10000, 40000)
  | 2 => (40000, 120000)
  | _ => (120000, 360000)

/-- The delay the part uses for its `n`th back-off: a free value in the range of the attempt (R31, log entry 6). -/
def backoffDelay (n attempt : Nat) : Nat :=
  (backoffRange attempt).1 + Config.backoffDelay n % ((backoffRange attempt).2 - (backoffRange attempt).1 + 1)

/-- The entry of a failed gate goes back into the queue (R31). The sounding has not finished, so it stays joined where a SOUND request has joined
it, and its reading will say so (R32, R37; log entry 44). -/
def retryEntry (s : State) (f : InFlight) : SoundingEntry :=
  { bay := f.bay, due := f.due, urgent := f.urgent, attempt := f.attempt + 1
    notBefore := some (s.clock.fast + backoffDelay s.free.delays (f.attempt + 1)), joined := f.joined }

/-- The gate fails: interference (R31). -/
def gateFailed (f : InFlight) (s : State) : State :=
  if f.discard then endDiscarded f s
  else if f.attempt < 3 then
    engineIdle ((queueEntry (retryEntry s f) s).withFree { s.free with delays := s.free.delays + 1 })
  else finish f .interfered none none none s

end Sys2Proof.Machine
end

