-- ==== Sys2Proof/Machine/HostConfig.lean ====
section
/-! DEFINITION. The host's configuration requests: SET_PARAMS, SET_BAY, SET_OUTFALL, SET_GAUGE, SET_RULE, SET_DEVICE, SET_TERMINAL, SET_ALARM_LINE. -/

namespace Sys2Proof.Machine

/-- What a request leaves: the state, the result, and the reply body (R198, R199). -/
structure Answer where
  state : State
  result : Result
  body : ReplyBody
  deriving DecidableEq, Repr

/-- A refused request changes nothing and has an empty reply body (R198). -/
def refuse (r : Result) (s : State) : Answer := { state := s, result := r, body := .empty }

/-- A request answered OK. -/
def answerOk (body : ReplyBody) (s : State) : Answer := { state := s, result := .ok, body := body }

/-- A request answered ACCEPTED. -/
def answerAccepted (body : ReplyBody) (s : State) : Answer := { state := s, result := .accepted, body := body }

/-- The length of the body is tested first (R212). -/
def onFields {α : Type} (b : Body α) (s : State) (f : α → Answer) : Answer :=
  match b with
  | .wrongLength => refuse .refusedLength s
  | .fields x => f x

/-- The first refusal that applies, if any (R3, R177). -/
def firstRefusal : List (Bool × Result) → Option Result
  | [] => none
  | (c, r) :: rest => if c then some r else firstRefusal rest

/-- A request that is refused by the first check that applies, in the order of the checks, and otherwise carried out; where a rule gives its
checks no order, they stand in the order in which it lists them (log entry 59). -/
def unlessRefused (checks : List (Bool × Result)) (s : State) (carryOut : Answer) : Answer :=
  match firstRefusal checks with
  | some r => refuse r s
  | none => carryOut

/-- A number lies in a range. -/
def inRange (lo hi x : Nat) : Bool := decide (lo ≤ x) && decide (x ≤ hi)

/-- A number is 0 or lies in a range (R3, R21). -/
def zeroOrIn (lo hi x : Nat) : Bool := x == 0 || inRange lo hi x

/-- A number sent as 0 selects its default (R3, R21). -/
def orDefault (d x : Nat) : Nat := if x = 0 then d else x

/-- The configuration image is written, and the COLD flag clears (R190). -/
def writeImage (i : Image) (s : State) : State := (s.withImage i).withRet { s.ret with cold := false }

/-! ### SET_PARAMS (R21, R45, R73, R121, R145, R160) -/

/-- The parameters of the SOUNDING group lie in their ranges (R20, R21). -/
def soundingInRange (p : SoundingParams) : Bool :=
  zeroOrIn 10 200 p.charge && zeroOrIn 4 64 p.stuck && zeroOrIn 300 380 p.speed && zeroOrIn 1 30 p.drain && zeroOrIn 1 3600 p.dry
    && zeroOrIn 1 3600 p.watch && zeroOrIn 1 3600 p.storm && zeroOrIn 1 3600 p.recovery && zeroOrIn 1 3600 p.maintenance
    && zeroOrIn 1 15 p.faultLimit

/-- The SOUNDING group as stored: a 0 holds the default (R21). -/
def soundingStored (p : SoundingParams) : SoundingParams :=
  { charge := orDefault 50 p.charge, stuck := orDefault 16 p.stuck, speed := orDefault 343 p.speed, drain := orDefault 3 p.drain
    dry := orDefault 60 p.dry, watch := orDefault 15 p.watch, storm := orDefault 5 p.storm, recovery := orDefault 10 p.recovery
    maintenance := orDefault 30 p.maintenance, faultLimit := orDefault 5 p.faultLimit }

/-- SET_PARAMS of the SOUNDING group (R21). -/
def handleParamsSounding (b : Body SoundingParams) (s : State) : Answer :=
  onFields b s fun p => unlessRefused [(!soundingInRange p, .refusedRange)] s
    (answerOk .empty (intervalsChanged (writeImage { s.image with sounding := soundingStored p } s)))

/-- SET_PARAMS of the LEVEL group (R45). -/
def handleParamsLevel (b : Body Nat) (s : State) : Answer :=
  onFields b s fun n => unlessRefused [(!zeroOrIn 2 15 n, .refusedRange)] s
    (answerOk .empty (writeImage { s.image with staleLimit := orDefault 4 n } s))

/-- SET_PARAMS of the RAIN group (R73). -/
def handleParamsRain (b : Body Nat) (s : State) : Answer :=
  onFields b s fun n => unlessRefused [(!zeroOrIn 1 72 n, .refusedRange)] s
    (answerOk .empty (writeImage { s.image with dryLookback := orDefault 6 n } s))

/-- The DRAIN group as stored (R121). -/
def drainStored (p : DrainParams) : DrainParams :=
  { slots := orDefault 1 p.slots, lotVolume := orDefault 500 p.lotVolume, lotTime := orDefault 900 p.lotTime }

/-- SET_PARAMS of the DRAIN group (R121); out of range comes before the state (log entry 59). -/
def handleParamsDrain (b : Body DrainParams) (s : State) : Answer :=
  onFields b s fun p => unlessRefused
    [(!(zeroOrIn 1 3 p.slots && zeroOrIn 10 50000 p.lotVolume && zeroOrIn 60 3600 p.lotTime), .refusedRange),
      ((drainStored p).slots != s.image.drain.slots && !(slotHolders s).isEmpty, .refusedState)] s
    (answerOk .empty (slotGrant (writeImage { s.image with drain := drainStored p } s)))

/-- SET_PARAMS of the PLANNER group (R145). -/
def handleParamsPlanner (b : Body Nat) (s : State) : Answer :=
  onFields b s fun n => unlessRefused [(!inRange 0 500 n, .refusedRange)] s
    (answerOk .empty (plannerTake (writeImage { s.image with margin := n } s)))

/-- The parameters of the ACTUATOR group lie in their ranges (R160). -/
def actuatorInRange (p : ActuatorParams) : Bool :=
  zeroOrIn 5 200 p.timeout && inRange 0 3 p.retries && zeroOrIn 50 2000 p.nakBackoff && zeroOrIn 1 20 p.nakLimit && zeroOrIn 1 30 p.poll

/-- The ACTUATOR group as stored (R160). -/
def actuatorStored (p : ActuatorParams) : ActuatorParams :=
  { timeout := orDefault 40 p.timeout, retries := p.retries, nakBackoff := orDefault 250 p.nakBackoff
    nakLimit := orDefault 8 p.nakLimit, poll := orDefault 2 p.poll }

/-- SET_PARAMS of the ACTUATOR group (R160). -/
def handleParamsActuator (b : Body ActuatorParams) (s : State) : Answer :=
  onFields b s fun p => unlessRefused [(!actuatorInRange p, .refusedRange)] s
    (answerOk .empty (writeImage { s.image with actuator := actuatorStored p } s))

/-! ### SET_BAY (R3 to R7) -/

/-- A list of numbers strictly increases. -/
def strictlyRising : List Nat → Bool
  | a :: b :: rest => decide (a < b) && strictlyRising (b :: rest)
  | _ => true

/-- The stage points that are looked at (R212). -/
def bayStage (f : BayFields) : List StagePoint := f.points.take f.count

/-- The stage table satisfies R4. -/
def stageValid (f : BayFields) : Bool :=
  inRange 2 8 f.count && (bayStage f).length == f.count && strictlyRising ((bayStage f).map fun p => p.level)
    && strictlyRising ((bayStage f).map fun p => p.volume) && (bayStage f).all (fun p => decide (p.level ≤ 15000) && decide (p.volume ≤ 4000000000))

/-- The fields of SET_BAY satisfy the checks of R4. -/
def bayFieldsValid (f : BayFields) : Bool :=
  inRange 0 1 f.enabled && inRange 20 200 f.frequency && zeroOrIn 4 40 f.pulses && zeroOrIn 1 20 f.blanking && inRange 0 15 f.step
    && zeroOrIn 1 20 f.tolerance && inRange 500 15000 f.mounting && strictlyRising [f.empty, f.fill, f.drawdown, f.high, f.crest]
    && inRange 0 15000 f.crest && zeroOrIn 1 500 f.slew && inRange 0 4 f.dest && (inRange 0 15 f.device || f.device == 255)
    && inRange 0 7 f.rank && inRange 100 15000 f.floatHeight && decide (f.crest + 300 ≤ f.mounting)
    && decide (f.floatHeight + 300 ≤ f.mounting) && stageValid f

/-- The bay record that SET_BAY stores (R3, R212). -/
def bayRecord (f : BayFields) : BayRec :=
  { enabled := f.enabled == 1, frequency := f.frequency, pulses := orDefault 12 f.pulses, blanking := orDefault 3 f.blanking
    step := f.step, tolerance := orDefault 8 f.tolerance, mounting := f.mounting, empty := f.empty, fill := f.fill
    drawdown := f.drawdown, high := f.high, crest := f.crest, slew := orDefault 50 f.slew, stage := bayStage f
    dest := match index? 4 (f.dest - 1) with
      | some k => if f.dest = 0 then .nextBay else .outfall k
      | none => .nextBay
    device := index? 16 f.device, rank := f.rank, floatHeight := f.floatHeight }

/-- The enabled bays other than one. -/
def otherBays (s : State) (b : Fin 8) : List (Fin 8) := allBays.filter fun x => x != b && (s.bay x).enabled

/-- Bay *i*+1 is enabled (R5). -/
def successorEnabled (s : State) (b : Fin 8) : Bool := (otherBays s b).any fun x => x.val == b.val + 1

/-- The record of an enabled bay fails a cross-record check of R5. -/
def crossFailsEnabled (s : State) (b : Fin 8) (r : BayRec) : Bool :=
  (match r.dest with
    | .nextBay => !successorEnabled s b
    | .outfall k => (otherBays s b).any fun x => (s.bay x).dest == .outfall k)
  || (match r.device with
    | some d => (otherBays s b).any fun x => (s.bay x).device == some d || ((s.bay x).device.isSome && (s.bay x).rank == r.rank)
    | none => false)

/-- The record fails a cross-record check of R5. -/
def crossFails (s : State) (b : Fin 8) (r : BayRec) : Bool :=
  if r.enabled then crossFailsEnabled s b r
  else (otherBays s b).any fun x => x.val + 1 == b.val && (s.bay x).dest == .nextBay

/-- The record is enabled and names a drain device that is not configured (R3). -/
def deviceMissing (s : State) (r : BayRec) : Bool :=
  r.enabled && (match r.device with
    | some d => (s.image.devices.at_ d).isNone
    | none => false)

/-- The state check of SET_BAY fails (R6). -/
def bayStateFails (s : State) (b : Fin 8) (r : BayRec) : Bool :=
  (s.order b).isSome
    || (match outfallOf s b with
        | some k => notQuiet s k && !(r.enabled && r.dest == .outfall k)
        | none => false)

/-- The sounding in flight of a bay is marked to be discarded (R7, R36). -/
def discardInFlight (b : Fin 8) (s : State) : State :=
  match s.snd.engine with
  | some f => if f.bay = b then setEngine { f with discard := true } s else s
  | none => s

/-- The engine is sounding a bay. -/
def inFlightOf (s : State) (b : Fin 8) : Bool :=
  match s.snd.engine with
  | some f => f.bay == b
  | none => false

/-- The fresh entry of a bay joins, unless a sounding of the bay is in flight (R7). -/
def joinFresh (b : Fin 8) (s : State) : State :=
  if (s.bay b).enabled && !inFlightOf s b then engineTake (queueEntry (freshEntry b s.now) s) else s

/-- The level record that SET_BAY leaves: NONE, and FLOAT under the float rule (R7, R51). -/
def levelAfterSetBay (s : State) (b : Fin 8) : LevelRecord :=
  let r : LevelRecord := { LevelRecord.blank with disagreed := (s.level b).disagreed }
  if (s.bay b).enabled then floatRule s b r else r

/-- The effects of an accepted SET_BAY (R7; log entry 10). -/
def applyBay (b : Fin 8) (r : BayRec) (s : State) : State :=
  let before := (s.level b).quality
  let s1 := writeImage { s.image with bays := s.image.bays.put b r } s
  let s2 := setChannel b { health := .ok, bad := 0 } (s1.setLevel b (levelAfterSetBay s1 b))
  let s3 := s2.withSnd { s2.snd with last := s2.snd.last.put b none, queue := withoutBay b s2.snd.queue }
  joinFresh b (evaluateMode (handQualityChange b before (discardInFlight b s3)))

/-- SET_BAY (R3). -/
def handleSetBay (b : Body BayFields) (s : State) : Answer :=
  onFields b s fun f =>
    match index? 8 f.bay with
    | none => refuse .refusedRange s
    | some i =>
      let r := bayRecord f
      unlessRefused [(!bayFieldsValid f, .refusedRange), (deviceMissing s r, .refusedUnconfigured), (crossFails s i r, .refusedRange),
        (bayStateFails s i r, .refusedState)] s (answerOk .empty (applyBay i r s))

/-! ### SET_OUTFALL (R11) -/

/-- The weir points that are looked at (R212). -/
def outfallWeir (f : OutfallFields) : List WeirPoint := f.points.take f.count

/-- The fields of SET_OUTFALL satisfy R11. -/
def outfallFieldsValid (f : OutfallFields) : Bool :=
  inRange 0 200 f.onset && inRange 0 200 f.hysteresis && zeroOrIn 60 3600 f.tail && zeroOrIn 1 48 f.blockHours && inRange 2 8 f.count
    && (outfallWeir f).length == f.count && strictlyRising ((outfallWeir f).map fun p => p.head) && strictlyRising ((outfallWeir f).map fun p => p.flow)
    && (outfallWeir f).all fun p => inRange 1 5000 p.head && inRange 1 200000 p.flow

/-- The outfall record that SET_OUTFALL stores (R11). -/
def outfallRecord (f : OutfallFields) : OutfallRec :=
  { configured := true, onset := f.onset, hysteresis := f.hysteresis, tail := orDefault 300 f.tail
    blockHours := orDefault 12 f.blockHours, weir := outfallWeir f }

/-- SET_OUTFALL (R11). -/
def handleSetOutfall (b : Body OutfallFields) (s : State) : Answer :=
  onFields b s fun f =>
    match index? 4 f.outfall with
    | none => refuse .refusedRange s
    | some k => unlessRefused [(!outfallFieldsValid f, .refusedRange), ((s.outfall k).configured && notQuiet s k, .refusedState)] s
        (answerOk .empty (writeImage { s.image with outfalls := s.image.outfalls.put k (outfallRecord f) } s))

/-! ### SET_GAUGE (R58, R59) -/

/-- The fields of SET_GAUGE lie in their ranges (R58). -/
def gaugeFieldsValid (f : GaugeFields) : Bool :=
  inRange 0 1 f.enabled && zeroOrIn 100 1000 f.tipDepth && zeroOrIn 20 500 f.dead && zeroOrIn 2 60 f.stuck

/-- The gauge record that SET_GAUGE stores (R58). -/
def gaugeRecord (f : GaugeFields) : GaugeRec :=
  { enabled := f.enabled == 1, tipDepth := orDefault 200 f.tipDepth, dead := orDefault 80 f.dead, stuck := orDefault 10 f.stuck }

/-- An armed rule names a gauge (R58). -/
def namedByRule (s : State) (g : Fin 4) : Bool :=
  allRules.any fun r => (s.image.rules.at_ r).level != .none && (s.image.rules.at_ r).gauges.contains g

/-- The input of a gauge's terminal is active. -/
def gaugeInputActive (s : State) (g : Fin 4) : Bool :=
  match terminalOf s (.gauge g) with
  | some t => inputActive s t
  | none => false

/-- The volatile state of a gauge that is enabled at a second (R59, R77). -/
def GaugeVol.enabledAt (second : Nat) : GaugeVol :=
  { GaugeVol.blank with history := List.replicate Config.buckets 0, minuteStart := second }

/-- The effect of a SET_GAUGE on the volatile state (R59). -/
def gaugeEnableChanged (g : Fin 4) (was is : Bool) (s : State) : State :=
  match was, is with
  | false, true =>
    let s1 := s.setGauge g (GaugeVol.enabledAt s.now)
    if gaugeInputActive s1 g then startStuckDeadline g s1 else s1
  | true, false => s.setGauge g GaugeVol.blank
  | true, true | false, false => s

/-- SET_GAUGE (R58, R59). -/
def handleSetGauge (b : Body GaugeFields) (s : State) : Answer :=
  onFields b s fun f =>
    match index? 4 f.gauge with
    | none => refuse .refusedRange s
    | some g => unlessRefused [(!gaugeFieldsValid f, .refusedRange), (f.enabled == 0 && namedByRule s g, .refusedState)] s
        (answerOk .empty (gaugeEnableChanged g (s.image.gauges.at_ g).enabled (gaugeRecord f).enabled
          (writeImage { s.image with gauges := s.image.gauges.put g (gaugeRecord f) } s)))

/-! ### SET_RULE (R65, R66) -/

/-- The gauges that are looked at (R212). -/
def ruleNamed (f : RuleFields) : List Nat := f.gauges.take f.count

/-- The fields of an armed record satisfy R65. -/
def ruleFieldsValid (f : RuleFields) : Bool :=
  inRange 1 4 f.count && (ruleNamed f).length == f.count && (ruleNamed f).all (fun g => decide (g < 4)) && decide (ruleNamed f).Nodup
    && inRange 0 1 f.combine && inRange 1 60 f.window && inRange 1 15300000 f.raise && inRange 1 f.raise f.clear && inRange 0 240 f.hold

/-- The rule record that an armed SET_RULE stores (R65). -/
def ruleRecord (f : RuleFields) (l : Alert) : RuleRec :=
  { level := l, gauges := (ruleNamed f).filterMap (index? 4), combine := if f.combine = 1 then .mean else .max, window := f.window
    raise := f.raise, clear := f.clear, hold := f.hold }

/-- The effect of an accepted SET_RULE (R66). -/
def applyRule (r : Fin 8) (v : RuleRec) (s : State) : State :=
  enterRule r { state := if v.level = .none then .disarmed else .clear, holdUntil := none }
    (writeImage { s.image with rules := s.image.rules.put r v } s)

/-- A gauge of a record is not enabled (R65). -/
def gaugeMissing (s : State) (v : RuleRec) : Bool := v.gauges.any fun g => !(s.image.gauges.at_ g).enabled

/-- SET_RULE (R65, R66). -/
def handleSetRule (b : Body RuleFields) (s : State) : Answer :=
  onFields b s fun f =>
    match index? 8 f.rule, Alert.ofCode? f.level with
    | some r, some .none => answerOk .empty (applyRule r RuleRec.disarmed s)
    | some r, some l => unlessRefused [(!ruleFieldsValid f, .refusedRange), (gaugeMissing s (ruleRecord f l), .refusedUnconfigured)] s
        (answerOk .empty (applyRule r (ruleRecord f l) s))
    | _, _ => refuse .refusedRange s

/-! ### SET_DEVICE (R154, R155) -/

/-- The kind that a code names (R212). -/
def DeviceKind.ofCode? : Nat → Option DeviceKind
  | 1 => some .gate
  | 2 => some .pump
  | _ => none

/-- The completion that a code names (R212). -/
def Completion.ofCode? : Nat → Option Completion
  | 0 => some .watched
  | 1 => some .ackOnly
  | _ => none

/-- A bus address is held by another configured device (R154). -/
def addressHeld (s : State) (d : Fin 16) (a : Nat) : Bool :=
  allDevices.any fun x => x != d && (match s.image.devices.at_ x with
    | some r => r.address == a
    | none => false)

/-- The record that SET_DEVICE asks for, with configured 1; `none` where a field lies outside its range (R154). -/
def deviceRecord? (f : DeviceFields) : Option DeviceRec :=
  match DeviceKind.ofCode? f.kind, Completion.ofCode? f.completion with
  | some k, some c =>
    if inRange 1 31 f.address && zeroOrIn 5 600 f.limit then
      some { address := f.address, kind := k, completion := c, limit := orDefault 120 f.limit }
    else none
  | _, _ => none

/-- The device has an entry in the waiting queue, or it is the device of the current transaction (R154). -/
def deviceOnLine (s : State) (d : Fin 16) : Bool :=
  s.act.queue.any (fun e => e.device == d) || (match s.act.current with
    | some t => t.device == d
    | none => false)

/-- The device is the drain device of a bay that has a drain order (R154). -/
def deviceHasOrder (s : State) (d : Fin 16) : Bool := allBays.any fun b => (s.bay b).device == some d && (s.order b).isSome

/-- SET_DEVICE finds the device in a state that forbids it (R154). -/
def deviceStateFails (s : State) (d : Fin 16) (configured : Nat) : Bool :=
  deviceOnLine s d || deviceHasOrder s d || (configured == 0 && (bayOfDevice s d).isSome)

/-- The effects of an accepted SET_DEVICE (R155): the volatile state as at a start, and the sweep's RESET where configured. The outcome of a
watch that it ends is told and not recorded (log entry 60). -/
def applyDevice (d : Fin 16) (r : Option DeviceRec) (s : State) : State :=
  let s1 := ((writeImage { s.image with devices := s.image.devices.put d r } s).setDevice d DeviceVol.start).setLast d none
  let s2 := handChange d (s.device d).state .unknown (tellEnd (watchEnd s d .superseded) s1)
  if r.isSome then putDrive d .reset .sweep s2 else s2

/-- SET_DEVICE (R154, R155). -/
def handleSetDevice (b : Body DeviceFields) (s : State) : Answer :=
  onFields b s fun f =>
    match index? 16 f.device with
    | none => refuse .refusedRange s
    | some d =>
      if f.configured = 0 then
        unlessRefused [(deviceStateFails s d 0, .refusedState)] s (answerOk .empty (applyDevice d none s))
      else match deviceRecord? f with
        | none => refuse .refusedRange s
        | some r => unlessRefused [(f.configured != 1, .refusedRange), (addressHeld s d f.address, .refusedRange),
            (deviceStateFails s d 1, .refusedState)] s (answerOk .empty (applyDevice d (some r) s))

/-! ### SET_TERMINAL (R177, R178) -/

/-- The function that SET_TERMINAL names with its parameter; `none` where out of range (R177, R212). -/
def functionOf? (code parameter : Nat) : Option TerminalFunction :=
  match code with
  | 0 => some .unused
  | 1 => (index? 8 parameter).map .float
  | 2 => (index? 4 parameter).map .gauge
  | 3 => some .worksStop
  | 4 => (index? 4 parameter).map .alarm
  | _ => none

/-- The polarity that a code names (R212). -/
def Polarity.ofCode? : Nat → Option Polarity
  | 0 => some .activeHigh
  | 1 => some .activeLow
  | _ => none

/-- Another terminal already holds a function (R177). -/
def functionHeld (s : State) (t : Fin 12) (f : TerminalFunction) : Bool :=
  f != .unused && allTerminals.any fun x => x != t && (s.image.terminals.at_ x).function == f

/-- A terminal record is written. -/
def setTerminalRec (t : Fin 12) (r : TerminalRec) (s : State) : State :=
  s.withImage { s.image with terminals := s.image.terminals.put t r }

/-- The old function departs from a terminal (R178). -/
def departFunction (t : Fin 12) (s : State) : State :=
  let f := (s.image.terminals.at_ t).function
  let s1 := setTerminalRec t { s.image.terminals.at_ t with function := .unused } s
  match f with
  | .unused | .alarm _ => s1
  | .float b => if s.lvl.floats.at_ b = .active then floatReleased b .absent s1 else s1.setFloat b .absent
  | .gauge g => gaugeInactiveEdge g s1
  | .worksStop => if s.term.worksStop then worksStopReleased s1 else s1

/-- A terminal that is an input takes its raw level as its debounced level (R178). -/
def takeRawLevel (t : Fin 12) (s : State) : State :=
  let bit := (1#12) <<< t.val
  s.withTerm { s.term with
    debounced := if s.term.pins.getLsbD t.val then s.term.debounced ||| bit else s.term.debounced &&& (~~~ bit) }

/-- The new function arrives at a terminal (R178). Works-stop becomes asserted where the input is active under the new polarity, and only there
(log entry 63). -/
def arriveFunction (t : Fin 12) (r : TerminalRec) (s : State) : State :=
  let s1 := setTerminalRec t r s
  match r.function with
  | .alarm _ => s1
  | .unused => takeRawLevel t s1
  | .float b =>
    let s2 := takeRawLevel t s1
    if inputActive s2 t then floatActivated b s2 else s2.setFloat b .released
  | .gauge g =>
    let s2 := takeRawLevel t s1
    if inputActive s2 t then startStuckDeadline g s2 else s2
  | .worksStop =>
    let s2 := takeRawLevel t s1
    if inputActive s2 t then worksStopAsserted s2 else s2

/-- SET_TERMINAL (R177, R178). -/
def handleSetTerminal (b : Body TerminalFields) (s : State) : Answer :=
  onFields b s fun f =>
    match index? 12 f.terminal, functionOf? f.function f.parameter, Polarity.ofCode? f.polarity with
    | some t, some fn, some p =>
      unlessRefused [(functionHeld s t fn, .refusedRange)] s
        (answerOk .empty (arriveFunction t { function := fn, polarity := p } (departFunction t (writeImage s.image s))))
    | _, _, _ => refuse .refusedRange s

/-! ### SET_ALARM_LINE (R181) -/

/-- The condition that a code names (R212). -/
def AlarmCondition.ofCode? : Nat → Option AlarmCondition
  | 0 => some .off
  | 1 => some .spill
  | 2 => some .high
  | 3 => some .fault
  | 4 => some .alert
  | _ => none

/-- The grouping that a code names (R212). -/
def Grouping.ofCode? : Nat → Option Grouping
  | 0 => some .block
  | 1 => some .stride
  | 2 => some .site
  | _ => none

/-- SET_ALARM_LINE (R181); the line is evaluated with all others as the command ends (log entry 8). -/
def handleSetAlarmLine (b : Body AlarmFields) (s : State) : Answer :=
  onFields b s fun f =>
    match index? 4 f.line, AlarmCondition.ofCode? f.condition, Grouping.ofCode? f.grouping with
    | some l, some c, some g =>
      unlessRefused [(c == .alert && !inRange 1 3 f.level, .refusedRange)] s
        (answerOk .empty (writeImage { s.image with
          alarms := s.image.alarms.put l { condition := c, level := f.level, grouping := g, mask := f.mask } } s))
    | _, _, _ => refuse .refusedRange s

end Sys2Proof.Machine
end

