-- ==== Sys2Proof/Machine/HostReports.lean ====
section
/-! DEFINITION. The host's reading requests: every GET request, READ_RAIN_MINUTES, READ_SPILLS. They change nothing. -/

namespace Sys2Proof.Machine

/-- A request that only reports, with an empty body (R198). -/
def reportEmpty (b : Body Unit) (s : State) (body : ReplyBody) : Answer := onFields b s fun _ => answerOk body s

/-- The bay that a request names: refused out of range or not enabled, otherwise carried on (R37, R56, R141). -/
def onBay (n : Nat) (s : State) (f : Fin 8 → Answer) : Answer :=
  match index? 8 n with
  | none => refuse .refusedRange s
  | some b => if (s.bay b).enabled then f b else refuse .refusedUnconfigured s

/-- The configured outfall that a request names (R92, R97). -/
def onOutfall (n : Nat) (s : State) (f : Fin 4 → Answer) : Answer :=
  match index? 4 n with
  | none => refuse .refusedRange s
  | some k => if (s.outfall k).configured then f k else refuse .refusedUnconfigured s

/-! ### GET_STATUS, GET_CLOCK (R189, R202) -/

/-- GET_STATUS (R202). -/
def handleGetStatus (b : Body Unit) (s : State) : Answer := reportEmpty b s .empty

/-- The GET_CLOCK report (R189). -/
def clockReport (s : State) : ClockReport :=
  { now := stampOf s s.now, seconds := s.now, clockSet := s.ret.clockSet, offset := if s.ret.clockSet then some s.ret.offset else none
    powerLoss := s.ret.powerLoss, cause := s.clock.cause, startSecond := s.clock.startSecond, cold := s.ret.cold }

/-- GET_CLOCK (R189). -/
def handleGetClock (b : Body Unit) (s : State) : Answer := reportEmpty b s (.clock (clockReport s))

/-! ### GET_SOUNDING (R42) -/

/-- Milliseconds from now until a not-before time (R42, R174), without a fraction (log entry 32); 0 where the time has passed (log entry 56). -/
def millisTo (s : State) (t : Nat) : Nat := (t - s.clock.fast) / 1000

/-- A queue entry as reported (R42). -/
def entryReport (s : State) (e : SoundingEntry) : EntryReport :=
  { bay := e.bay, urgent := e.urgent.isSome, attempt := e.attempt, secondsToDue := e.due - s.now
    millisToNotBefore := e.notBefore.map (millisTo s) }

/-- The GET_SOUNDING report (R42). -/
def soundingReport (s : State) : SoundingReport :=
  { engine := match s.snd.engine with
      | some f => f.phase
      | none => .idle
    inFlight := s.snd.engine.map fun f => { bay := f.bay, attempt := f.attempt, urgent := f.urgent.isSome, joined := f.joined, discard := f.discard }
    supplyOn := s.snd.supplyOn, supplyReady := s.snd.supplyReady, expiries := s.snd.expiries
    queue := s.snd.queue.map (entryReport s), channels := s.snd.channels.toList }

/-- GET_SOUNDING (R42). -/
def handleGetSounding (b : Body Unit) (s : State) : Answer := reportEmpty b s (.sounding (soundingReport s))

/-! ### GET_BAY (R56, R143) -/

/-- The lot of a RUNNING order as reported (R143; log entry 56). -/
def lotReport (s : State) (l : Lot) : LotReport :=
  { drained := l.drained, startVolume := l.startVolume, secondsToDeadline := l.deadline - s.now }

/-- The drain-order summary (R143). -/
def orderSummary (s : State) (b : Fin 8) (o : Order) : OrderSummary :=
  { state := o.state, source := o.source, lots := o.lots, target := o.target, done := o.done, total := o.total, holds := o.holds
    closing := o.closing, failure := o.failure, reshut := o.reshut, running := o.lot.map (lotReport s)
    eligible := (firstUnmet s b o).isNone, unmet := if o.state = .queued then firstUnmet s b o else none }

/-- The GET_BAY report (R56). -/
def bayReport (s : State) (b : Fin 8) : BayReport :=
  { record := s.level b, reading := s.snd.last.at_ b, channel := s.snd.channels.at_ b, float := s.lvl.floats.at_ b
    floatHeight := (s.bay b).floatHeight, volume := volumeOf s b, order := (s.order b).map (orderSummary s b) }

/-- GET_BAY (R56). -/
def handleGetBay (b : Body Nat) (s : State) : Answer :=
  onFields b s fun n => onBay n s fun i => answerOk (.bay (bayReport s i)) s

/-! ### GET_RAIN, READ_RAIN_MINUTES (R75, R76) -/

/-- A gauge as reported (R75). The bucket of a disabled gauge, whose history is empty, is reported as 0 (log entry 46). -/
def gaugeReport (s : State) (g : Fin 4) : GaugeReport :=
  let r := s.image.gauges.at_ g
  let v := s.rain.gauges.at_ g
  { state := gaugeState s g, terminal := terminalOf s (.gauge g), tipDepth := r.tipDepth, dead := r.dead, stuck := r.stuck
    bucket := v.history.headD 0, total := v.total }

/-- An armed rule as reported (R75). -/
def armedReport (s : State) (i : Fin 8) : ArmedReport :=
  let r := s.image.rules.at_ i
  { blind := (combinedDepth s r).isNone
    depths := r.gauges.map fun g => (g, if usable s g then some (windowDepth s r.window g) else none)
    combined := combinedDepth s r
    holdRemaining := (s.rain.rules.at_ i).holdUntil.map fun t => t - s.now }

/-- A rule as reported (R75). -/
def ruleReport (s : State) (i : Fin 8) : RuleReport :=
  { state := (s.rain.rules.at_ i).state
    armed := if (s.rain.rules.at_ i).state = .disarmed then none else some (armedReport s i) }

/-- A forecast slot as reported (R75). The start of an ACTIVE slot has passed: 0 seconds (log entry 45). An EMPTY slot is its state alone (log
entry 65). -/
def slotReport (s : State) : ForecastSlot → SlotReport
  | .empty => .empty
  | .pending l a e => .pending l (a - s.now) (e - s.now)
  | .active l a e => .active l (a - s.now) (e - s.now)

/-- The GET_RAIN report (R75). While it has never rained the seconds since the last rain are absent (log entry 26). -/
def rainReport (s : State) : RainReport :=
  { gauges := allGauges.map (gaugeReport s), rules := allRules.map (ruleReport s)
    slots := allSlots.map fun i => slotReport s (s.rain.slots.at_ i)
    alert := s.rain.alert, lastRain := s.ret.lastRain, sinceRain := s.ret.lastRain.map fun t => s.now - t
    dryLookback := s.image.dryLookback, attributed := rainAttributed s }

/-- GET_RAIN (R75). -/
def handleGetRain (b : Body Unit) (s : State) : Answer := reportEmpty b s (.rain (rainReport s))

/-- READ_RAIN_MINUTES (R76): the 60 buckets from the oldest to the current minute. -/
def handleReadRainMinutes (b : Body Nat) (s : State) : Answer :=
  onFields b s fun n =>
    match index? 4 n with
    | none => refuse .refusedRange s
    | some g =>
      let v := s.rain.gauges.at_ g
      if (s.image.gauges.at_ g).enabled then
        answerOk (.rainMinutes v.history.reverse (s.image.gauges.at_ g).tipDepth v.minuteStart) s
      else refuse .refusedUnconfigured s

/-! ### GET_OUTFALL, READ_SPILLS (R97, R109, R112) -/

/-- The head of an outfall now: absent unless the reference bay's quality is GOOD or HELD (R97). -/
def presentHead (s : State) (k : Fin 4) : Option Int :=
  match refBay s k with
  | some b =>
    if (s.level b).quality = .good ∨ (s.level b).quality = .held then
      (s.level b).value.map fun v => (v : Int) - ((s.bay b).crest : Int)
    else none
  | none => none

/-- The tail of a TAILING outfall as reported (R97; log entry 56). -/
def tailReport (s : State) : SpillState → Option TailReport
  | .tailing t d => some { tentative := t, secondsToDeadline := d - s.now }
  | .quiet | .spilling | .blind => none

/-- The open spill as reported (R97). -/
def openReport (s : State) (k : Fin 4) : Option OpenReport :=
  if notQuiet s k then
    match openSpillOf s k with
    | some o => some
        { id := openId s k, cls := o.cls, start := o.start, startStamp := stampOf s o.start, duration := s.now - o.start
          peak := o.peak, volume := o.volume, blocks := o.blocks, gap := o.gap, tail := tailReport s (s.spillState k) }
    | none => none
  else none

/-- The aggregate slot as reported (R112). -/
def aggregateReport (s : State) (k : Fin 4) : AggregateReport :=
  match s.ret.slots.at_ k with
  | none => .empty
  | some r =>
    if r.isOpen then .opened (r.reported s.now)
    else .closed r (if s.ret.nextId.isNone then .exhausted else .room)

/-- A period set as reported (R97). -/
def periodReport (s : State) (p : PeriodSet) : PeriodReport := { counters := p, startStamp := stampOf s p.start }

/-- The GET_OUTFALL report (R97). -/
def outfallReport (s : State) (k : Fin 4) : OutfallReport :=
  let c := s.ret.counts.at_ k
  { reference := refBay s k, inService := inService s k, state := s.spillState k, head := presentHead s k, openSpill := openReport s k
    blockEnd := c.blockEnd, blockRemaining := c.blockEnd - s.now, current := periodReport s c.current
    previous := periodReport s c.previous, aggregate := aggregateReport s k }

/-- GET_OUTFALL (R97). -/
def handleGetOutfall (b : Body Nat) (s : State) : Answer :=
  onFields b s fun n => onOutfall n s fun k => answerOk (.outfall (outfallReport s k)) s

/-- The records that READ_SPILLS returns (R109). -/
def spillsFrom (s : State) (fromId count : Nat) : List LogEntry :=
  ((s.ret.log.filter fun e => decide (fromId ≤ e.id)).take count).map fun e => { e with record := e.record.reported s.now }

/-- The READ_SPILLS report (R109). -/
def spillsReport (s : State) (fromId count : Nat) : SpillsReport :=
  { held := s.ret.log.length, oldest := s.ret.log.head?.map fun e => e.id, newest := s.ret.log.getLast?.map fun e => e.id
    next := s.ret.nextId, records := spillsFrom s fromId count }

/-- READ_SPILLS (R109). -/
def handleReadSpills (b : Body ReadSpillsFields) (s : State) : Answer :=
  onFields b s fun f => unlessRefused [(!inRange 1 7 f.count, .refusedRange)] s (answerOk (.spills (spillsReport s f.fromId f.count)) s)

/-! ### GET_CREDITS (R143) -/

/-- An order as GET_CREDITS reports it (R143). -/
def creditOrder (s : State) (b : Fin 8) : Option CreditOrderReport :=
  (s.order b).map fun o => { bay := b, rank := (s.bay b).rank, state := o.state, source := o.source, done := o.done, holds := o.holds }

/-- The GET_CREDITS report (R143; log entry 56). -/
def creditsReport (s : State) : CreditsReport :=
  { grants := s.drn.grants.map fun g => { count := g.count, secondsToExpiry := g.expiry - s.now }
    pool := pool s, counters := s.drn.counters, slots := s.image.drain.slots, holders := slotHolders s, armed := s.drn.armed
    orders := allBays.filterMap (creditOrder s), worksStop := s.term.worksStop }

/-- GET_CREDITS (R143). -/
def handleGetCredits (b : Body Unit) (s : State) : Answer := reportEmpty b s (.credits (creditsReport s))

/-! ### GET_PLANNER (R152) -/

/-- A bay as GET_PLANNER reports it (R152). -/
def plannerBayReport (s : State) (b : Fin 8) : PlannerBayReport :=
  { inhibit := s.inhibit.at_ b, order := (s.order b).map fun o => (o.source, o.state)
    candidate := (candidateUnmet s b).isNone, unmet := candidateUnmet s b }

/-- The GET_PLANNER report (R152). -/
def plannerReport (s : State) : PlannerReport :=
  { margin := s.image.margin, target := plannerTarget s, bays := allBays.map (plannerBayReport s) }

/-- GET_PLANNER (R152). -/
def handleGetPlanner (b : Body Unit) (s : State) : Answer := reportEmpty b s (.planner (plannerReport s))

/-! ### GET_DEVICE (R174) -/

/-- A waiting entry as reported (R174). -/
def lineEntryReport (s : State) (e : LineEntry) : LineEntryReport :=
  { command := e.command, orig := e.orig, millisToNotBefore := e.notBefore.map (millisTo s) }

/-- The current transaction where it is a device's, with its attempt number (R174): the command is that of its entry, and the attempts are those
of the present exchange (log entry 61). -/
def currentOf (s : State) (d : Fin 16) : Option (LineCommand × Nat) :=
  match s.act.current with
  | some t => if t.device = d then some (t.command, t.resends + 1) else none
  | none => none

/-- The GET_DEVICE report (R174). A device that is not configured has the start values of R175 (log entry 58); a time that has passed is
reported as 0 (log entry 56). -/
def deviceReport (s : State) (d : Fin 16) : DeviceReport :=
  let v := s.device d
  { record := s.image.devices.at_ d, bay := bayOfDevice s d, state := v.state, toggle := v.toggle, inStep := v.inStep, naks := v.naks
    watch := v.watch.map fun w => (w.target, w.orig), secondsToDeadline := v.deadline.map fun x => x.due - s.now
    secondsToPoll := v.nextPoll.map fun t => t - s.now, drive := (waitingDrive s d).map (lineEntryReport s)
    query := (waitingQuery s d).map (lineEntryReport s), current := currentOf s d, last := s.last d, queued := s.act.queue.length
    lineIdle := s.act.current.isNone }

/-- GET_DEVICE (R174). -/
def handleGetDevice (b : Body Nat) (s : State) : Answer :=
  onFields b s fun n =>
    match index? 16 n with
    | none => refuse .refusedRange s
    | some d => answerOk (.device (deviceReport s d)) s

/-! ### GET_TERMINALS (R184) -/

/-- A terminal as reported (R184). -/
def terminalReport (s : State) (t : Fin 12) : TerminalReport :=
  let r := s.image.terminals.at_ t
  match r.function with
  | .alarm l => .output r (drivenHigh s t l)
  | .unused | .float _ | .gauge _ | .worksStop => .input r (s.term.debounced.getLsbD t.val) (inputActive s t)

/-- An alarm line as reported (R184). -/
def lineReport (s : State) (l : Fin 4) : LineReport :=
  { record := s.image.alarms.at_ l, covered := covered s l, active := s.term.lineActive.at_ l, meeting := meeting s l
    terminal := terminalOf s (.alarm l) }

/-- The GET_TERMINALS report (R184). -/
def terminalsReport (s : State) : TerminalsReport :=
  { terminals := allTerminals.map (terminalReport s), worksStop := s.term.worksStop, worksStopTerminal := terminalOf s .worksStop
    lines := allLines.map (lineReport s) }

/-- GET_TERMINALS (R184). -/
def handleGetTerminals (b : Body Unit) (s : State) : Answer := reportEmpty b s (.terminals (terminalsReport s))

end Sys2Proof.Machine
end

