-- ==== Sys2Proof/Machine/HostOrders.lean ====
section
/-! DEFINITION. The host's acting requests that are not configuration: notices, clock, RESTART, mode, SOUND, forecast, spills, credits, drains, planner, devices. -/

namespace Sys2Proof.Machine

/-! ### Notices, clock, RESTART (R188, R193, R205) -/

/-- FETCH_NOTICES (R205): the notices removed are the oldest. -/
def handleFetchNotices (b : Body Nat) (s : State) : Answer :=
  onFields b s fun n => unlessRefused [(!inRange 1 12 n, .refusedRange)] s
    (answerOk (.notices (s.port.notices.drop n).length (s.port.notices.take n))
      (s.withPort { s.port with notices := s.port.notices.drop n }))

/-- The clock offset is set (R188); the first setting rewrites the records (R111). -/
def setOffset (time : Nat) (s : State) : State :=
  let s1 := s.withRet { s.ret with offset := time - s.now, clockSet := true }
  if s.ret.clockSet then s1 else rewriteRecords s1

/-- SET_CLOCK (R188). -/
def handleSetClock (b : Body Nat) (s : State) : Answer :=
  onFields b s fun t => unlessRefused [(t == 0 || decide (t < s.now), .refusedRange)] s
    (answerOk (.clockSet (stampOf s s.now) (!s.ret.clockSet)) (setOffset t s))

/-- RESTART (R193): the start follows the reply. -/
def handleRestart (b : Body Unit) (s : State) : Answer := onFields b s fun _ => answerAccepted .empty s

/-! ### SET_MODE (R17) -/

/-- SET_MODE with the value MAINTENANCE (R17). -/
def handleMaintenance (s : State) : Answer :=
  answerOk .empty (if s.mode = .maintenance then s else enterMaintenance s)

/-- SET_MODE with the value AUTOMATIC: the mode becomes DRY and is evaluated from there (R17, R18). -/
def handleAutomatic (s : State) : Answer :=
  answerOk .empty (if s.mode = .maintenance then changeMode (settledFrom s .dry) .host s else s)

/-- SET_MODE (R17). -/
def handleSetMode (b : Body Nat) (s : State) : Answer :=
  onFields b s fun n =>
    if n = 0 then handleAutomatic s else if n = 1 then handleMaintenance s else refuse .refusedRange s

/-! ### SOUND (R37) -/

/-- The waiting entry of a bay is marked urgent and takes the last place in the urgent order (R37). -/
def markUrgent (e : SoundingEntry) (s : State) : State :=
  let s1 := queueEntry { e with urgent := some s.snd.urgentNext } s
  engineTake (s1.withSnd { s1.snd with urgentNext := s.snd.urgentNext + 1 })

/-- The outcome of a SOUND on an enabled bay (R37). -/
def soundBay (b : Fin 8) (s : State) : Answer :=
  match s.snd.engine, waitingEntry s b with
  | some f, w =>
    if f.bay = b then answerAccepted (.sound .joined) (setEngine { f with joined := true } s) else soundWaiting w s
  | none, w => soundWaiting w s
where
  /-- SOUND on a bay whose entry waits. -/
  soundWaiting (w : Option SoundingEntry) (s : State) : Answer :=
    match w with
    | some e => if e.urgent.isSome then answerAccepted (.sound .alreadyUrgent) s else answerAccepted (.sound .marked) (markUrgent e s)
    | none => answerAccepted (.sound .alreadyUrgent) s

/-- SOUND (R37). -/
def handleSound (b : Body Nat) (s : State) : Answer := onFields b s fun n => onBay n s fun i => soundBay i s

/-! ### FORECAST (R70) -/

/-- A forecast slot takes new contents (R70). -/
def applyForecast (i : Fin 4) (f : ForecastSlot) (s : State) : State :=
  recomputeAlert .slot i.val (s.withRain { s.rain with slots := s.rain.slots.put i f })

/-- The contents that FORECAST gives a slot (R70). -/
def forecastContents (now : Nat) (l : Alert) (delay duration : Nat) : ForecastSlot :=
  let start := now + delay * 60
  if delay = 0 then .active l start (start + duration * 60) else .pending l start (start + duration * 60)

/-- FORECAST (R70). -/
def handleForecast (b : Body ForecastFields) (s : State) : Answer :=
  onFields b s fun f =>
    match index? 4 f.slot, Alert.ofCode? f.level with
    | some i, some .none => answerOk .empty (applyForecast i .empty s)
    | some i, some l => unlessRefused [(!(inRange 0 1440 f.delay && inRange 1 2880 f.duration), .refusedRange)] s
        (answerOk .empty (applyForecast i (forecastContents s.now l f.delay f.duration) s))
    | _, _ => refuse .refusedRange s

/-! ### CLOSE_PERIOD, RELEASE_SPILLS (R92, R110) -/

/-- CLOSE_PERIOD (R92). -/
def handleClosePeriod (b : Body Nat) (s : State) : Answer :=
  onFields b s fun n => onOutfall n s fun k =>
    let c := s.ret.counts.at_ k
    answerOk (.periodClosed c.current s.now)
      (s.setCounts k { c with previous := c.current, current := PeriodSet.begin_ s.now })

/-- The RELEASE_SPILLS reply (R110). -/
def releaseReport (removed transferred : Nat) (s : State) : ReleaseReport :=
  { removed := removed, transferred := transferred, oldest := s.ret.log.head?.map fun e => e.id
    oldestOpen := (s.ret.log.find? fun e => e.record.isOpen).map fun e => e.id }

/-- RELEASE_SPILLS (R110): records leave the oldest end, and the transfer test is made. -/
def handleReleaseSpills (b : Body Nat) (s : State) : Answer :=
  onFields b s fun upTo =>
    let kept := s.ret.log.dropWhile (releasable upTo)
    let r := transferTest (s.withRet { s.ret with log := kept })
    answerOk (.released (releaseReport (s.ret.log.length - kept.length) r.2 r.1)) r.1

/-! ### GRANT, WITHDRAW (R116, R119) -/

/-- The effects of an accepted GRANT, in their order (R116, R127). -/
def applyGrant (count lifetime : Nat) (s : State) : State :=
  slotGrant (s.withDrn { s.drn with
    grants := insertGrant { count := count, expiry := s.now + lifetime * 60 } s.drn.grants
    counters := { s.drn.counters with granted := addHeld Config.max32 s.drn.counters.granted count }
    armed := s.drn.armed || decide (pool s = 0) })

/-- GRANT (R116); out of range comes before a full list (log entry 59). -/
def handleGrant (b : Body GrantFields) (s : State) : Answer :=
  onFields b s fun f => unlessRefused
    [(!(inRange 1 255 f.count && inRange 1 1440 f.lifetime), .refusedRange),
      (decide (Config.grantCap ≤ s.drn.grants.length), .refusedFull)] s
    (answerOk .empty (applyGrant f.count f.lifetime s))

/-- The credits removed by a withdrawal and the list it leaves (R119). -/
def withdrawn (count : Nat) (s : State) : Nat × List Grant :=
  let r := removeCredits count s.drn.grants.reverse
  (r.1, r.2.reverse)

/-- The effects of an accepted WITHDRAW (R119). -/
def applyWithdraw (count : Nat) (s : State) : State :=
  s.withDrn { s.drn with
    grants := (withdrawn count s).2
    counters := { s.drn.counters with withdrawn := addHeld Config.max32 s.drn.counters.withdrawn (withdrawn count s).1 } }

/-- The value that stands for ALL (R212). -/
def withdrawAll : Nat := 65535

/-- WITHDRAW (R119). -/
def handleWithdraw (b : Body Nat) (s : State) : Answer :=
  onFields b s fun n => unlessRefused [(!(inRange 1 2040 n || n == withdrawAll), .refusedRange)] s
    (let count := if n = withdrawAll then pool s else n
     answerOk (.withdrawn (withdrawn count s).1 (pool (applyWithdraw count s))) (applyWithdraw count s))

/-! ### DRAIN, STOP_DRAIN, RESHUT (R124, R141, R142) -/

/-- The target that DRAIN asks for (R124). -/
def drainTarget (s : State) (b : Fin 8) (target : Nat) : Nat := if target = 0 then (s.bay b).empty else target

/-- DRAIN on a bay without an order: an order is created, which the site model and the planner take (R124). -/
def createOrder (b : Fin 8) (lots target : Nat) (s : State) : State :=
  sitePlanner (s.setOrder b (some (newOrder s b .host lots target)))

/-- DRAIN on a bay with an order that it may update (R124). -/
def updateOrder (b : Fin 8) (o : Order) (lots target : Nat) (s : State) : State :=
  s.setOrder b (some { o with lots := lots, target := target, source := .host })

/-- After a creation or an update, a queued order is tested and slot grant runs (R124). -/
def afterOrderChange (b : Fin 8) (s : State) : State := slotGrant (testQueued b s)

/-- The reply body of DRAIN, given the state before the test: the mark that the order has been retired, or the order's state after
slot grant (R124). The mark stands also where the planner has made a new order for the bay since. -/
def drainBody (b : Fin 8) (s : State) : ReplyBody :=
  .drain (if testRetires s b then none else ((afterOrderChange b s).order b).map fun o => o.state)

/-- DRAIN on a bay that may have it (R124). -/
def drainBay (b : Fin 8) (lots target : Nat) (s : State) : Answer :=
  match s.order b with
  | none =>
    let s1 := createOrder b lots target s
    answerAccepted (drainBody b s1) (afterOrderChange b s1)
  | some o =>
    match o.state with
    | .queued | .held | .opening | .running =>
      let s1 := updateOrder b o lots target s
      answerOk (drainBody b s1) (afterOrderChange b s1)
    | .closing | .suspect => refuse .refusedState s

/-- The target of a DRAIN lies outside the thresholds of its bay; tested for an enabled bay (R124, R8; log entry 20). -/
def targetOutside (s : State) (b : Fin 8) (target : Nat) : Bool :=
  (s.bay b).enabled && target != 0 && !inRange (s.bay b).empty (s.bay b).crest target

/-- DRAIN (R124); its refusals are tried in the order in which the rule lists them (log entry 59). -/
def handleDrain (b : Body DrainFields) (s : State) : Answer :=
  onFields b s fun f =>
    match index? 8 f.bay with
    | none => refuse .refusedRange s
    | some i => unlessRefused
        [(!inRange 0 255 f.lots, .refusedRange), (targetOutside s i f.target, .refusedRange),
          (!((s.bay i).enabled && (s.bay i).device.isSome), .refusedUnconfigured)] s
        (drainBay i f.lots (drainTarget s i f.target) s)

/-- The result of an accepted STOP_DRAIN by the order's state (R141). -/
def stopResult : OrderState → Result
  | .queued | .held => .ok
  | .opening | .running | .closing | .suspect => .accepted

/-- STOP_DRAIN (R141): the auto-inhibit flag is set before the order is cancelled, and the planner takes the setting after
it (R150; log entries 28, 59). -/
def handleStopDrain (b : Body Nat) (s : State) : Answer :=
  onFields b s fun n => onBay n s fun i =>
    match s.order i with
    | none => refuse .refusedState s
    | some o =>
      if o.state = .suspect then refuse .refusedState s
      else { state := plannerTake (cancel i .host (raiseInhibit i .stopDrain s)), result := stopResult o.state, body := .empty }

/-- RESHUT (R142; log entry 59). -/
def handleReshut (b : Body Nat) (s : State) : Answer :=
  onFields b s fun n => onBay n s fun i =>
    match s.order i with
    | none => refuse .refusedState s
    | some o =>
      if o.state = .suspect ∧ o.reshut = false then
        answerAccepted .empty (putForOrder i .reset (s.setOrder i (some { o with reshut := true })))
      else refuse .refusedState s

/-! ### INHIBIT_AUTO (R151) -/

/-- The reply of INHIBIT_AUTO, given the state before and the state after the evaluation (R151). -/
def inhibitAnswer (b : Fin 8) (before after : State) : Answer :=
  answerOk (.inhibit (after.inhibit.at_ b) ((before.order b).isNone && (after.order b).isSome)) after

/-- INHIBIT_AUTO on an enabled bay, ON or OFF (R151). -/
def inhibitBay (b : Fin 8) (on : Bool) (s : State) : Answer :=
  inhibitAnswer b s (if on then setInhibit b .host s else plannerTake (s.withInhibit (s.inhibit.put b none)))

/-- INHIBIT_AUTO (R151); out of range comes before a bay that is not enabled (log entry 59). -/
def handleInhibit (b : Body InhibitFields) (s : State) : Answer :=
  onFields b s fun f =>
    if f.value ≤ 1 then onBay f.bay s fun i => inhibitBay i (f.value == 1) s else refuse .refusedRange s

/-! ### CLEAR_DEVICE, POLL_DEVICE (R172, R173) -/

/-- The configured device that a request names (R172, R173). -/
def onDevice (n : Nat) (s : State) (f : Fin 16 → Answer) : Answer :=
  match index? 16 n with
  | none => refuse .refusedRange s
  | some d => if (s.image.devices.at_ d).isSome then f d else refuse .refusedUnconfigured s

/-- The device is the drain device of an enabled bay whose order is in OPENING, RUNNING or CLOSING (R172). -/
def deviceInUse (s : State) (d : Fin 16) : Bool :=
  match bayOfDevice s d with
  | some b => match s.order b with
    | some o => o.state == .opening || o.state == .running || o.state == .closing
    | none => false
  | none => false

/-- CLEAR_DEVICE (R172). -/
def handleClearDevice (b : Body Nat) (s : State) : Answer :=
  onFields b s fun n => onDevice n s fun d =>
    if deviceInUse s d then refuse .refusedState s
    else answerAccepted (.cleared (waitingDrive s d).isSome) (putDrive d .reset .host s)

/-- POLL_DEVICE (R173). -/
def handlePollDevice (b : Body Nat) (s : State) : Answer :=
  onFields b s fun n => onDevice n s fun d =>
    answerAccepted (.polled (waitingQuery s d).isNone) (putQuery d .host s)

end Sys2Proof.Machine
end

