-- ==== Sys2Proof/Machine/Starts.lean ====
section
/-! DEFINITION. Falls of power and starts (R186 to R194), with the start values of every block. -/

namespace Sys2Proof.Machine

/-! ### Start values (step 2 of R191) -/

/-- The debounced levels at a start: the raw level of every terminal whose function is not ALARM (R185). -/
def sampledLevels (s : State) : BitVec 12 :=
  allTerminals.foldl (fun v t => match (s.image.terminals.at_ t).function with
    | .alarm _ => v
    | .unused | .float _ | .gauge _ | .worksStop => v ||| (s.term.pins &&& ((1#12) <<< t.val))) 0

/-- The terminal block samples its inputs; works-stop follows, and every alarm line is inactive until its first evaluation (R180, R185). -/
def startTerminals (s : State) : State :=
  let s1 := s.withTerm { s.term with debounced := sampledLevels s, lineActive := Tab.all 4 false }
  s1.withTerm { s1.term with worksStop := match terminalOf s1 .worksStop with
    | some t => inputActive s1 t
    | none => false }

/-- The float state of a bay at a start (R50, R57). -/
def startFloat (s : State) (b : Fin 8) : FloatState :=
  match terminalOf s (.float b) with
  | some t => if inputActive s t then .active else .released
  | none => .absent

/-- The level keeper's start values: NONE, and FLOAT for an enabled bay whose float is found ACTIVE (R57). -/
def startLevels (s : State) : State :=
  let s1 := s.withLvl { records := Tab.all 8 LevelRecord.blank, floats := Vector.ofFn (startFloat s) }
  s1.withLvl { s1.lvl with records := Vector.ofFn fun b =>
    if (s1.bay b).enabled then floatRule s1 b LevelRecord.blank else LevelRecord.blank }

/-- The start value of a gauge (R77). -/
def startGauge (s : State) (g : Fin 4) : GaugeVol :=
  if (s.image.gauges.at_ g).enabled then
    { GaugeVol.enabledAt s.now with
      stuckDeadline := if gaugeInputActive s g then some (stuckDeadlineFrom s g) else none }
  else GaugeVol.blank

/-- The start value of a rule (R77). -/
def startRule (s : State) (r : Fin 8) : RuleVol :=
  { state := if (s.image.rules.at_ r).level = .none then .disarmed else .clear, holdUntil := none }

/-- The rain watch's start values (R77; log entry 31). -/
def startRain (s : State) : State :=
  s.withRain { gauges := Vector.ofFn (startGauge s), rules := Vector.ofFn (startRule s), slots := Tab.all 4 .empty, alert := .none
               nextRoll := (s.now / 60 + 1) * 60 }

/-- Every block takes its start values (R19, R43, R57, R77, R98, R144, R153, R175, R185, R207). -/
def startValues (s : State) : State :=
  let s1 := startRain (startLevels (startTerminals s))
  ((((((s1.withMode .dry).withSnd Sounding.start).withSpill (Tab.all 4 { state := .quiet, remainder := 0 })).withDrn Drain.start).withInhibit
    (Tab.all 8 none)).withAct Actuator.start).withPort Port.start

/-! ### The start sequence (R191) -/

/-- The cause of a start (R191 step 1). -/
def startCause (s : State) : StartCause :=
  if s.ret.checkGood = false then .cold else if s.run = .restarting then .restart else .warm

/-- Step 1: a cold start returns the retention domain to its defaults (R190); fast time begins again. -/
def startRetention (s : State) : State :=
  let c := startCause s
  let s1 := if c = .cold then (s.withImage Image.afterCold).withRet Retained.afterCold else s
  s1.withClock { fast := 0, cause := c, startSecond := s1.now }

/-- The outfalls of the open records of the log in id order, then those of the open aggregates in outfall order (R192). -/
def openOutfalls (s : State) : List (Fin 4) :=
  (s.ret.log.filter fun e => e.record.isOpen).map (fun e => e.record.outfall)
    ++ allOutfalls.filter fun k => match s.ret.slots.at_ k with
      | some r => r.isOpen
      | none => false

/-- Step 3: STARTED is posted (R194). -/
def postStarted (s : State) : State :=
  let c := s.clock.cause
  let loss := if c = .warm then s.ret.powerLoss.map (written s) else none
  postAt s.clock.startSecond 0 (.started c loss (openOutfalls s).length s.ret.clockSet) s

/-- Step 4, as far as its first `n` retained writes: the open spills are closed one after another, and then the transfer test is made once,
with a write for each transfer (R186, R192; log entry 50). -/
def closeOpenSpills (n : Nat) (s : State) : State :=
  match s.clock.cause with
  | .cold => s
  | .warm => closeFirst .powerLoss (s.ret.powerLoss.getD s.clock.startSecond) (openOutfalls s)
  | .restart => closeFirst .restart s.clock.startSecond (openOutfalls s)
where
  /-- The writes with one end cause and one end time. The transfer test makes at most four transfers (R108). -/
  closeFirst (cause : EndCause) (finish : Nat) (ks : List (Fin 4)) : State :=
    (transferLoop (min 4 (n - ks.length)) 0 ((ks.take n).foldl (fun s k => closeSpill k finish cause true s) s)).1

/-- No fewer than the retained writes of step 4. -/
def allCloses (s : State) : Nat := (openOutfalls s).length + 4

/-- Step 5: the start sweep joins the queue, without the line taking from it yet (R175, R191). -/
def startSweep (s : State) : State :=
  let sweep := allDevices.filter fun d => (s.image.devices.at_ d).isSome && (bayOfDevice s d).isSome
  s.withAct { s.act with queue := sweep.map fun d => { device := d, command := .reset, orig := .sweep, notBefore := none } }

/-- Step 6: every enabled bay receives a sounding entry due at once (R43, R191). -/
def startEntries (s : State) : State :=
  (allBays.filter fun b => (s.bay b).enabled).foldl (fun s b => queueEntry (freshEntry b s.now) s) s

/-- A start: the seven steps, after which the line and the engine take their first entries (R191). -/
def makeStart (s : State) : State :=
  let s1 := postStarted (startValues (startRetention s))
  engineTake (lineTake ((refreshAlarms (startEntries (startSweep (closeOpenSpills (allCloses s1) s1)))).withRun .running))

/-! ### Falls of power (R186, R187) -/

/-- Volatile state is lost at a fall of main power (R187). The values it holds while the part is stopped are read by nothing. -/
def loseVolatile (s : State) : State :=
  let s1 := (((((s.withMode .dry).withSnd Sounding.start).withSpill (Tab.all 4 { state := .quiet, remainder := 0 })).withDrn Drain.start).withInhibit
    (Tab.all 8 none)).withAct Actuator.start
  let s2 := (s1.withPort Port.start).withTerm { s1.term with debounced := 0, worksStop := false, lineActive := Tab.all 4 false }
  let s3 := s2.withLvl { records := Tab.all 8 LevelRecord.blank, floats := Tab.all 8 .absent }
  let s4 := s3.withRain { gauges := Tab.all 4 GaugeVol.blank, rules := Tab.all 8 { state := .disarmed, holdUntil := none }
                          slots := Tab.all 4 .empty, alert := .none, nextRoll := 0 }
  s4.withClock { s4.clock with fast := 0 }

/-- Main power falls: the power-loss time is written and the part is stopped; without backup supply the retention domain loses its contents,
which its check then shows (R186, R187). -/
def losePower (s : State) : State :=
  let s1 := s.withRet { s.ret with powerLoss := some s.now, checkGood := s.ret.checkGood && s.backup }
  (loseVolatile s1).withRun .stopped

/-- The start sequence as far as its first `n` retained writes (R191; log entry 50): at a cold start the one write of R190, otherwise those
of step 4. -/
def startWrites (n : Nat) (s : State) : State :=
  if startCause s = .cold ∧ n = 0 then s else closeOpenSpills n (postStarted (startValues (startRetention s)))

/-- Main power falls during the start sequence: what has been written stays, the time of the fall is the power-loss time, and the part is
stopped (R186, R187, R191). -/
def startFails (f : StartFall) (s : State) : State := losePower (advance f.elapsed ((startWrites f.writes s).withRun .running))

end Sys2Proof.Machine
end

