-- ==== Sys2Proof/Machine/HostPort.lean ====
section
/-! DEFINITION. The host line port: taking requests, building replies, the receive slot and the receiver (R195 to R201). -/

namespace Sys2Proof.Machine

/-- The block that owns a request carries it out (R198). -/
def handleRequest (r : Request) (s : State) : Answer :=
  match r with
  | .getStatus b => handleGetStatus b s
  | .fetchNotices b => handleFetchNotices b s
  | .getClock b => handleGetClock b s
  | .setClock b => handleSetClock b s
  | .restart b => handleRestart b s
  | .setParamsSounding b => handleParamsSounding b s
  | .setParamsLevel b => handleParamsLevel b s
  | .setParamsRain b => handleParamsRain b s
  | .setParamsDrain b => handleParamsDrain b s
  | .setParamsPlanner b => handleParamsPlanner b s
  | .setParamsActuator b => handleParamsActuator b s
  | .setParamsEmpty => refuse .refusedLength s
  | .setParamsNoGroup => refuse .refusedRange s
  | .setBay b => handleSetBay b s
  | .setOutfall b => handleSetOutfall b s
  | .setMode b => handleSetMode b s
  | .sound b => handleSound b s
  | .getSounding b => handleGetSounding b s
  | .getBay b => handleGetBay b s
  | .setGauge b => handleSetGauge b s
  | .setRule b => handleSetRule b s
  | .forecast b => handleForecast b s
  | .getRain b => handleGetRain b s
  | .readRainMinutes b => handleReadRainMinutes b s
  | .getOutfall b => handleGetOutfall b s
  | .closePeriod b => handleClosePeriod b s
  | .readSpills b => handleReadSpills b s
  | .releaseSpills b => handleReleaseSpills b s
  | .grant b => handleGrant b s
  | .withdraw b => handleWithdraw b s
  | .drain b => handleDrain b s
  | .stopDrain b => handleStopDrain b s
  | .reshut b => handleReshut b s
  | .getCredits b => handleGetCredits b s
  | .inhibitAuto b => handleInhibit b s
  | .getPlanner b => handleGetPlanner b s
  | .setDevice b => handleSetDevice b s
  | .clearDevice b => handleClearDevice b s
  | .pollDevice b => handlePollDevice b s
  | .getDevice b => handleGetDevice b s
  | .setTerminal b => handleSetTerminal b s
  | .setAlarmLine b => handleSetAlarmLine b s
  | .getTerminals b => handleGetTerminals b s
  | .unknownKind _ => refuse .refusedKind s

/-! ### Replies (R199 to R201) -/

/-- A request is a FETCH_NOTICES. -/
def isFetch : Request → Bool
  | .fetchNotices _ => true
  | _ => false

/-- A request is a RESTART. -/
def isRestart : Request → Bool
  | .restart _ => true
  | _ => false

/-- The reply to a request, built on the state that carrying it out leaves (R199, R200). -/
def buildReply (msg : HostMessage) (a : Answer) : Reply :=
  { seq := msg.seq, kind := replyKind msg.request, result := a.result, summary := summary a.state, body := a.body
    restart := isRestart msg.request && a.result == .accepted }

/-- The loss flags after a reply has been built: FRAME_LOST is cleared, NOTICE_LOST by a FETCH_NOTICES answered OK alone (R201). -/
def clearReported (msg : HostMessage) (a : Answer) (p : Port) : Port :=
  { p with frameLost := false, noticeLost := if isFetch msg.request && a.result == .ok then false else p.noticeLost }

/-- A request is taken: it is carried out, its reply is built, and the reply is being sent, all in one (R197, R199; log entry 55). -/
def takeRequest (msg : HostMessage) (s : State) : State :=
  let a := handleRequest msg.request s
  a.state.withPort { clearReported msg a a.state.port with answering := some (buildReply msg a) }

/-! ### The receive slot (R197) -/

/-- FRAME_LOST is set (R201). -/
def loseFrame (s : State) : State := s.withPort { s.port with frameLost := true }

/-- A good frame has completed (R197). -/
def offer (msg : HostMessage) (s : State) : State :=
  match s.port.answering, s.port.slot with
  | none, none => takeRequest msg s
  | some _, none => s.withPort { s.port with slot := some msg }
  | _, some _ => loseFrame s

/-- The last byte of a reply has been sent: the frame in the slot is taken; after the reply to a RESTART it is not, and a start
follows (R193, R197). -/
def replySent (s : State) : State :=
  match s.port.answering with
  | none => s
  | some r =>
    let s1 := s.withPort { s.port with answering := none }
    if r.restart then s1.withRun .restarting
    else match s1.port.slot with
      | none => s1
      | some msg => takeRequest msg (s1.withPort { s1.port with slot := none })

/-! ### The receiver (R195, R196) -/

/-- The receiver takes a state. -/
def setReceiver (r : Receiver) (s : State) : State := s.withPort { s.port with receiver := r }

/-- A complete frame, without its start byte: it is tested, and a good one is offered (R196, R209). -/
def frameComplete (got : List Byte) (s : State) : State :=
  match got with
  | len :: seq :: kind :: rest =>
    if checkBytes ((len :: seq :: kind :: rest).take (3 + len.toNat)) = rest.drop len.toNat then
      offer { seq := seq, request := parseRequest kind (rest.take len.toNat) } s
    else loseFrame s
  | _ => loseFrame s

/-- A byte is collected into a frame (R195). -/
def collect (got : List Byte) (s : State) : State :=
  match got with
  | len :: _ =>
    if Config.maxBody < len.toNat then loseFrame (setReceiver .hunting s)
    else if got.length = 5 + len.toNat then frameComplete got (setReceiver .hunting s)
    else setReceiver (.receiving got) s
  | [] => s

/-- A byte arrives (R195). -/
def receiveByte (s : State) (b : Byte) : State :=
  match s.port.receiver with
  | .hunting => if b = 0xA5#8 then setReceiver (.receiving []) s else s
  | .receiving got => collect (got ++ [b]) s

/-- Bytes arrive without a gap (R195). -/
def receiveBytes (bs : List Byte) (s : State) : State := bs.foldl receiveByte s

/-- A partial frame is discarded, where there is one (R195). -/
def discardPartial (s : State) : State :=
  match s.port.receiver with
  | .hunting => s
  | .receiving _ => loseFrame (setReceiver .hunting s)

end Sys2Proof.Machine
end

