-- ==== Sys2Proof/Machine/HostCommands.lean ====
section
/-! DEFINITION. The meanings of the host's requests (one for each row of the table) and of the events of the host line. -/

namespace Sys2Proof.Machine

/-- The outcome of a command. -/
abbrev Step := Host.Outcome State Fault Refusal

/-- A command's moment comes; where the part runs, the command takes effect, and the alarm lines follow (log entries 8, 17). -/
def whileRunning (m : Moment) (f : State → State) (s : State) : Step :=
  let s1 := arrive m s
  .next (if s1.run = .running then refreshAlarms (f s1) else s1)

/-- A good frame with a request completes (R197; log entry 14). -/
def hostRequest (m : Moment) (seq : Byte) (r : Request) (s : State) : Step :=
  whileRunning m (offer { seq := seq, request := r }) s

/-- GET_STATUS (R202). -/
def execGetStatus (m : Moment) (seq : Byte) (b : Body Unit) (s : State) : Step := hostRequest m seq (.getStatus b) s

/-- FETCH_NOTICES (R205). -/
def execFetchNotices (m : Moment) (seq : Byte) (b : Body Nat) (s : State) : Step := hostRequest m seq (.fetchNotices b) s

/-- GET_CLOCK (R189). -/
def execGetClock (m : Moment) (seq : Byte) (b : Body Unit) (s : State) : Step := hostRequest m seq (.getClock b) s

/-- SET_CLOCK (R188). -/
def execSetClock (m : Moment) (seq : Byte) (b : Body Nat) (s : State) : Step := hostRequest m seq (.setClock b) s

/-- RESTART (R193). -/
def execRestart (m : Moment) (seq : Byte) (b : Body Unit) (s : State) : Step := hostRequest m seq (.restart b) s

/-- SET_PARAMS_SOUNDING (R21). -/
def execSetParamsSounding (m : Moment) (seq : Byte) (b : Body SoundingParams) (s : State) : Step := hostRequest m seq (.setParamsSounding b) s

/-- SET_PARAMS_LEVEL (R45). -/
def execSetParamsLevel (m : Moment) (seq : Byte) (b : Body Nat) (s : State) : Step := hostRequest m seq (.setParamsLevel b) s

/-- SET_PARAMS_RAIN (R73). -/
def execSetParamsRain (m : Moment) (seq : Byte) (b : Body Nat) (s : State) : Step := hostRequest m seq (.setParamsRain b) s

/-- SET_PARAMS_DRAIN (R121). -/
def execSetParamsDrain (m : Moment) (seq : Byte) (b : Body DrainParams) (s : State) : Step := hostRequest m seq (.setParamsDrain b) s

/-- SET_PARAMS_PLANNER (R145). -/
def execSetParamsPlanner (m : Moment) (seq : Byte) (b : Body Nat) (s : State) : Step := hostRequest m seq (.setParamsPlanner b) s

/-- SET_PARAMS_ACTUATOR (R160). -/
def execSetParamsActuator (m : Moment) (seq : Byte) (b : Body ActuatorParams) (s : State) : Step := hostRequest m seq (.setParamsActuator b) s

/-- SET_BAY (R3). -/
def execSetBay (m : Moment) (seq : Byte) (b : Body BayFields) (s : State) : Step := hostRequest m seq (.setBay b) s

/-- SET_OUTFALL (R11). -/
def execSetOutfall (m : Moment) (seq : Byte) (b : Body OutfallFields) (s : State) : Step := hostRequest m seq (.setOutfall b) s

/-- SET_MODE_MAINTENANCE (R17). -/
def execSetModeMaintenance (m : Moment) (seq : Byte) (s : State) : Step := hostRequest m seq (.setMode (.fields 1)) s

/-- SET_MODE_AUTOMATIC (R17). -/
def execSetModeAutomatic (m : Moment) (seq : Byte) (s : State) : Step := hostRequest m seq (.setMode (.fields 0)) s

/-- SOUND (R37). -/
def execSound (m : Moment) (seq : Byte) (b : Body Nat) (s : State) : Step := hostRequest m seq (.sound b) s

/-- GET_SOUNDING (R42). -/
def execGetSounding (m : Moment) (seq : Byte) (b : Body Unit) (s : State) : Step := hostRequest m seq (.getSounding b) s

/-- GET_BAY (R56). -/
def execGetBay (m : Moment) (seq : Byte) (b : Body Nat) (s : State) : Step := hostRequest m seq (.getBay b) s

/-- SET_GAUGE (R58). -/
def execSetGauge (m : Moment) (seq : Byte) (b : Body GaugeFields) (s : State) : Step := hostRequest m seq (.setGauge b) s

/-- SET_RULE (R65). -/
def execSetRule (m : Moment) (seq : Byte) (b : Body RuleFields) (s : State) : Step := hostRequest m seq (.setRule b) s

/-- FORECAST (R70). -/
def execForecast (m : Moment) (seq : Byte) (b : Body ForecastFields) (s : State) : Step := hostRequest m seq (.forecast b) s

/-- GET_RAIN (R75). -/
def execGetRain (m : Moment) (seq : Byte) (b : Body Unit) (s : State) : Step := hostRequest m seq (.getRain b) s

/-- READ_RAIN_MINUTES (R76). -/
def execReadRainMinutes (m : Moment) (seq : Byte) (b : Body Nat) (s : State) : Step := hostRequest m seq (.readRainMinutes b) s

/-- GET_OUTFALL (R97). -/
def execGetOutfall (m : Moment) (seq : Byte) (b : Body Nat) (s : State) : Step := hostRequest m seq (.getOutfall b) s

/-- CLOSE_PERIOD (R92). -/
def execClosePeriod (m : Moment) (seq : Byte) (b : Body Nat) (s : State) : Step := hostRequest m seq (.closePeriod b) s

/-- READ_SPILLS (R109). -/
def execReadSpills (m : Moment) (seq : Byte) (b : Body ReadSpillsFields) (s : State) : Step := hostRequest m seq (.readSpills b) s

/-- RELEASE_SPILLS (R110). -/
def execReleaseSpills (m : Moment) (seq : Byte) (b : Body Nat) (s : State) : Step := hostRequest m seq (.releaseSpills b) s

/-- GRANT (R116). -/
def execGrant (m : Moment) (seq : Byte) (b : Body GrantFields) (s : State) : Step := hostRequest m seq (.grant b) s

/-- WITHDRAW (R119). -/
def execWithdraw (m : Moment) (seq : Byte) (b : Body Nat) (s : State) : Step := hostRequest m seq (.withdraw b) s

/-- DRAIN (R124). -/
def execDrain (m : Moment) (seq : Byte) (b : Body DrainFields) (s : State) : Step := hostRequest m seq (.drain b) s

/-- STOP_DRAIN (R141). -/
def execStopDrain (m : Moment) (seq : Byte) (b : Body Nat) (s : State) : Step := hostRequest m seq (.stopDrain b) s

/-- RESHUT (R142). -/
def execReshut (m : Moment) (seq : Byte) (b : Body Nat) (s : State) : Step := hostRequest m seq (.reshut b) s

/-- GET_CREDITS (R143). -/
def execGetCredits (m : Moment) (seq : Byte) (b : Body Unit) (s : State) : Step := hostRequest m seq (.getCredits b) s

/-- INHIBIT_AUTO_ON (R151). -/
def execInhibitAutoOn (m : Moment) (seq : Byte) (bay : Nat) (s : State) : Step := hostRequest m seq (.inhibitAuto (.fields { bay := bay, value := 1 })) s

/-- INHIBIT_AUTO_OFF (R151). -/
def execInhibitAutoOff (m : Moment) (seq : Byte) (bay : Nat) (s : State) : Step := hostRequest m seq (.inhibitAuto (.fields { bay := bay, value := 0 })) s

/-- GET_PLANNER (R152). -/
def execGetPlanner (m : Moment) (seq : Byte) (b : Body Unit) (s : State) : Step := hostRequest m seq (.getPlanner b) s

/-- SET_DEVICE (R154). -/
def execSetDevice (m : Moment) (seq : Byte) (b : Body DeviceFields) (s : State) : Step := hostRequest m seq (.setDevice b) s

/-- CLEAR_DEVICE (R172). -/
def execClearDevice (m : Moment) (seq : Byte) (b : Body Nat) (s : State) : Step := hostRequest m seq (.clearDevice b) s

/-- POLL_DEVICE (R173). -/
def execPollDevice (m : Moment) (seq : Byte) (b : Body Nat) (s : State) : Step := hostRequest m seq (.pollDevice b) s

/-- GET_DEVICE (R174). -/
def execGetDevice (m : Moment) (seq : Byte) (b : Body Nat) (s : State) : Step := hostRequest m seq (.getDevice b) s

/-- SET_TERMINAL (R177). -/
def execSetTerminal (m : Moment) (seq : Byte) (b : Body TerminalFields) (s : State) : Step := hostRequest m seq (.setTerminal b) s

/-- SET_ALARM_LINE (R181). -/
def execSetAlarmLine (m : Moment) (seq : Byte) (b : Body AlarmFields) (s : State) : Step := hostRequest m seq (.setAlarmLine b) s

/-- GET_TERMINALS (R184). -/
def execGetTerminals (m : Moment) (seq : Byte) (b : Body Unit) (s : State) : Step := hostRequest m seq (.getTerminals b) s

/-- UNKNOWN_KIND_REQUEST (R198). A kind that R211 lists is a request of that kind, here with an empty body. -/
def execUnknownKindRequest (m : Moment) (seq : Byte) (kind : Byte) (s : State) : Step := hostRequest m seq (parseRequest kind []) s

/-- HOST_FRAME_COMPLETE (R195, R196, R197). -/
def execHostFrameComplete (m : Moment) (bytes : List Byte) (s : State) : Step := whileRunning m (receiveBytes bytes) s

/-- HOST_LENGTH_OVER_240 (R195). -/
def execHostLengthOver240 (m : Moment) (bytes : List Byte) (s : State) : Step := whileRunning m (receiveBytes bytes) s

/-- HOST_FRAME_GAP (R195): the byte that ends the gap is taken as if the receiver were hunting. The discard and FRAME_LOST come at that byte
(log entry 64). -/
def execHostFrameGap (m : Moment) (bytes : List Byte) (ending : Byte) (s : State) : Step :=
  whileRunning m (fun s => receiveByte (discardPartial (receiveBytes bytes s)) ending) s

/-- HOST_LINE_BREAK (R195). -/
def execHostLineBreak (m : Moment) (bytes : List Byte) (s : State) : Step :=
  whileRunning m (fun s => discardPartial (receiveBytes bytes s)) s

/-- REPLY_SENT (R193, R197). -/
def execReplySent (m : Moment) (s : State) : Step := whileRunning m replySent s

end Sys2Proof.Machine
end

