-- ==== Sys2Proof/Machine/ActuatorCommands.lean ====
section
/-! DEFINITION. The meanings of the actuator-line events: replies, timeouts, back-offs, polls, movement deadlines. -/

namespace Sys2Proof.Machine

/-- ACTUATOR_REPLY (R164 to R168). -/
def execActuatorReply (m : Moment) (bytes : List Byte) (s : State) : Step := whileRunning m (frameArrives bytes) s

/-- The response timeout of the current transaction passes (R164). -/
def responseTimesOut (s : State) : State :=
  match s.act.current with
  | some t => attemptFailed t .timeout (reachFast (responseDeadline t) s)
  | none => s

/-- ACTUATOR_RESPONSE_TIMEOUT (R164). -/
def execActuatorResponseTimeout (m : Moment) (s : State) : Step := whileRunning m responseTimesOut s

/-- The earliest not-before time of a device's waiting entries (R163; log entry 43). -/
def deviceNotBefore (s : State) (d : Fin 16) : Option Nat :=
  (s.act.queue.filterMap fun e => if e.device = d then e.notBefore else none).min?

/-- The not-before time of a device's entry that is the first to pass has passed (R163). -/
def nakBackoffPassed (d : Fin 16) (s : State) : State :=
  match deviceNotBefore s d with
  | some t => lineTake (reachFast t s)
  | none => s

/-- ACTUATOR_NAK_BACKOFF_PASSED (R163). -/
def execActuatorNakBackoffPassed (m : Moment) (device : Fin 16) (s : State) : Step := whileRunning m (nakBackoffPassed device) s

/-- The next poll time of a device is reached: a QUERY is put, and the next poll time moves on (R169). -/
def pollDue (d : Fin 16) (t : Nat) (s : State) : State :=
  putQuery d .watch (s.setDevice d { s.device d with nextPoll := some (t + s.image.actuator.poll) })

/-- The next poll time of a device is reached, where it has one (R169). -/
def pollReached (d : Fin 16) (s : State) : State :=
  match (s.device d).nextPoll with
  | some t => pollDue d t (reachSecond t s)
  | none => s

/-- DEVICE_POLL_DUE (R169). -/
def execDevicePollDue (m : Moment) (device : Fin 16) (s : State) : Step := whileRunning m (pollReached device) s

/-- The movement deadline of a device is reached, where it has one (R170). -/
def movementDeadlineReached (d : Fin 16) (s : State) : State :=
  match (s.device d).deadline with
  | some x => movementTimesOut d x.command (reachSecond x.due s)
  | none => s

/-- MOVEMENT_DEADLINE (R170). -/
def execMovementDeadline (m : Moment) (device : Fin 16) (s : State) : Step := whileRunning m (movementDeadlineReached device) s

end Sys2Proof.Machine
end

