-- ==== Sys2Proof/Machine/PowerCommands.lean ====
section
/-! DEFINITION. The meanings of the power events and of START. -/

namespace Sys2Proof.Machine

/-- Main power falls, where it is present (R187). -/
def mainFalls (s : State) : State := if s.run = .stopped then s else losePower s

/-- MAIN_POWER_FAIL (R186, R187). -/
def execMainPowerFail (m : Moment) (s : State) : Step := .next (mainFalls (arrive m s))

/-- Backup supply falls: with main power absent too the retention domain loses its contents (R186). -/
def backupFalls (s : State) : State :=
  let s1 := s.withBackup false
  if s.run = .stopped then s1.withRet { s1.ret with checkGood := false } else s1

/-- BACKUP_SUPPLY_LOSS (R186). -/
def execBackupSupplyLoss (m : Moment) (s : State) : Step := .next (backupFalls (arrive m s))

/-- BACKUP_SUPPLY_RETURN (R186). -/
def execBackupSupplyReturn (m : Moment) (s : State) : Step := .next ((arrive m s).withBackup true)

/-- A start is made where main power returns or a RESTART reply has been sent, and main power may fall during its sequence; a part that runs
makes none (R187, R191; log entry 16). -/
def startWhereDue (fall : Option StartFall) (s : State) : State :=
  if s.run = .running then s
  else match fall with
    | none => makeStart s
    | some f => startFails f s

/-- START (R191). -/
def execStart (e : StartEvent) (s : State) : Step := .next (startWhereDue e.fall (arrive e.moment s))

end Sys2Proof.Machine
end

