-- ==== Sys2Proof/Machine/SoundingCommands.lean ====
section
/-! DEFINITION. The meanings of the sounding events: due entries, back-offs, the drive supply, the burst, the echo, the gate. -/

namespace Sys2Proof.Machine

/-- A due time is reached (R35). -/
def dueReached (b : Fin 8) (s : State) : State :=
  match waitingEntry s b with
  | some e => engineTake (reachSecond e.due s)
  | none => s

/-- SOUNDING_DUE (R35). -/
def execSoundingDue (m : Moment) (bay : Fin 8) (s : State) : Step := whileRunning m (dueReached bay) s

/-- A not-before time passes (R31, R35). -/
def backoffPassed (b : Fin 8) (s : State) : State :=
  match waitingEntry s b with
  | some e => match e.notBefore with
    | some t => engineTake (reachFast t s)
    | none => s
  | none => s

/-- SOUNDING_BACKOFF_PASSED (R35). -/
def execSoundingBackoffPassed (m : Moment) (bay : Fin 8) (s : State) : Step := whileRunning m (backoffPassed bay) s

/-- The burst begins now (R25, R27). -/
def beginBurst (f : InFlight) (s : State) : State := setEngine { f with phase := .bursting, burstStart := s.clock.fast } s

/-- The supply, which is on, reports ready (R25, R26). -/
def supplyReports (s : State) : State :=
  if s.snd.supplyOn then
    let s1 := s.withSnd { s.snd with supplyReady := true, expiries := 0 }
    match s1.snd.engine with
    | some f => if f.phase = .charging then beginBurst f s1 else s1
    | none => s1
  else s

/-- SUPPLY_READY (R25, R26). -/
def execSupplyReady (m : Moment) (s : State) : Step := whileRunning m supplyReports s

/-- The charge deadline passes: the expiry is counted, the third posts SUPPLY_FAULT, and the burst begins marked WEAK_DRIVE (R25, R26). -/
def chargeExpires (f : InFlight) (s : State) : State :=
  let n := addHeld 255 s.snd.expiries 1
  let s1 := s.withSnd { s.snd with expiries := n }
  let s2 := if n = Config.supplyFaultAt ∧ s.snd.expiries < n then post 0 (.supplyFault n f.bay.val) s1 else s1
  beginBurst { f with weak := true } s2

/-- The engine does something to the sounding in flight in one phase, and nothing otherwise (R22). -/
def inPhase (phase : EngineState) (f : InFlight → State → State) (s : State) : State :=
  match s.snd.engine with
  | some x => if x.phase = phase then f x s else s
  | none => s

/-- CHARGE_DEADLINE_EXPIRED (R25, R26). -/
def execChargeDeadlineExpired (m : Moment) (s : State) : Step :=
  whileRunning m (inPhase .charging fun f s => chargeExpires f (reachFast (chargeDeadline f) s)) s

/-- DRIVE_STUCK (R27). -/
def execDriveStuck (m : Moment) (s : State) : Step :=
  whileRunning m (inPhase .bursting (finish · .driveFault none (some .stuck) none)) s

/-- The burst ends, having delivered some pulses (R27). -/
def burstEnds (pulses : Nat) (f : InFlight) (s : State) : State :=
  if pulses < f.pulses then finish f .driveFault none (some .short) none s else setEngine { f with phase := .listening } s

/-- BURST_END (R27). -/
def execBurstEnd (m : Moment) (pulses : Nat) (s : State) : Step := whileRunning m (inPhase .bursting (burstEnds pulses)) s

/-- An echo crosses the threshold in LISTENING: after blanking and before the end of the window it is the echo (R28). -/
def echoCrosses (tof : Nat) (f : InFlight) (s : State) : State :=
  if afterBlanking f tof = true ∧ tof < listenWindow f then setEngine { f with phase := .gating, tof := tof } s else s

/-- ECHO_CROSSING (R28). -/
def execEchoCrossing (m : Moment) (tof : Nat) (s : State) : Step :=
  whileRunning m (inPhase .listening fun f s => echoCrosses tof f (reachFast (f.burstStart + tof) s)) s

/-- LISTEN_WINDOW_END (R28). -/
def execListenWindowEnd (m : Moment) (s : State) : Step :=
  whileRunning m (inPhase .listening fun f s => finish f .lostEcho none none none (reachFast (f.burstStart + listenWindow f) s)) s

/-- The 16 half-periods have been counted (R30). -/
def gateCompletes (nanos : Nat) (f : InFlight) (s : State) : State :=
  if gatePasses f nanos f.tolerance then gatePassed f nanos s else gateFailed f s

/-- SOUNDING_GATE_COMPLETE (R30, R31). -/
def execSoundingGateComplete (m : Moment) (nanos : Nat) (s : State) : Step :=
  whileRunning m (inPhase .gating (gateCompletes nanos)) s

/-- SOUNDING_GATE_TIMEOUT (R30, R31). -/
def execSoundingGateTimeout (m : Moment) (s : State) : Step := whileRunning m (inPhase .gating gateFailed) s

end Sys2Proof.Machine
end

