-- ==== Sys2Proof/Machine/StationCommands.lean ====
section
/-! DEFINITION. The meanings of the spill, terminal, rain and drain events. -/

namespace Sys2Proof.Machine

/-! ### Spills (R82, R88) -/

/-- The tail deadline of an outfall is reached, where it has one (R82). -/
def tailDeadlineReached (k : Fin 4) (s : State) : State :=
  match s.spillState k with
  | .tailing _ d => tailEnds k (reachSecond d s)
  | .quiet | .spilling | .blind => s

/-- TAIL_DEADLINE (R82, R90). -/
def execTailDeadline (m : Moment) (outfall : Fin 4) (s : State) : Step := whileRunning m (tailDeadlineReached outfall) s

/-- BLOCK_END_REACHED (R88). A block-end that passed while the outfall was TAILING is carried where the row comes with the outfall BLIND
(log entry 66). -/
def execBlockEndReached (m : Moment) (outfall : Fin 4) (s : State) : Step :=
  whileRunning m (fun s => blockEndReached outfall (reachSecond (s.ret.counts.at_ outfall).blockEnd s)) s

/-! ### Terminals (R179) -/

/-- The owner of a terminal's function takes an edge, which has made the input active or inactive (R179). -/
def takeEdge (f : TerminalFunction) (active : Bool) (s : State) : State :=
  match f, active with
  | .float b, true => floatActivated b s
  | .float b, false => floatReleased b .released s
  | .gauge g, true => gaugeActiveEdge g s
  | .gauge g, false => gaugeInactiveEdge g s
  | .worksStop, true => worksStopAsserted s
  | .worksStop, false => worksStopReleased s
  | .unused, _ | .alarm _, _ => s

/-- The raw level of an input has held for 10 ms: a changed debounced level is an edge (R179). A terminal with the function ALARM is not
sampled. -/
def debounced (t : Fin 12) (s : State) : State :=
  match (s.image.terminals.at_ t).function with
  | .alarm _ => s
  | f =>
    if s.term.pins.getLsbD t.val = s.term.debounced.getLsbD t.val then s
    else
      let s1 := takeRawLevel t s
      takeEdge f (inputActive s1 t) s1

/-- DEBOUNCE_COMPLETE (R179). -/
def execDebounceComplete (m : Moment) (terminal : Fin 12) (s : State) : Step := whileRunning m (debounced terminal) s

/-! ### Rain (R62, R63, R71) -/

/-- A gauge becomes STUCK at a deadline that was given a stuck time, which the notice carries (R59, R62). -/
def becomeStuck (g : Fin 4) (stuckTime : Nat) (s : State) : State :=
  let s1 := s.setGauge g { s.rain.gauges.at_ g with stuck := true, stuckDeadline := none }
  match terminalOf s (.gauge g) with
  | some t => post g.val (.rainGaugeStuck t.val stuckTime) s1
  | none => s1

/-- The stuck deadline of a gauge is reached, where it has one (R62). -/
def stuckDeadlineReached (g : Fin 4) (s : State) : State :=
  match (s.rain.gauges.at_ g).stuckDeadline with
  | some x => becomeStuck g x.time (reachSecond x.due s)
  | none => s

/-- GAUGE_STUCK_DEADLINE (R62). -/
def execGaugeStuckDeadline (m : Moment) (gauge : Fin 4) (s : State) : Step := whileRunning m (stuckDeadlineReached gauge) s

/-- MINUTE_ROLL (R63). -/
def execMinuteRoll (m : Moment) (s : State) : Step := whileRunning m (fun s => minuteRoll (reachSecond s.rain.nextRoll s)) s

/-- A PENDING slot becomes ACTIVE at its start time (R71). -/
def slotStarts (i : Fin 4) (s : State) : State :=
  match s.rain.slots.at_ i with
  | .pending l a e => applyForecast i (.active l a e) (reachSecond a s)
  | .empty | .active _ _ _ => s

/-- FORECAST_SLOT_START (R71). -/
def execForecastSlotStart (m : Moment) (slot : Fin 4) (s : State) : Step := whileRunning m (slotStarts slot) s

/-- An ACTIVE slot becomes EMPTY at its end time (R71). -/
def slotEnds (i : Fin 4) (s : State) : State :=
  match s.rain.slots.at_ i with
  | .active _ _ e => applyForecast i .empty (reachSecond e s)
  | .empty | .pending _ _ _ => s

/-- FORECAST_SLOT_END (R71). -/
def execForecastSlotEnd (m : Moment) (slot : Fin 4) (s : State) : Step := whileRunning m (slotEnds slot) s

/-! ### Drains (R118, R132) -/

/-- The first grant in consumption order expires (R118). -/
def expireGrant (g : Grant) (rest : List Grant) (s : State) : State :=
  let s1 := s.withDrn { s.drn with
    grants := rest
    counters := { s.drn.counters with expired := addHeld Config.max32 s.drn.counters.expired g.count } }
  post 0 (.creditExpired g.count g.expiry (pool s1)) s1

/-- The first grant in consumption order reaches its expiry, where there is one (R118). -/
def expiryReached (s : State) : State :=
  match s.drn.grants with
  | g :: rest => expireGrant g rest (reachSecond g.expiry s)
  | [] => s

/-- GRANT_EXPIRY (R118). -/
def execGrantExpiry (m : Moment) (s : State) : Step := whileRunning m expiryReached s

/-- The lot deadline of a RUNNING order is reached: the lot has stalled (R132). -/
def lotDeadlineReached (b : Fin 8) (s : State) : State :=
  match s.order b with
  | some o =>
    match o.state, o.lot with
    | .running, some l => overtake b .stalled (reachSecond l.deadline s)
    | _, _ => s
  | none => s

/-- LOT_DEADLINE (R132). -/
def execLotDeadline (m : Moment) (bay : Fin 8) (s : State) : Step := whileRunning m (lotDeadlineReached bay) s

end Sys2Proof.Machine
end

