-- ==== Sys2Proof/Machine/Dispatch.lean ====
section
/-! DEFINITION. The meaning of every command: one arm for each constructor. -/

namespace Sys2Proof.Machine

def exec (i : Instr) (s : State) : Host.Outcome State Fault Refusal :=
  match i with
  | .getStatus m seq b => Sys2Proof.Machine.execGetStatus m seq b s
  | .fetchNotices m seq b => Sys2Proof.Machine.execFetchNotices m seq b s
  | .getClock m seq b => Sys2Proof.Machine.execGetClock m seq b s
  | .setClock m seq b => Sys2Proof.Machine.execSetClock m seq b s
  | .restart m seq b => Sys2Proof.Machine.execRestart m seq b s
  | .setParamsSounding m seq b => Sys2Proof.Machine.execSetParamsSounding m seq b s
  | .setParamsLevel m seq b => Sys2Proof.Machine.execSetParamsLevel m seq b s
  | .setParamsRain m seq b => Sys2Proof.Machine.execSetParamsRain m seq b s
  | .setParamsDrain m seq b => Sys2Proof.Machine.execSetParamsDrain m seq b s
  | .setParamsPlanner m seq b => Sys2Proof.Machine.execSetParamsPlanner m seq b s
  | .setParamsActuator m seq b => Sys2Proof.Machine.execSetParamsActuator m seq b s
  | .setBay m seq b => Sys2Proof.Machine.execSetBay m seq b s
  | .setOutfall m seq b => Sys2Proof.Machine.execSetOutfall m seq b s
  | .setModeMaintenance m seq => Sys2Proof.Machine.execSetModeMaintenance m seq s
  | .setModeAutomatic m seq => Sys2Proof.Machine.execSetModeAutomatic m seq s
  | .sound m seq b => Sys2Proof.Machine.execSound m seq b s
  | .getSounding m seq b => Sys2Proof.Machine.execGetSounding m seq b s
  | .getBay m seq b => Sys2Proof.Machine.execGetBay m seq b s
  | .setGauge m seq b => Sys2Proof.Machine.execSetGauge m seq b s
  | .setRule m seq b => Sys2Proof.Machine.execSetRule m seq b s
  | .forecast m seq b => Sys2Proof.Machine.execForecast m seq b s
  | .getRain m seq b => Sys2Proof.Machine.execGetRain m seq b s
  | .readRainMinutes m seq b => Sys2Proof.Machine.execReadRainMinutes m seq b s
  | .getOutfall m seq b => Sys2Proof.Machine.execGetOutfall m seq b s
  | .closePeriod m seq b => Sys2Proof.Machine.execClosePeriod m seq b s
  | .readSpills m seq b => Sys2Proof.Machine.execReadSpills m seq b s
  | .releaseSpills m seq b => Sys2Proof.Machine.execReleaseSpills m seq b s
  | .grant m seq b => Sys2Proof.Machine.execGrant m seq b s
  | .withdraw m seq b => Sys2Proof.Machine.execWithdraw m seq b s
  | .drain m seq b => Sys2Proof.Machine.execDrain m seq b s
  | .stopDrain m seq b => Sys2Proof.Machine.execStopDrain m seq b s
  | .reshut m seq b => Sys2Proof.Machine.execReshut m seq b s
  | .getCredits m seq b => Sys2Proof.Machine.execGetCredits m seq b s
  | .inhibitAutoOn m seq bay => Sys2Proof.Machine.execInhibitAutoOn m seq bay s
  | .inhibitAutoOff m seq bay => Sys2Proof.Machine.execInhibitAutoOff m seq bay s
  | .getPlanner m seq b => Sys2Proof.Machine.execGetPlanner m seq b s
  | .setDevice m seq b => Sys2Proof.Machine.execSetDevice m seq b s
  | .clearDevice m seq b => Sys2Proof.Machine.execClearDevice m seq b s
  | .pollDevice m seq b => Sys2Proof.Machine.execPollDevice m seq b s
  | .getDevice m seq b => Sys2Proof.Machine.execGetDevice m seq b s
  | .setTerminal m seq b => Sys2Proof.Machine.execSetTerminal m seq b s
  | .setAlarmLine m seq b => Sys2Proof.Machine.execSetAlarmLine m seq b s
  | .getTerminals m seq b => Sys2Proof.Machine.execGetTerminals m seq b s
  | .unknownKindRequest m seq kind => Sys2Proof.Machine.execUnknownKindRequest m seq kind s
  | .hostFrameComplete m bytes => Sys2Proof.Machine.execHostFrameComplete m bytes s
  | .hostLengthOver240 m bytes => Sys2Proof.Machine.execHostLengthOver240 m bytes s
  | .hostFrameGap m bytes ending => Sys2Proof.Machine.execHostFrameGap m bytes ending s
  | .hostLineBreak m bytes => Sys2Proof.Machine.execHostLineBreak m bytes s
  | .replySent m => Sys2Proof.Machine.execReplySent m s
  | .soundingDue m bay => Sys2Proof.Machine.execSoundingDue m bay s
  | .soundingBackoffPassed m bay => Sys2Proof.Machine.execSoundingBackoffPassed m bay s
  | .supplyReady m => Sys2Proof.Machine.execSupplyReady m s
  | .chargeDeadlineExpired m => Sys2Proof.Machine.execChargeDeadlineExpired m s
  | .driveStuck m => Sys2Proof.Machine.execDriveStuck m s
  | .burstEnd m pulses => Sys2Proof.Machine.execBurstEnd m pulses s
  | .echoCrossing m tof => Sys2Proof.Machine.execEchoCrossing m tof s
  | .listenWindowEnd m => Sys2Proof.Machine.execListenWindowEnd m s
  | .soundingGateComplete m nanos => Sys2Proof.Machine.execSoundingGateComplete m nanos s
  | .soundingGateTimeout m => Sys2Proof.Machine.execSoundingGateTimeout m s
  | .tailDeadline m outfall => Sys2Proof.Machine.execTailDeadline m outfall s
  | .blockEndReached m outfall => Sys2Proof.Machine.execBlockEndReached m outfall s
  | .debounceComplete m terminal => Sys2Proof.Machine.execDebounceComplete m terminal s
  | .gaugeStuckDeadline m gauge => Sys2Proof.Machine.execGaugeStuckDeadline m gauge s
  | .minuteRoll m => Sys2Proof.Machine.execMinuteRoll m s
  | .forecastSlotStart m slot => Sys2Proof.Machine.execForecastSlotStart m slot s
  | .forecastSlotEnd m slot => Sys2Proof.Machine.execForecastSlotEnd m slot s
  | .grantExpiry m => Sys2Proof.Machine.execGrantExpiry m s
  | .lotDeadline m bay => Sys2Proof.Machine.execLotDeadline m bay s
  | .actuatorReply m bytes => Sys2Proof.Machine.execActuatorReply m bytes s
  | .actuatorResponseTimeout m => Sys2Proof.Machine.execActuatorResponseTimeout m s
  | .actuatorNakBackoffPassed m device => Sys2Proof.Machine.execActuatorNakBackoffPassed m device s
  | .devicePollDue m device => Sys2Proof.Machine.execDevicePollDue m device s
  | .movementDeadline m device => Sys2Proof.Machine.execMovementDeadline m device s
  | .mainPowerFail m => Sys2Proof.Machine.execMainPowerFail m s
  | .backupSupplyLoss m => Sys2Proof.Machine.execBackupSupplyLoss m s
  | .start e => Sys2Proof.Machine.execStart e s
  | .backupSupplyReturn m => Sys2Proof.Machine.execBackupSupplyReturn m s

end Sys2Proof.Machine
end

