-- ==== Sys2Proof/Safety.lean ====
section
/-! DEFINITION. What a safe state and a safe step are: the invariant of the bounded collections, the alarm lines' agreement, and the part of the state that a cascade of consequences never touches. -/

namespace Sys2Proof.Machine

/-! ### The invariant of the collections -/

/-- The notice queue and the posting counter stay in their bounds (R203, R204). -/
def Port.Wf (p : Port) : Prop := p.notices.length ≤ Config.noticeCap ∧ p.nextNumber < 256

/-- The log stays in its bound and in id order, and no id has yet to be given (R101, R102). -/
def logWf (log : List LogEntry) (next : Option Nat) : Prop :=
  log.length ≤ Config.logCap ∧ log.Pairwise (fun a b => a.id < b.id) ∧ ∀ n ∈ next, ∀ e ∈ log, e.id < n

/-- The grant list stays in its bound and in consumption order, and every grant holds credits (R115). -/
def grantsWf (gs : List Grant) : Prop :=
  gs.length ≤ Config.grantCap ∧ gs.Pairwise (fun a b => a.expiry ≤ b.expiry) ∧ ∀ g ∈ gs, 1 ≤ g.count ∧ g.count ≤ 255

/-- No credit is lost or made: as long as the granted counter has not reached its top, what was granted is still held, consumed, expired or
withdrawn (R116 to R120). -/
def creditsWf (gs : List Grant) (c : CreditCounters) : Prop :=
  c.granted < Config.max32 → (gs.map fun g => g.count).sum + c.consumed + c.expired + c.withdrawn = c.granted

/-- A bay has at most one waiting sounding entry (R34). -/
def soundingQueueWf (q : List SoundingEntry) : Prop := (q.map fun e => e.bay).Nodup

/-- A device has at most one drive entry and one query entry waiting (R161). -/
def lineQueueWf (q : List LineEntry) : Prop :=
  ∀ d, q.countP (LineEntry.isDriveOf d) ≤ 1 ∧ q.countP (LineEntry.isQueryOf d) ≤ 1

/-- The orders that hold slots are no more than the return slots configured (R121). -/
def slotsWf (s : State) : Prop := (slotHolders s).length ≤ s.image.drain.slots

/-- While the part runs, a frame waits in the receive slot only while a request is being answered (R197). -/
def receiveSlotWf (s : State) : Prop := s.run = .running → s.port.slot.isSome = true → s.port.answering.isSome = true

/-- The invariant of the bounded collections. -/
structure State.Inv (s : State) : Prop where
  port : s.port.Wf
  log : logWf s.ret.log s.ret.nextId
  grants : grantsWf s.drn.grants
  credits : creditsWf s.drn.grants s.drn.counters
  sounding : soundingQueueWf s.snd.queue
  line : lineQueueWf s.act.queue
  slots : slotsWf s
  receive : receiveSlotWf s

/-- While the part runs, each alarm line is active exactly where its condition is met (R182, R183). -/
def AlarmsFollow (s : State) : Prop := s.run = .running → ∀ l, s.term.lineActive.at_ l = lineCondition s l

/-- The site alert level is the highest of its sources (R72). -/
def AlertFollows (s : State) : Prop := s.rain.alert = alertFromSources s

/-- The thresholds of every enabled bay strictly increase, and every configured device has a bus address from 1 to 31 (R4, R154). -/
def RecordsInRange (s : State) : Prop :=
  (∀ b, (s.bay b).enabled = true →
    (s.bay b).empty < (s.bay b).fill ∧ (s.bay b).fill < (s.bay b).drawdown ∧ (s.bay b).drawdown < (s.bay b).high
      ∧ (s.bay b).high < (s.bay b).crest)
  ∧ ∀ d r, s.image.devices.at_ d = some r → 1 ≤ r.address ∧ r.address ≤ 31

/-! ### Requests and replies -/

/-- The part runs and can take a request at once (R197). -/
def PortFree (s : State) : Prop := s.run = .running ∧ s.port.answering = none ∧ s.port.slot = none

/-- The state after a request has been answered (R199 to R201): the reply is being sent, its summary is that of the state the request
leaves, FRAME_LOST is clear, and the alarm lines follow their conditions (log entry 8). The request and its reply are one step (log entry 55).
Everything else is as the request leaves it. -/
def answered (seq kind : Byte) (result : Result) (body : ReplyBody) (s : State) : State :=
  refreshAlarms (s.withPort { s.port with
    frameLost := false
    answering := some { seq := seq, kind := kind, result := result, summary := summary s, body := body, restart := false } })

/-- A reply with a result and a body is being sent (R199). -/
def Replies (t : State) (seq kind : Byte) (result : Result) (body : ReplyBody) : Prop :=
  ∃ r, t.port.answering = some r ∧ r.seq = seq ∧ r.kind = kind ∧ r.result = result ∧ r.body = body

/-- Every request whose body can be of the wrong length, with such a body, and the kind of its reply (R198, R211, R212). -/
def wrongLengthRequests (m : Moment) (q : Byte) : List (Instr × Byte) :=
  [(.getStatus m q .wrongLength, 0x81#8), (.fetchNotices m q .wrongLength, 0x82#8), (.getClock m q .wrongLength, 0x83#8),
    (.setClock m q .wrongLength, 0x84#8), (.restart m q .wrongLength, 0x85#8), (.setParamsSounding m q .wrongLength, 0x88#8),
    (.setParamsLevel m q .wrongLength, 0x88#8), (.setParamsRain m q .wrongLength, 0x88#8), (.setParamsDrain m q .wrongLength, 0x88#8),
    (.setParamsPlanner m q .wrongLength, 0x88#8), (.setParamsActuator m q .wrongLength, 0x88#8), (.setBay m q .wrongLength, 0x90#8),
    (.setOutfall m q .wrongLength, 0x91#8), (.sound m q .wrongLength, 0x98#8), (.getSounding m q .wrongLength, 0x99#8),
    (.getBay m q .wrongLength, 0x9C#8)]
  ++ [(.setGauge m q .wrongLength, 0xA0#8), (.setRule m q .wrongLength, 0xA1#8), (.forecast m q .wrongLength, 0xA2#8),
    (.getRain m q .wrongLength, 0xA3#8), (.readRainMinutes m q .wrongLength, 0xA4#8), (.getOutfall m q .wrongLength, 0xA8#8),
    (.closePeriod m q .wrongLength, 0xA9#8), (.readSpills m q .wrongLength, 0xAC#8), (.releaseSpills m q .wrongLength, 0xAD#8),
    (.grant m q .wrongLength, 0xB0#8), (.withdraw m q .wrongLength, 0xB1#8), (.drain m q .wrongLength, 0xB2#8),
    (.stopDrain m q .wrongLength, 0xB3#8), (.reshut m q .wrongLength, 0xB4#8), (.getCredits m q .wrongLength, 0xB5#8),
    (.getPlanner m q .wrongLength, 0xB9#8)]
  ++ [(.setDevice m q .wrongLength, 0xC0#8), (.clearDevice m q .wrongLength, 0xC1#8), (.pollDevice m q .wrongLength, 0xC2#8),
    (.getDevice m q .wrongLength, 0xC3#8), (.setTerminal m q .wrongLength, 0xC8#8), (.setAlarmLine m q .wrongLength, 0xC9#8),
    (.getTerminals m q .wrongLength, 0xCA#8)]

/-! ### Bytes on the lines -/

/-- A field of a layout table: where it stands, how many bytes it has, and its value (R209 to R215). -/
structure WireField where
  offset : Nat
  width : Nat
  value : Nat

/-- The number that bytes hold at an offset, most significant byte first (R208). -/
def fieldAt (bytes : List Byte) (offset width : Nat) : Nat := beNat ((bytes.drop offset).take width)

/-- Bytes hold every field of a layout; of a value too large for its width they hold the low bytes. -/
def LaidOut (bytes : List Byte) (fields : List WireField) : Prop :=
  ∀ f ∈ fields, fieldAt bytes f.offset f.width = f.value % 256 ^ f.width

/-- A flag bit of a flag byte. -/
def flagBit (bit : Nat) (b : Bool) : Nat := if b then 2 ^ bit else 0

/-- The layout of the detail of DRAIN_DONE, DRAIN_CANCELLED and DRAIN_FAULT (R213). -/
def drainLayout (d : DrainDetail) : List WireField :=
  [⟨0, 2, d.lots⟩, ⟨2, 4, d.total⟩, ⟨6, 1, d.cause.code⟩, ⟨7, 1, 16 * Failure.code d.failure + ClosingCause.code d.closing⟩]

/-- The code of a notice kind and the named bytes of its detail (R213). -/
def detailLayout : NoticeDetail → Nat × List WireField
  | .started cause loss spills clockSet => (1, [⟨0, 1, cause.code⟩, ⟨1, 4, loss.getD 0⟩, ⟨5, 1, spills⟩, ⟨6, 1, flagBit 0 clockSet⟩])
  | .modeChanged old new origin => (2, [⟨0, 1, old.code⟩, ⟨1, 1, new.code⟩, ⟨2, 1, origin.code⟩])
  | .alertChanged old new cause => (3, [⟨0, 1, old.rank⟩, ⟨1, 1, new.rank⟩, ⟨2, 1, cause.code⟩])
  | .spillStarted id cls block head => (4, [⟨0, 4, id.getD 0⟩, ⟨4, 1, cls.code⟩, ⟨5, 1, block.code⟩, ⟨6, 2, (head % 65536).toNat⟩])
  | .spillEnded id cause minutes => (5, [⟨0, 4, id.getD 0⟩, ⟨4, 1, EndCause.code (some cause)⟩, ⟨5, 2, min minutes 65535⟩])
  | .blockCarried id seconds blocks => (6, [⟨0, 4, id.getD 0⟩, ⟨4, 3, seconds⟩, ⟨7, 1, min blocks 255⟩])
  | .logFull id above openRecords => (7, [⟨0, 4, id⟩, ⟨4, 1, above⟩, ⟨5, 1, openRecords⟩])
  | .drainDone d => (8, drainLayout d)
  | .drainCancelled d => (9, drainLayout d)
  | .drainFault d => (10, drainLayout d)
  | .creditsWanted eligible free => (11, [⟨0, 1, eligible⟩, ⟨1, 1, free⟩])
  | .creditExpired lost expiry pool => (12, [⟨0, 1, lost⟩, ⟨1, 4, expiry⟩, ⟨5, 2, pool⟩])
  | .gaugeFault result bad fault => (13, [⟨0, 1, result.code⟩, ⟨1, 1, bad⟩, ⟨2, 1, DriveFault.code fault⟩])
  | .gaugeRecovered bad => (14, [⟨0, 1, bad⟩])
  | .floatDisagree value height quality => (15, [⟨0, 2, value⟩, ⟨2, 2, height⟩, ⟨4, 1, quality.code⟩])
  | .rainGaugeStuck terminal stuck => (16, [⟨0, 1, terminal⟩, ⟨1, 1, stuck⟩])
  | .supplyFault expiries bay => (17, [⟨0, 1, expiries⟩, ⟨1, 1, bay⟩])
  | .deviceFault state cause command address => (18, [⟨0, 1, state.code⟩, ⟨1, 1, cause.code⟩, ⟨2, 1, command.code⟩, ⟨3, 1, address⟩])
  | .deviceRestored old new => (19, [⟨0, 1, old.code⟩, ⟨1, 1, new.code⟩])

/-- The codes of the named values that the outgoing bytes carry, each list in the order of its table (R210, R213, R214, R215). -/
def CodesFollowTheTables : Prop :=
  [Result.ok, .accepted, .refusedKind, .refusedLength, .refusedRange, .refusedState, .refusedFull, .refusedUnconfigured].map Result.code
    = [0, 1, 2, 3, 4, 5, 6, 7]
  ∧ [Mode.dry, .watch, .storm, .recovery, .maintenance].map Mode.code = [0, 1, 2, 3, 4]
  ∧ [Alert.none, .advisory, .warning, .severe].map Alert.rank = [0, 1, 2, 3]
  ∧ [StartCause.cold, .warm, .restart].map StartCause.code = [0, 1, 2] ∧ [ModeOrigin.site, .host].map ModeOrigin.code = [0, 1]
  ∧ [AlertCause.rule, .slot].map AlertCause.code = [0, 1] ∧ [SpillClass.rain, .dry].map SpillClass.code = [0, 1]
  ∧ [BlockOutcome.opened, .merged].map BlockOutcome.code = [0, 1]
  ∧ [none, some EndCause.ended, some .powerLoss, some .restart].map EndCause.code = [0, 1, 2, 3]
  ∧ [none, some DriveFault.stuck, some .short].map DriveFault.code = [0, 1, 2]
  ∧ [DrainCause.done, .host, .planner, .stalled, .openFailed, .deviceFailed, .shutRecovered, .shutFailed, .reshutFailed].map DrainCause.code
    = [0, 1, 2, 3, 4, 5, 6, 7, 8]
  ∧ [none, some Failure.lost, some .faulted, some .hand, some .superseded].map Failure.code = [0, 1, 2, 3, 4]
  ∧ [none, some ClosingCause.done, some .gap, some .cancel, some .stalled, some .worksStop, some .gauge, some .openFailed,
      some .deviceFailed].map ClosingCause.code = [0, 1, 2, 3, 4, 5, 6, 7, 8]
  ∧ [ReadingResult.good, .lostEcho, .outOfRange, .driveFault, .interfered].map ReadingResult.code = [0, 1, 2, 3, 4]
  ∧ [Quality.none, .good, .held, .float, .stale].map Quality.code = [0, 1, 2, 3, 4]
  ∧ [DeviceStateName.unknown, .closed, .opened, .moving, .faulted, .lost, .hand].map DeviceStateName.code = [0, 1, 2, 3, 4, 5, 6]
  ∧ [AnnouncedCause.reported, .busy, .moveTimeout, .timeout, .badReply, .hand].map AnnouncedCause.code = [1, 2, 3, 4, 5, 6]
  ∧ [LineCommand.engage, .release, .reset, .query].map LineCommand.code = [1, 2, 3, 4]

/-! ### Last outcomes -/

/-- From `s` to `t` the last outcome of a device becomes the given one, or that of a drive entry of the device that waited out a back-off in `s`
and that a new command has superseded on the way (R162, R171; log entry 23). -/
def LastFollows (s t : State) (d : Fin 16) (given : Option LastOutcome) : Prop :=
  t.last d = given ∨ ∃ e ∈ s.act.queue, e.device = d ∧ e.command ≠ .query ∧ e.notBefore.isSome = true
    ∧ t.last d = some { command := e.command, orig := e.orig, outcome := .superseded, time := t.now }

/-- A command of an originator stands with the actuator line: it waits in the queue, or it is that of the current transaction (R161 to R163). -/
def CommandStands (t : State) (d : Fin 16) (c : LineCommand) (orig : Originator) : Prop :=
  (∃ e ∈ t.act.queue, e.device = d ∧ e.command = c ∧ e.orig = orig)
    ∨ ∃ x, t.act.current = some x ∧ x.device = d ∧ x.command = c ∧ x.orig = orig

/-! ### Open records and their closes -/

/-- From `s` to `t` the open record of an outfall has changed by `f`, in its place in the log or in its outfall's slot; every other record, every
id and the next id are as they were (R103, R105). -/
def OpenRecordChanges (s t : State) (k : Fin 4) (f : SpillRecord → SpillRecord) : Prop :=
  t.ret.log = s.ret.log.map (fun e =>
    if e.record.outfall = k ∧ e.record.openSpill.isSome = true then { e with record := f e.record } else e)
  ∧ (∀ j, t.ret.slots.at_ j = (s.ret.slots.at_ j).map fun r => if j = k ∧ r.openSpill.isSome = true then f r else r)
  ∧ t.ret.nextId = s.ret.nextId

/-- A record whose open spill has closed (R104, R107): the spill's duration is added to that of the spills closed before it, which is 0 on a
single record (at its top by log entry 67), and the end and its cause are written; the volume, the peak head, the blocks, the start and the
flags but CLOCK_UNSET stay as last written. A record without an open spill is left alone. -/
def spillClosed (s : State) (finish : Nat) (cause : EndCause) (r : SpillRecord) : SpillRecord :=
  match r.openSpill with
  | some o => { r with
      duration := min 4294967295 (r.duration + (finish - o.start)), finish := some (written s finish), cause := some cause
      clockUnset := r.clockUnset || !s.ret.clockSet, openSpill := none }
  | none => r

/-- The counts of an outfall after the close of its open spill: the current period is credited with its duration and its volume (R90, R91). -/
def periodCredited (finish : Nat) (o : OpenSpill) (c : OutfallCounts) : OutfallCounts :=
  { c with current := { c.current with duration := min 4294967295 (c.current.duration + (finish - o.start))
                                       volume := min 4294967295 (c.current.volume + o.volume) } }

/-- The open spills of the retained contents with their outfalls and the ids of their records, none for an aggregate, in the order in which a
start closes them: those of the log in id order, then those of the slots in outfall order (R192). -/
def openSpills (s : State) : List (Fin 4 × Option Nat × OpenSpill) :=
  s.ret.log.filterMap (fun e => e.record.openSpill.map fun o => (e.record.outfall, some e.id, o))
    ++ (List.finRange 4).filterMap fun k => (s.ret.slots.at_ k).bind fun r => r.openSpill.map fun o => (k, none, o)

/-- The retained contents after the closes of all open spills with one end time and one end cause, and before the transfer test (R90, R192). -/
def allClosed (s : State) (finish : Nat) (cause : EndCause) : Retained :=
  { s.ret with
    log := s.ret.log.map fun e => { e with record := spillClosed s finish cause e.record }
    slots := Vector.ofFn fun k => (s.ret.slots.at_ k).map (spillClosed s finish cause)
    counts := Vector.ofFn fun k => match (openSpills s).find? fun x => x.1 == k with
      | some x => periodCredited finish x.2.2 (s.ret.counts.at_ k)
      | none => s.ret.counts.at_ k }

/-! ### Transfers -/

/-- One closed aggregate of a slot goes into the log before another (R108). -/
def GoesFirst (x y : Fin 4 × SpillRecord) : Prop :=
  x.2.firstStart < y.2.firstStart ∨ (x.2.firstStart = y.2.firstStart ∧ x.1 < y.1)

/-- The notice of a transfer test whose last transfer has filled the log (R108, R114). -/
def logFilled (last : SpillRecord) (s : State) : State :=
  match s.ret.log.head?, s.ret.log.getLast? with
  | some oldest, some newest =>
    if s.ret.log.length = 48 then
      post last.outfall.val (.logFull newest.id (newest.id - oldest.id) (s.ret.log.countP fun e => e.record.openSpill.isSome)) s
    else s
  | _, _ => s

/-- From `s`, a transfer test has left `t` after `n` transfers (R108, R114): closed aggregates, each as its slot held it, have entered the log
at its newest end, the first to go first, with the next ids in order, and their slots are empty; every closed aggregate that is left goes after
them, and is left because the log takes no more. Nothing else has changed, but for the notice where the log has become full. -/
def Transferred (s t : State) (n : Nat) : Prop :=
  ∃ moved : List (Fin 4 × SpillRecord),
    n = moved.length
    ∧ (∀ x ∈ moved, s.ret.slots.at_ x.1 = some x.2 ∧ x.2.openSpill = none)
    ∧ moved.Pairwise GoesFirst
    ∧ (∀ k r, s.ret.slots.at_ k = some r → r.openSpill = none → (k, r) ∉ moved →
      (∀ x ∈ moved, GoesFirst x (k, r)) ∧ (48 ≤ t.ret.log.length ∨ t.ret.nextId = none))
    ∧ (moved = [] ∨ s.ret.log.length + n ≤ 48)
    ∧ (s.ret.nextId = none → moved = [] ∧ t.ret.log = s.ret.log ∧ t.ret.nextId = none)
    ∧ (∀ id, s.ret.nextId = some id → t.ret.log = s.ret.log ++ moved.mapIdx (fun i x => { id := id + i, record := x.2 })
      ∧ (id ≤ 4294967295 → t.ret.nextId = if id + n = 4294967296 then none else some (id + n)))
    ∧ (∀ k, t.ret.slots.at_ k = if ∃ x ∈ moved, x.1 = k then none else s.ret.slots.at_ k)
    ∧ let left := s.withRet { s.ret with log := t.ret.log, nextId := t.ret.nextId, slots := t.ret.slots }
      t = match moved.getLast? with
        | some x => logFilled x.2 left
        | none => left

/-! ### Drain orders -/

/-- The lot credit of a bay's order `o` is forfeited, where it holds one, and the order becomes `x` without a lot (R133; log entry 67). -/
def creditForfeited (b : Fin 8) (o x : Order) (s : State) : State :=
  let c := s.drn.counters
  let total := match o.lot with
    | some l => if o.credit then min 4294967295 (o.total + l.drained.toNat) else o.total
    | none => o.total
  (s.withCounters (if o.credit then { c with forfeited := min 4294967295 (c.forfeited + 1) } else c)).setOrder b
    (some { x with credit := false, lot := none, total := total })

/-- The sounding interval of a bay follows where its order has left RUNNING (R39, R129). -/
def leftRunning (b : Fin 8) (o : Order) (s : State) : State := if o.state = .running then intervalChanged b s else s

/-- The lot of a bay's order `o` has been overtaken in `s`: the credit is forfeited, the order is in CLOSING with a closing cause and a
failure, and RELEASE has been put to the drain device (R128, R133, R134, R138, R140). -/
def overtaken (b : Fin 8) (o : Order) (holds : HoldCauses) (cause : ClosingCause) (failure : Option Failure) (s : State) : State :=
  leftRunning b o (putForOrder b .release
    (creditForfeited b o { o with holds := holds, state := .closing, closing := some cause, failure := failure } s))

/-- From `s`, the order of a bay, which held a slot, has been retired with a notice, and `t` is left (R125): it is removed, the notice is
posted, the site model and the planner take the retirement in a free order (log entry 7), and slot grant runs. -/
def Retired (s t : State) (b : Fin 8) (notice : NoticeDetail) : Prop :=
  let left := dropChoice (post b.val notice (s.setOrder b none))
  (t = slotGrant (plannerTake (evaluateMode left)) ∨ t = slotGrant (evaluateMode (plannerTake left)))
  ∧ (s.free.schedule = [] → t = slotGrant (plannerTake (evaluateMode left)))

/-- From `s`, the order `o` of a bay has learned that its drain device is LOCAL, which leaves `t` (R123, R139). -/
def TakesHand (s t : State) (b : Fin 8) (o : Order) : Prop :=
  let holds := { o.holds with hand := true }
  match o.state with
  | .opening | .running =>
    let released := creditForfeited b o { o with holds := holds, state := .held } s
    t = slotGrant (leftRunning b o (match (s.bay b).device with
      | some d => released.withAct { s.act with
          queue := s.act.queue.filter fun e => !(e.device == d && e.command == .engage && e.orig == .order b) }
      | none => released))
  | .queued | .held => t = s.setOrder b (some { o with holds := holds, state := .held })
  | .closing | .suspect => t = s.setOrder b (some { o with holds := holds })

/-! ### The ends of a sounding -/

/-- The bay of a sounding that has ended has its fresh entry in the queue, or the engine has taken it at once (R32, R35, R38). -/
def FreshEntryJoined (t : State) (bay : Fin 8) (due : Nat) : Prop :=
  freshEntry bay due ∈ t.snd.queue
    ∨ ∃ g, t.snd.engine = some g ∧ g.bay = bay ∧ g.due = due ∧ g.attempt = 0 ∧ g.urgent = none ∧ g.joined = false ∧ g.discard = false

/-- From `s`, a sounding has finished at the moment of `u` with a reading, which leaves `t` (R32, R38, R40, R41): the reading is the bay's
last, channel health has taken the result, the level keeper the completion, the bay's fresh entry has joined at the interval that then applies,
the engine has become idle, and no other bay's level, reading or channel has changed (the order is log entry 9). -/
def FinishedWith (s u t : State) (f : InFlight) (result : ReadingResult) (level : Option Nat) (fault : Option DriveFault)
    (nanos : Option Nat) : Prop :=
  let c := s.snd.channels.at_ f.bay
  let n := min 255 (c.bad + 1)
  let last := s.snd.last.put f.bay (some { bay := f.bay, result := result, level := level, driveFault := fault, weak := f.weak,
                                           gateNanos := nanos, attempts := f.attempt + 1, joined := f.joined, time := u.now })
  let channels := s.snd.channels.put f.bay
    (if result = .good then { health := .ok, bad := 0 }
    else { health := if s.image.sounding.faultLimit ≤ n then .failed else c.health, bad := n })
  let fails : Bool := result ≠ .good ∧ c.health = .ok ∧ s.image.sounding.faultLimit ≤ n
  let read := u.withSnd { s.snd with last := last, channels := channels }
  let heard :=
    if result = .good ∧ c.health = .failed then post f.bay.val (.gaugeRecovered c.bad) read
    else if fails then post f.bay.val (.gaugeFault result n fault) read
    else read
  let kept := levelCompletion f.bay level u.now fails heard
  t = refreshAlarms (engineIdle (queueEntry (freshEntry f.bay (u.now + applicableInterval kept f.bay)) kept))
  ∧ t.snd.last = last ∧ t.snd.channels = channels
  ∧ FreshEntryJoined t f.bay (u.now + applicableInterval t f.bay)
  ∧ (∀ b, b ≠ f.bay → t.level b = s.level b) ∧ t.image = s.image ∧ t.rain = s.rain ∧ t.act.devices = s.act.devices
  ∧ ∀ d, LastFollows s t d (s.last d)

/-- From `s`, a sounding marked to be discarded has ended at the moment of `u`, which leaves `t` (R7, R32): the bay's fresh entry, due at once,
has joined where the bay is enabled, and no reading, channel or level has changed. -/
def DiscardEnded (s u t : State) (f : InFlight) : Prop :=
  ((s.bay f.bay).enabled = true → FreshEntryJoined t f.bay u.now)
  ∧ t.snd.last = s.snd.last ∧ t.snd.channels = s.snd.channels ∧ t.lvl = s.lvl ∧ t.image = s.image ∧ t.ret = u.ret ∧ t.rain = s.rain
  ∧ t.spill = s.spill ∧ t.drn = s.drn ∧ t.act = s.act

/-! ### Frames -/

/-- What the reactions of the site model, the planner, the drain scheduler, the drive supply and the two queues never touch: everything
but the mode, the engine with its queue and its supply, the drain scheduler, the waiting queue, the current transaction and the last
outcomes of the actuator line, the notices, and the free values. -/
structure Kept where
  pending : List Instr
  run : Run
  backup : Bool
  clock : Clock
  image : Image
  ret : Retained
  channels : Tab 8 Channel
  last : Tab 8 (Option Reading)
  expiries : Nat
  lvl : Levels
  rain : Rain
  spill : Tab 4 OutfallVol
  inhibit : Tab 8 (Option InhibitCause)
  devices : Tab 16 DeviceVol
  term : Terminals
  receiver : Receiver
  slot : Option HostMessage
  answering : Option Reply
  frameLost : Bool

/-- The kept part of a state. -/
def kept (s : State) : Kept :=
  { pending := s.pending, run := s.run, backup := s.backup, clock := s.clock, image := s.image, ret := s.ret
    channels := s.snd.channels, last := s.snd.last, expiries := s.snd.expiries, lvl := s.lvl, rain := s.rain, spill := s.spill
    inhibit := s.inhibit, devices := s.act.devices, term := s.term, receiver := s.port.receiver, slot := s.port.slot
    answering := s.port.answering, frameLost := s.port.frameLost }

/-- What no command but its own changes: the waiting commands, the backup supply, and the levels at the pins. -/
structure Fixed where
  pending : List Instr
  backup : Bool
  pins : BitVec 12
  deriving DecidableEq, Repr

/-- The fixed part of a state. -/
def fixed (s : State) : Fixed := { pending := s.pending, backup := s.backup, pins := s.term.pins }

end Sys2Proof.Machine
end

