-- ==== Sys2Proof/WellFormed.lean ====
section
/-! DEFINITION. Which commands can come to the part: every operand fits the bytes or the count that carries it. -/

namespace Sys2Proof

/-- A number fits one byte. -/
def fits8 (n : Nat) : Bool := decide (n < 256)
/-- A number fits two bytes (R208). -/
def fits16 (n : Nat) : Bool := decide (n < 65536)
/-- A number fits four bytes (R208). -/
def fits32 (n : Nat) : Bool := decide (n < 4294967296)

/-- A body of the right length has fields that fit; a body of another length has none (R212). -/
def Body.fits {α : Type} (f : α → Bool) : Body α → Bool
  | .wrongLength => true
  | .fields x => f x

/-- A stage point as sent: a level of two bytes and a volume of four (R212). -/
def StagePoint.fits (p : StagePoint) : Bool := fits16 p.level && fits32 p.volume
/-- A weir point as sent: a head of two bytes and a flow of four (R212). -/
def WeirPoint.fits (p : WeirPoint) : Bool := fits16 p.head && fits32 p.flow

/-- The SOUNDING group as sent (R212). -/
def SoundingParams.fits (p : SoundingParams) : Bool :=
  fits8 p.charge && fits8 p.stuck && fits16 p.speed && fits8 p.drain && fits16 p.dry && fits16 p.watch && fits16 p.storm && fits16 p.recovery
    && fits16 p.maintenance && fits8 p.faultLimit

/-- The DRAIN group as sent (R212). -/
def DrainParams.fits (p : DrainParams) : Bool := fits8 p.slots && fits16 p.lotVolume && fits16 p.lotTime

/-- The ACTUATOR group as sent (R212). -/
def ActuatorParams.fits (p : ActuatorParams) : Bool :=
  fits8 p.timeout && fits8 p.retries && fits16 p.nakBackoff && fits8 p.nakLimit && fits8 p.poll

/-- SET_BAY as sent: 8 stage points always (R212). -/
def BayFields.fits (f : BayFields) : Bool :=
  fits8 f.bay && fits8 f.enabled && fits8 f.frequency && fits8 f.pulses && fits8 f.blanking && fits8 f.step && fits8 f.tolerance
    && fits16 f.mounting && fits16 f.empty && fits16 f.fill && fits16 f.drawdown && fits16 f.high && fits16 f.crest && fits16 f.slew
    && fits8 f.dest && fits8 f.device && fits8 f.rank && fits16 f.floatHeight && fits8 f.count
    && decide (f.points.length = 8) && f.points.all StagePoint.fits

/-- SET_OUTFALL as sent: 8 weir points always (R212). -/
def OutfallFields.fits (f : OutfallFields) : Bool :=
  fits8 f.outfall && fits8 f.onset && fits8 f.hysteresis && fits16 f.tail && fits8 f.blockHours && fits8 f.count
    && decide (f.points.length = 8) && f.points.all WeirPoint.fits

/-- SET_GAUGE as sent (R212). -/
def GaugeFields.fits (f : GaugeFields) : Bool := fits8 f.gauge && fits8 f.enabled && fits16 f.tipDepth && fits16 f.dead && fits8 f.stuck

/-- SET_RULE as sent: 4 gauges always (R212). -/
def RuleFields.fits (f : RuleFields) : Bool :=
  fits8 f.rule && fits8 f.level && fits8 f.count && decide (f.gauges.length = 4) && f.gauges.all fits8 && fits8 f.combine && fits8 f.window
    && fits32 f.raise && fits32 f.clear && fits8 f.hold

/-- FORECAST as sent (R212). -/
def ForecastFields.fits (f : ForecastFields) : Bool := fits8 f.slot && fits8 f.level && fits16 f.delay && fits16 f.duration

/-- READ_SPILLS as sent (R212). -/
def ReadSpillsFields.fits (f : ReadSpillsFields) : Bool := fits32 f.fromId && fits8 f.count

/-- GRANT as sent (R212). -/
def GrantFields.fits (f : GrantFields) : Bool := fits8 f.count && fits16 f.lifetime

/-- DRAIN as sent (R212). -/
def DrainFields.fits (f : DrainFields) : Bool := fits8 f.bay && fits8 f.lots && fits16 f.target

/-- SET_DEVICE as sent (R212). -/
def DeviceFields.fits (f : DeviceFields) : Bool :=
  fits8 f.device && fits8 f.configured && fits8 f.address && fits8 f.kind && fits8 f.completion && fits16 f.limit

/-- SET_TERMINAL as sent (R212). -/
def TerminalFields.fits (f : TerminalFields) : Bool := fits8 f.terminal && fits8 f.function && fits8 f.parameter && fits8 f.polarity

/-- SET_ALARM_LINE as sent (R212). -/
def AlarmFields.fits (f : AlarmFields) : Bool := fits8 f.line && fits8 f.condition && fits8 f.level && fits8 f.grouping

/-- The request kinds that the table of message kinds lists (R211). -/
def listedKinds : List Nat :=
  [0x01, 0x02, 0x03, 0x04, 0x05, 0x08, 0x10, 0x11, 0x12, 0x18, 0x19, 0x1C] ++ [0x20, 0x21, 0x22, 0x23, 0x24, 0x28, 0x29, 0x2C, 0x2D]
    ++ [0x30, 0x31, 0x32, 0x33, 0x34, 0x35, 0x38, 0x39] ++ [0x40, 0x41, 0x42, 0x43, 0x48, 0x49, 0x4A]

/-- The last of some bytes is a length byte above 240 (R195). -/
def endsOverlong (bytes : List Byte) : Bool := match bytes.getLast? with
  | some b => decide (240 < b.toNat)
  | none => false

/-- A command can come to the part. -/
def Instr.wf : Instr → Bool
  | .getStatus _ _ b => b.fits fun _ => true
  | .fetchNotices _ _ b => b.fits fits8
  | .getClock _ _ b => b.fits fun _ => true
  | .setClock _ _ b => b.fits fits32
  | .restart _ _ b => b.fits fun _ => true
  | .setParamsSounding _ _ b => b.fits SoundingParams.fits
  | .setParamsLevel _ _ b => b.fits fits8
  | .setParamsRain _ _ b => b.fits fits8
  | .setParamsDrain _ _ b => b.fits DrainParams.fits
  | .setParamsPlanner _ _ b => b.fits fits16
  | .setParamsActuator _ _ b => b.fits ActuatorParams.fits
  | .setBay _ _ b => b.fits BayFields.fits
  | .setOutfall _ _ b => b.fits OutfallFields.fits
  | .setModeMaintenance _ _ => true
  | .setModeAutomatic _ _ => true
  | .sound _ _ b => b.fits fits8
  | .getSounding _ _ b => b.fits fun _ => true
  | .getBay _ _ b => b.fits fits8
  | .setGauge _ _ b => b.fits GaugeFields.fits
  | .setRule _ _ b => b.fits RuleFields.fits
  | .forecast _ _ b => b.fits ForecastFields.fits
  | .getRain _ _ b => b.fits fun _ => true
  | .readRainMinutes _ _ b => b.fits fits8
  | .getOutfall _ _ b => b.fits fits8
  | .closePeriod _ _ b => b.fits fits8
  | .readSpills _ _ b => b.fits ReadSpillsFields.fits
  | .releaseSpills _ _ b => b.fits fits32
  | .grant _ _ b => b.fits GrantFields.fits
  | .withdraw _ _ b => b.fits fits16
  | .drain _ _ b => b.fits DrainFields.fits
  | .stopDrain _ _ b => b.fits fits8
  | .reshut _ _ b => b.fits fits8
  | .getCredits _ _ b => b.fits fun _ => true
  | .inhibitAutoOn _ _ bay => fits8 bay
  | .inhibitAutoOff _ _ bay => fits8 bay
  | .getPlanner _ _ b => b.fits fun _ => true
  | .setDevice _ _ b => b.fits DeviceFields.fits
  | .clearDevice _ _ b => b.fits fits8
  | .pollDevice _ _ b => b.fits fits8
  | .getDevice _ _ b => b.fits fits8
  | .setTerminal _ _ b => b.fits TerminalFields.fits
  | .setAlarmLine _ _ b => b.fits AlarmFields.fits
  | .getTerminals _ _ b => b.fits fun _ => true
  | .unknownKindRequest _ _ kind => !listedKinds.contains kind.toNat
  | .hostFrameComplete _ bytes => !bytes.isEmpty
  | .hostLengthOver240 _ bytes => endsOverlong bytes
  | .hostFrameGap _ _ _ => true
  | .hostLineBreak _ _ => true
  | .replySent _ => true
  | .soundingDue _ _ => true
  | .soundingBackoffPassed _ _ => true
  | .supplyReady _ => true
  | .chargeDeadlineExpired _ => true
  | .driveStuck _ => true
  | .burstEnd _ _ => true
  | .echoCrossing _ _ => true
  | .listenWindowEnd _ => true
  | .soundingGateComplete _ nanos => decide (0 < nanos)
  | .soundingGateTimeout _ => true
  | .tailDeadline _ _ => true
  | .blockEndReached _ _ => true
  | .debounceComplete _ _ => true
  | .gaugeStuckDeadline _ _ => true
  | .minuteRoll _ => true
  | .forecastSlotStart _ _ => true
  | .forecastSlotEnd _ _ => true
  | .grantExpiry _ => true
  | .lotDeadline _ _ => true
  | .actuatorReply _ bytes => !bytes.isEmpty
  | .actuatorResponseTimeout _ => true
  | .actuatorNakBackoffPassed _ _ => true
  | .devicePollDue _ _ => true
  | .movementDeadline _ _ => true
  | .mainPowerFail _ => true
  | .backupSupplyLoss _ => true
  | .start _ => true
  | .backupSupplyReturn _ => true

/-- The moment of a command (log entry 1). -/
def Instr.moment : Instr → Moment
  | .getStatus m _ _ => m
  | .fetchNotices m _ _ => m
  | .getClock m _ _ => m
  | .setClock m _ _ => m
  | .restart m _ _ => m
  | .setParamsSounding m _ _ => m
  | .setParamsLevel m _ _ => m
  | .setParamsRain m _ _ => m
  | .setParamsDrain m _ _ => m
  | .setParamsPlanner m _ _ => m
  | .setParamsActuator m _ _ => m
  | .setBay m _ _ => m
  | .setOutfall m _ _ => m
  | .setModeMaintenance m _ => m
  | .setModeAutomatic m _ => m
  | .sound m _ _ => m
  | .getSounding m _ _ => m
  | .getBay m _ _ => m
  | .setGauge m _ _ => m
  | .setRule m _ _ => m
  | .forecast m _ _ => m
  | .getRain m _ _ => m
  | .readRainMinutes m _ _ => m
  | .getOutfall m _ _ => m
  | .closePeriod m _ _ => m
  | .readSpills m _ _ => m
  | .releaseSpills m _ _ => m
  | .grant m _ _ => m
  | .withdraw m _ _ => m
  | .drain m _ _ => m
  | .stopDrain m _ _ => m
  | .reshut m _ _ => m
  | .getCredits m _ _ => m
  | .inhibitAutoOn m _ _ => m
  | .inhibitAutoOff m _ _ => m
  | .getPlanner m _ _ => m
  | .setDevice m _ _ => m
  | .clearDevice m _ _ => m
  | .pollDevice m _ _ => m
  | .getDevice m _ _ => m
  | .setTerminal m _ _ => m
  | .setAlarmLine m _ _ => m
  | .getTerminals m _ _ => m
  | .unknownKindRequest m _ _ => m
  | .hostFrameComplete m _ => m
  | .hostLengthOver240 m _ => m
  | .hostFrameGap m _ _ => m
  | .hostLineBreak m _ => m
  | .replySent m => m
  | .soundingDue m _ => m
  | .soundingBackoffPassed m _ => m
  | .supplyReady m => m
  | .chargeDeadlineExpired m => m
  | .driveStuck m => m
  | .burstEnd m _ => m
  | .echoCrossing m _ => m
  | .listenWindowEnd m => m
  | .soundingGateComplete m _ => m
  | .soundingGateTimeout m => m
  | .tailDeadline m _ => m
  | .blockEndReached m _ => m
  | .debounceComplete m _ => m
  | .gaugeStuckDeadline m _ => m
  | .minuteRoll m => m
  | .forecastSlotStart m _ => m
  | .forecastSlotEnd m _ => m
  | .grantExpiry m => m
  | .lotDeadline m _ => m
  | .actuatorReply m _ => m
  | .actuatorResponseTimeout m => m
  | .actuatorNakBackoffPassed m _ => m
  | .devicePollDue m _ => m
  | .movementDeadline m _ => m
  | .mainPowerFail m => m
  | .backupSupplyLoss m => m
  | .start e => e.moment
  | .backupSupplyReturn m => m

/-- The command at another moment. -/
def Instr.withMoment (m : Moment) : Instr → Instr
  | .getStatus _ x y => .getStatus m x y
  | .fetchNotices _ x y => .fetchNotices m x y
  | .getClock _ x y => .getClock m x y
  | .setClock _ x y => .setClock m x y
  | .restart _ x y => .restart m x y
  | .setParamsSounding _ x y => .setParamsSounding m x y
  | .setParamsLevel _ x y => .setParamsLevel m x y
  | .setParamsRain _ x y => .setParamsRain m x y
  | .setParamsDrain _ x y => .setParamsDrain m x y
  | .setParamsPlanner _ x y => .setParamsPlanner m x y
  | .setParamsActuator _ x y => .setParamsActuator m x y
  | .setBay _ x y => .setBay m x y
  | .setOutfall _ x y => .setOutfall m x y
  | .setModeMaintenance _ x => .setModeMaintenance m x
  | .setModeAutomatic _ x => .setModeAutomatic m x
  | .sound _ x y => .sound m x y
  | .getSounding _ x y => .getSounding m x y
  | .getBay _ x y => .getBay m x y
  | .setGauge _ x y => .setGauge m x y
  | .setRule _ x y => .setRule m x y
  | .forecast _ x y => .forecast m x y
  | .getRain _ x y => .getRain m x y
  | .readRainMinutes _ x y => .readRainMinutes m x y
  | .getOutfall _ x y => .getOutfall m x y
  | .closePeriod _ x y => .closePeriod m x y
  | .readSpills _ x y => .readSpills m x y
  | .releaseSpills _ x y => .releaseSpills m x y
  | .grant _ x y => .grant m x y
  | .withdraw _ x y => .withdraw m x y
  | .drain _ x y => .drain m x y
  | .stopDrain _ x y => .stopDrain m x y
  | .reshut _ x y => .reshut m x y
  | .getCredits _ x y => .getCredits m x y
  | .inhibitAutoOn _ x y => .inhibitAutoOn m x y
  | .inhibitAutoOff _ x y => .inhibitAutoOff m x y
  | .getPlanner _ x y => .getPlanner m x y
  | .setDevice _ x y => .setDevice m x y
  | .clearDevice _ x y => .clearDevice m x y
  | .pollDevice _ x y => .pollDevice m x y
  | .getDevice _ x y => .getDevice m x y
  | .setTerminal _ x y => .setTerminal m x y
  | .setAlarmLine _ x y => .setAlarmLine m x y
  | .getTerminals _ x y => .getTerminals m x y
  | .unknownKindRequest _ x y => .unknownKindRequest m x y
  | .hostFrameComplete _ x => .hostFrameComplete m x
  | .hostLengthOver240 _ x => .hostLengthOver240 m x
  | .hostFrameGap _ x y => .hostFrameGap m x y
  | .hostLineBreak _ x => .hostLineBreak m x
  | .replySent _ => .replySent m
  | .soundingDue _ x => .soundingDue m x
  | .soundingBackoffPassed _ x => .soundingBackoffPassed m x
  | .supplyReady _ => .supplyReady m
  | .chargeDeadlineExpired _ => .chargeDeadlineExpired m
  | .driveStuck _ => .driveStuck m
  | .burstEnd _ x => .burstEnd m x
  | .echoCrossing _ x => .echoCrossing m x
  | .listenWindowEnd _ => .listenWindowEnd m
  | .soundingGateComplete _ x => .soundingGateComplete m x
  | .soundingGateTimeout _ => .soundingGateTimeout m
  | .tailDeadline _ x => .tailDeadline m x
  | .blockEndReached _ x => .blockEndReached m x
  | .debounceComplete _ x => .debounceComplete m x
  | .gaugeStuckDeadline _ x => .gaugeStuckDeadline m x
  | .minuteRoll _ => .minuteRoll m
  | .forecastSlotStart _ x => .forecastSlotStart m x
  | .forecastSlotEnd _ x => .forecastSlotEnd m x
  | .grantExpiry _ => .grantExpiry m
  | .lotDeadline _ x => .lotDeadline m x
  | .actuatorReply _ x => .actuatorReply m x
  | .actuatorResponseTimeout _ => .actuatorResponseTimeout m
  | .actuatorNakBackoffPassed _ x => .actuatorNakBackoffPassed m x
  | .devicePollDue _ x => .devicePollDue m x
  | .movementDeadline _ x => .movementDeadline m x
  | .mainPowerFail _ => .mainPowerFail m
  | .backupSupplyLoss _ => .backupSupplyLoss m
  | .start e => .start { e with moment := m }
  | .backupSupplyReturn _ => .backupSupplyReturn m

end Sys2Proof
end

