-- ==== Sys2Proof/Certificates/Slice0/Obligations.lean ====
section
/-! DEFINITION. The statements for the provers. -/

open Sys2Proof Sys2Proof.Machine

/-! ### The step, the queue, and reset -/

/-- A step runs the command at the front of the queue on the state with the queue's rest; with no command waiting the part idles, which is
the model's choice (log entry 3). -/
def Obligations.StepRunsFrontCommand : Prop :=
  (∀ (c : Instr) (rest : List Instr) (s : State), s.pending = c :: rest → step s = exec c (s.withPending rest))
    ∧ ∀ s : State, s.pending = [] → step s = .next s

/-- Every command answers a next state, in every state. -/
def Obligations.NoCommandStops : Prop := ∀ (c : Instr) (s : State), ∃ t, exec c s = .next t

/-- A command leaves the waiting commands alone, which are the model's own state (log entry 3); the levels at the pins become those of its
moment, which is the model's choice (log entry 1); the backup supply changes by its own two commands alone. -/
def Obligations.CommandsLeaveTheQueue : Prop :=
  ∀ (c : Instr) (s t : State), exec c s = .next t →
    t.pending = s.pending ∧ t.term.pins = c.moment.pins
      ∧ t.backup = (match c with
        | .backupSupplyLoss _ => false
        | .backupSupplyReturn _ => true
        | _ => s.backup)

/-- While the part does not run, a command that is no power event only lets its moment come (the model's choice, log entry 17). -/
def Obligations.StoppedPartOnlyAges : Prop :=
  ∀ (c : Instr) (s : State), s.run ≠ .running → (∀ m, c ≠ .mainPowerFail m) → (∀ m, c ≠ .backupSupplyLoss m) → (∀ e, c ≠ .start e) →
    (∀ m, c ≠ .backupSupplyReturn m) → exec c s = .next (arrive c.moment s)

/-- After reset every record, counter and state has the value that the manual gives it for a cold start, and one STARTED notice waits. The
fields that the manual gives no default are not named (log entry 5); the second of the next minute roll is log entry 31. -/
def Obligations.ResetHoldsColdStartValues : Prop :=
  (∀ b : Fin 8, ((State.reset.bay b).enabled = false ∧ (State.reset.bay b).pulses = 12 ∧ (State.reset.bay b).blanking = 3
      ∧ (State.reset.bay b).tolerance = 8 ∧ (State.reset.bay b).slew = 50)
    ∧ State.reset.level b = { value := none, quality := .none, accepted := none, candidate := none, misses := 0, disagreed := false }
    ∧ State.reset.lvl.floats.at_ b = .absent ∧ State.reset.snd.channels.at_ b = { health := .ok, bad := 0 }
    ∧ State.reset.snd.last.at_ b = none ∧ State.reset.order b = none ∧ State.reset.inhibit.at_ b = none)
  ∧ (∀ k : Fin 4, State.reset.outfall k = { configured := false, onset := 5, hysteresis := 10, tail := 300, blockHours := 12, weir := [] }
    ∧ State.reset.spill.at_ k = { state := .quiet, remainder := 0 } ∧ State.reset.ret.slots.at_ k = none
    ∧ State.reset.ret.counts.at_ k = { current := PeriodSet.begin_ 0, previous := PeriodSet.begin_ 0, blockEnd := 0 })
  ∧ (∀ g : Fin 4, State.reset.image.gauges.at_ g = { enabled := false, tipDepth := 200, dead := 80, stuck := 10 }
    ∧ State.reset.rain.gauges.at_ g = { stuck := false, history := [], minuteStart := 0, total := 0, lastTip := none, stuckDeadline := none })
  ∧ (∀ r : Fin 8, (State.reset.image.rules.at_ r).level = .none ∧ State.reset.rain.rules.at_ r = { state := .disarmed, holdUntil := none })
  ∧ (∀ i : Fin 4, State.reset.rain.slots.at_ i = .empty) ∧ State.reset.rain.nextRoll = 60
  ∧ (∀ d : Fin 16, State.reset.image.devices.at_ d = none
    ∧ State.reset.device d = { state := .unknown, toggle := false, inStep := false, naks := 0, deadline := none, watch := none
                               nextPoll := none }
    ∧ State.reset.last d = none)
  ∧ (∀ t : Fin 12, State.reset.image.terminals.at_ t = { function := .unused, polarity := .activeHigh })
  ∧ (∀ l : Fin 4, (State.reset.image.alarms.at_ l).condition = .off ∧ (State.reset.image.alarms.at_ l).grouping = .site
    ∧ (State.reset.image.alarms.at_ l).mask = 0 ∧ State.reset.term.lineActive.at_ l = false)
  ∧ State.reset.image.sounding = { charge := 50, stuck := 16, speed := 343, drain := 3, dry := 60, watch := 15, storm := 5, recovery := 10,
                                   maintenance := 30, faultLimit := 5 }
  ∧ State.reset.image.staleLimit = 4 ∧ State.reset.image.dryLookback = 6 ∧ State.reset.image.margin = 50
  ∧ State.reset.image.drain = { slots := 1, lotVolume := 500, lotTime := 900 }
  ∧ State.reset.image.actuator = { timeout := 40, retries := 2, nakBackoff := 250, nakLimit := 8, poll := 2 }
  ∧ (State.reset.now = 0 ∧ State.reset.ret.offset = 0 ∧ State.reset.ret.clockSet = false ∧ State.reset.ret.powerLoss = none
    ∧ State.reset.ret.log = [] ∧ State.reset.ret.nextId = some 1 ∧ State.reset.ret.lastRain = none ∧ State.reset.ret.cold = true)
  ∧ State.reset.mode = .dry ∧ State.reset.rain.alert = .none ∧ State.reset.run = .running ∧ State.reset.clock.cause = .cold
  ∧ (State.reset.snd.engine = none ∧ State.reset.snd.supplyOn = false ∧ State.reset.snd.supplyReady = false ∧ State.reset.snd.expiries = 0
    ∧ State.reset.snd.queue = [])
  ∧ (State.reset.drn.grants = [] ∧ State.reset.drn.armed = true
    ∧ State.reset.drn.counters = { granted := 0, consumed := 0, forfeited := 0, expired := 0, withdrawn := 0 })
  ∧ State.reset.act.queue = [] ∧ State.reset.act.current = none ∧ State.reset.term.worksStop = false
  ∧ (State.reset.port.receiver = .hunting ∧ State.reset.port.slot = none ∧ State.reset.port.answering = none
    ∧ State.reset.port.frameLost = false ∧ State.reset.port.noticeLost = false ∧ State.reset.port.nextNumber = 1
    ∧ State.reset.port.notices = [{ subject := 0, number := 0, unset := true, time := 0, detail := .started .cold none 0 false }])

/-- After reset the invariant of the bounded collections holds, the alarm lines and the alert level agree with what they follow, and
thresholds and bus addresses lie in range. -/
def Obligations.InvariantsHoldAtReset : Prop :=
  State.reset.Inv ∧ AlarmsFollow State.reset ∧ AlertFollows State.reset ∧ RecordsInRange State.reset

/-- Every step keeps the invariant of the bounded collections: the notice queue, the spill log with its rising ids, the grant list in
consumption order, the conservation of credits, one waiting sounding a bay, one drive entry and one query entry a device, no more slot
holders than return slots, and a receive slot that is full only while a request is being answered. -/
def Obligations.EveryStepKeepsInvariant : Prop := ∀ s t : State, s.Inv → step s = .next t → t.Inv

/-- Every step keeps each alarm line active exactly where its condition is met (when a line is evaluated is log entry 8). While the part runs, an
ALARM terminal drives the active level of its polarity exactly where its line's condition is met; the pins of inputs are not driven, and none is
while main power is absent. -/
def Obligations.EveryStepKeepsAlarmLines : Prop :=
  (∀ s t : State, AlarmsFollow s → step s = .next t → AlarmsFollow t)
  ∧ ∀ s : State, AlarmsFollow s → ∀ p : Fin 12,
    let r := s.image.terminals.at_ p
    (s.run = .stopped → pinDrive s p = none)
    ∧ ((∀ line, r.function ≠ .alarm line) → pinDrive s p = none)
    ∧ ∀ line, r.function = .alarm line →
      (s.run = .running → r.polarity = .activeHigh → pinDrive s p = some (lineCondition s line))
      ∧ (s.run = .running → r.polarity = .activeLow → pinDrive s p = some (!lineCondition s line))
      ∧ (s.run = .restarting → r.polarity = .activeHigh → pinDrive s p = some (s.term.lineActive.at_ line))
      ∧ (s.run = .restarting → r.polarity = .activeLow → pinDrive s p = some (!s.term.lineActive.at_ line))

/-- Every step keeps the site alert level at the highest of its sources, the rules in RAISED or FADING and the slots in ACTIVE; and it keeps the
thresholds of the enabled bays rising and the bus addresses in range. -/
def Obligations.EveryStepKeepsAlertAndRecords : Prop :=
  ∀ s t : State, step s = .next t → (AlertFollows s → AlertFollows t) ∧ (RecordsInRange s → RecordsInRange t)

/-! ### Check, tables, notices -/

/-- Bytes followed by their check, high byte first, bring the check register to 0. What the part sends is laid out by the tables of the section
Wire formats: the host frame, the reply head, the bodies of FETCH_NOTICES and READ_SPILLS, the notice with the detail of each kind, whose bytes
that are not named are 0, the spill record, and the request frame of the actuator line. Named values have the codes of the tables. A value too
large for its field leaves its low bytes there. That the one field of three bytes, in BLOCK_CARRIED, is sent most significant byte first is the
model's reading (log entry 69). -/
def Obligations.CheckClosesToZero : Prop :=
  (∀ bytes : List Byte, crc16 (bytes ++ checkBytes bytes) = 0#16)
  ∧ CodesFollowTheTables
  ∧ (∀ (seq kind : Byte) (body : List Byte), hostFrame seq kind body
    = 0xA5#8 :: byteOf body.length :: seq :: kind :: (body ++ checkBytes (byteOf body.length :: seq :: kind :: body)))
  ∧ (∀ r : Reply,
    let x := r.summary.flags
    r.head.length = 7 ∧ LaidOut r.head [⟨0, 1, r.result.code⟩, ⟨1, 1, r.summary.mode.code⟩, ⟨2, 1, r.summary.alert.rank⟩,
      ⟨3, 1, r.summary.notices⟩,
      ⟨4, 1, flagBit 0 x.attn + flagBit 1 x.frameLost + flagBit 2 x.noticeLost + flagBit 3 x.clockUnset + flagBit 4 x.logFull
        + flagBit 5 x.worksStop + flagBit 6 x.cold + flagBit 7 x.suspect⟩, ⟨5, 2, r.summary.credits⟩]
    ∧ ∀ b, r.body.bytes? = some b → r.frame? = some (hostFrame r.seq r.kind (r.head ++ b)))
  ∧ ReplyBody.empty.bytes? = some []
  ∧ (∀ (left : Nat) (ns : List Notice), ∃ b, (ReplyBody.notices left ns).bytes? = some b ∧ b.length = 2 + 16 * ns.length
    ∧ LaidOut b [⟨0, 1, ns.length⟩, ⟨1, 1, left⟩] ∧ b.drop 2 = ns.flatMap Notice.bytes)
  ∧ (∀ r : SpillsReport, ∃ b, (ReplyBody.spills r).bytes? = some b ∧ b.length = 14 + 30 * r.records.length
    ∧ LaidOut b [⟨0, 1, r.held⟩, ⟨1, 4, r.oldest.getD 0⟩, ⟨5, 4, r.newest.getD 0⟩, ⟨9, 4, r.next.getD 0⟩, ⟨13, 1, r.records.length⟩]
    ∧ b.drop 14 = r.records.flatMap LogEntry.bytes)
  ∧ (∀ n : Notice, n.bytes.length = 16 ∧ n.bytes.drop 8 = n.detail.bytes
    ∧ LaidOut n.bytes [⟨0, 1, n.detail.code⟩, ⟨1, 1, n.subject⟩, ⟨2, 1, n.number⟩, ⟨3, 1, flagBit 0 n.unset⟩, ⟨4, 4, n.time⟩])
  ∧ (∀ d : NoticeDetail, d.code = (detailLayout d).1 ∧ d.bytes.length = 8 ∧ LaidOut d.bytes (detailLayout d).2
    ∧ ∀ i < 8, (∀ f ∈ (detailLayout d).2, i < f.offset ∨ f.offset + f.width ≤ i) → fieldAt d.bytes i 1 = 0)
  ∧ (∀ e : LogEntry,
    let r := e.record
    e.bytes.length = 30 ∧ LaidOut e.bytes [⟨0, 4, e.id⟩, ⟨4, 1, r.outfall.val⟩, ⟨5, 1, r.cls.code⟩, ⟨6, 4, r.start⟩, ⟨10, 4, r.finish.getD 0⟩,
      ⟨14, 1, EndCause.code r.cause⟩, ⟨15, 4, r.duration⟩, ⟨19, 2, r.peak⟩, ⟨21, 4, r.volume⟩, ⟨25, 2, r.blocks⟩,
      ⟨27, 1, flagBit 0 r.clockUnset + flagBit 1 r.clockLate + flagBit 2 r.gap + flagBit 3 r.aggregate⟩, ⟨28, 2, r.merged⟩])
  ∧ ∀ (s : State) (d : Fin 16) (c : LineCommand) (orig : Originator) (exchange : LineCommand),
    let f := (sendFrame s d c orig exchange).frame
    let toggle := match exchange with
      | .engage | .release => flagBit 0 (s.device d).toggle
      | .reset | .query => 0
    f.length = 6 ∧ f.drop 4 = checkBytes ((f.drop 1).take 3)
    ∧ ∀ r, s.image.devices.at_ d = some r → LaidOut f [⟨0, 1, 0xC3⟩, ⟨1, 1, r.address⟩, ⟨2, 1, exchange.code⟩, ⟨3, 1, toggle⟩]

/-- The flow over a weir whose heads and flows strictly increase from above 0: 0 at or below head 0, the last point's flow from the last
point's head on, and linear interpolation, truncated, between two points, of which (0, 0) is the implied first. -/
def Obligations.WeirFlowFollowsTheTable : Prop :=
  ∀ weir : List WeirPoint, ((⟨0, 0⟩ : WeirPoint) :: weir).Pairwise (fun p q => p.head < q.head ∧ p.flow < q.flow) →
    (∀ h : Int, h ≤ 0 → weirFlow weir h = 0)
    ∧ (∀ (p : WeirPoint) (h : Nat), weir.getLast? = some p → p.head ≤ h → weirFlow weir (h : Int) = p.flow)
    ∧ ∀ (front back : List WeirPoint) (p q : WeirPoint) (h : Nat), (⟨0, 0⟩ : WeirPoint) :: weir = front ++ p :: q :: back →
        p.head ≤ h → h ≤ q.head → weirFlow weir (h : Int) = p.flow + (h - p.head) * (q.flow - p.flow) / (q.head - p.head)

/-- The volume of a level through a stage table whose levels and volumes strictly increase: clamped at both ends, and linear interpolation,
truncated, between two points. -/
def Obligations.VolumeFollowsTheStageTable : Prop :=
  ∀ stage : List StagePoint, stage.Pairwise (fun p q => p.level < q.level ∧ p.volume < q.volume) →
    (∀ (p : StagePoint) (x : Nat), stage.head? = some p → x ≤ p.level → volumeAt stage x = p.volume)
    ∧ (∀ (p : StagePoint) (x : Nat), stage.getLast? = some p → p.level ≤ x → volumeAt stage x = p.volume)
    ∧ ∀ (front back : List StagePoint) (p q : StagePoint) (x : Nat), stage = front ++ p :: q :: back →
        p.level ≤ x → x ≤ q.level → volumeAt stage x = p.volume + (x - p.level) * (q.volume - p.volume) / (q.level - p.level)

/-- A posting takes the next number, from 0 to 255 and then again from 0. A notice posted while fewer than 32 are held joins at the newest end.
A notice posted while 32 are held: the oldest informational notice gives way to it, or it is dropped where none is held; NOTICE_LOST is set, the
others keep their order, and the queue still holds 32. The informational kinds are those with the codes 2, 8, 12, 14 and 19. -/
def Obligations.FullNoticeQueueDropsInformational : Prop :=
  (∀ d : NoticeDetail, d.informational = true ↔ d.code ∈ [2, 8, 12, 14, 19])
  ∧ (∀ (time subject : Nat) (d : NoticeDetail) (s : State),
    (postAt time subject d s).port.nextNumber = (s.port.nextNumber + 1) % 256
    ∧ (s.port.notices.length < 32 → (postAt time subject d s).port.noticeLost = s.port.noticeLost
      ∧ (postAt time subject d s).port.notices = s.port.notices
        ++ [{ subject := subject, number := s.port.nextNumber, unset := !s.ret.clockSet, time := written s time, detail := d }]))
  ∧ ∀ (time subject : Nat) (d : NoticeDetail) (s : State), s.port.notices.length = 32 →
    (postAt time subject d s).port.noticeLost = true ∧ (postAt time subject d s).port.notices.length = 32
    ∧ (∀ (front back : List Notice) (x : Notice), s.port.notices = front ++ x :: back → x.detail.informational = true →
        (∀ y ∈ front, y.detail.informational = false) →
        (postAt time subject d s).port.notices = front ++ back
          ++ [{ subject := subject, number := s.port.nextNumber, unset := !s.ret.clockSet, time := written s time, detail := d }])
    ∧ ((∀ y ∈ s.port.notices, y.detail.informational = false) → (postAt time subject d s).port.notices = s.port.notices)

/-! ### The host line -/

/-- HOST_FRAME_COMPLETE: a frame of up to 240 body bytes, with the check over its length, sequence, kind and body, is offered to the receive
slot as the request that its kind and its body spell. -/
def Obligations.GoodFrameIsOffered : Prop :=
  ∀ (m : Moment) (seq kind : Byte) (body : List Byte) (s : State), s.run = .running → s.port.receiver = .hunting → body.length ≤ 240 →
    exec (.hostFrameComplete m (0xA5#8 :: byteOf body.length :: seq :: kind :: (body ++ checkBytes (byteOf body.length :: seq :: kind :: body)))) s
      = .next (refreshAlarms (offer { seq := seq, request := parseRequest kind body } (arrive m s)))

/-- A frame with a wrong check, a length byte above 240, a gap and a break inside a frame: the frame is discarded with FRAME_LOST, and nothing
else changes. The byte that ends a gap begins a frame where it is the start byte (that the loss comes at that byte is log entry 64). A break
outside a frame loses nothing. -/
def Obligations.BadFramesAreLost : Prop :=
  ∀ (m : Moment) (s : State), s.run = .running → s.port.receiver = .hunting →
    let a := arrive m s
    let lost := a.withPort { a.port with frameLost := true }
    (∀ (seq kind c1 c2 : Byte) (body : List Byte), body.length ≤ 240 → [c1, c2] ≠ checkBytes (byteOf body.length :: seq :: kind :: body) →
      exec (.hostFrameComplete m (0xA5#8 :: byteOf body.length :: seq :: kind :: (body ++ [c1, c2]))) s = .next (refreshAlarms lost))
    ∧ (∀ len : Byte, 240 < len.toNat → exec (.hostLengthOver240 m [0xA5#8, len]) s = .next (refreshAlarms lost))
    ∧ (∀ (got : List Byte) (b : Byte), (∀ len ∈ got.head?, len.toNat ≤ 240 ∧ got.length < len.toNat + 5) →
      exec (.hostFrameGap m (0xA5#8 :: got) b) s
        = .next (refreshAlarms (lost.withPort { lost.port with receiver := if b = 0xA5#8 then .receiving [] else .hunting }))
      ∧ exec (.hostLineBreak m (0xA5#8 :: got)) s = .next (refreshAlarms lost))
    ∧ exec (.hostLineBreak m []) s = .next (refreshAlarms a)

/-- A good frame is taken at once, waits in the slot, or is lost with FRAME_LOST, by what it finds; REPLY_SENT takes the frame that waits,
but not after the reply to a RESTART. That the part then stands restarting until the row START is log entry 15. -/
def Obligations.RequestsWaitTheirTurn : Prop :=
  (∀ (msg : HostMessage) (s : State),
    (s.port.answering = none → s.port.slot = none → offer msg s = takeRequest msg s)
    ∧ (s.port.answering.isSome = true → s.port.slot = none → offer msg s = s.withPort { s.port with slot := some msg })
    ∧ (s.port.answering.isSome = true → s.port.slot.isSome = true → offer msg s = s.withPort { s.port with frameLost := true }))
  ∧ ∀ (m : Moment) (s : State) (r : Reply), s.run = .running → s.port.answering = some r →
    let a := arrive m s
    let free := a.withPort { a.port with answering := none }
    (r.restart = false → s.port.slot = none → exec (.replySent m) s = .next (refreshAlarms free))
    ∧ (∀ msg, r.restart = false → s.port.slot = some msg →
      exec (.replySent m) s = .next (refreshAlarms (takeRequest msg (a.withPort { a.port with answering := none, slot := none }))))
    ∧ (r.restart = true → exec (.replySent m) s = .next (refreshAlarms (free.withRun .restarting)))

/-- A request whose body has the wrong length is refused with REFUSED_LENGTH, and a request of a kind not listed with REFUSED_KIND; both
change nothing else. The reply to an unknown kind of 128 or above carries that kind itself. Frames of SET_MODE, INHIBIT_AUTO and SET_PARAMS that
spell no request of a row are refused as well: with REFUSED_LENGTH where the body length is wrong, a SET_PARAMS without a group among them, and
with REFUSED_RANGE where a value is not listed, where the bay of an INHIBIT_AUTO lies outside 0 to 7, and where the group is not known. That an
INHIBIT_AUTO whose value is not listed is refused so also for a bay that is not enabled is log entry 59. -/
def Obligations.WrongLengthAndKindRefused : Prop :=
  ∀ (m : Moment) (q : Byte) (s : State), PortFree s →
    (∀ p ∈ wrongLengthRequests m q, exec p.1 s = .next (answered q p.2 .refusedLength .empty (arrive m s)))
    ∧ (∀ kind : Byte, kind.toNat ∉ listedKinds →
      exec (.unknownKindRequest m q kind) s
        = .next (answered q (if kind.toNat < 128 then kind + 128#8 else kind) .refusedKind .empty (arrive m s)))
    ∧ (s.port.receiver = .hunting →
      let refused (kind : Byte) (body : List Byte) (result : Result) : Prop :=
        exec (.hostFrameComplete m (0xA5#8 :: byteOf body.length :: q :: kind
            :: (body ++ checkBytes (byteOf body.length :: q :: kind :: body)))) s
          = .next (answered q (kind + 128#8) result .empty (arrive m s))
      (∀ body : List Byte, body.length ≤ 240 → (body.length ≠ 1 → refused 0x12#8 body .refusedLength)
        ∧ (body.length ≠ 2 → refused 0x38#8 body .refusedLength))
      ∧ (∀ value : Byte, 1 < value.toNat → refused 0x12#8 [value] .refusedRange)
      ∧ (∀ bay value : Byte, 8 ≤ bay.toNat ∨ 1 < value.toNat → refused 0x38#8 [bay, value] .refusedRange)
      ∧ refused 0x08#8 [] .refusedLength
      ∧ ∀ (group : Byte) (rest : List Byte), rest.length ≤ 239 → group.toNat = 0 ∨ 6 < group.toNat →
        refused 0x08#8 (group :: rest) .refusedRange)

/-! ### Reports -/

/-- GET_STATUS is answered OK with an empty reply body, or refused with REFUSED_LENGTH; it changes nothing but FRAME_LOST, which its reply
reports and clears. Its summary, as that of every reply, holds the mode, the alert level, the number of notices, the pool, and the flags that
mirror the state. ATTN is asserted while notices are held and main power is present; that it stays so between the reply to a RESTART and its
start is log entry 49. That the reply is built in the step that takes the request is the model's choice (log entry 55). -/
def Obligations.GetStatusAnswers : Prop :=
  (∀ (m : Moment) (q : Byte) (s : State), PortFree s →
    exec (.getStatus m q (.fields ())) s = .next (answered q 0x81#8 .ok .empty (arrive m s))
    ∧ exec (.getStatus m q .wrongLength) s = .next (answered q 0x81#8 .refusedLength .empty (arrive m s)))
  ∧ (∀ (q kind : Byte) (result : Result) (body : ReplyBody) (s : State), ∃ r, (answered q kind result body s).port.answering = some r
    ∧ r.seq = q ∧ r.kind = kind ∧ r.result = result ∧ r.body = body ∧ r.summary = summary s
    ∧ (answered q kind result body s).port.frameLost = false)
  ∧ (∀ s : State, attn s = true ↔ s.port.notices ≠ [] ∧ s.run ≠ .stopped)
  ∧ ∀ s : State,
    let x := summary s
    x.mode = s.mode ∧ x.alert = s.rain.alert ∧ x.notices = s.port.notices.length ∧ x.credits = (s.drn.grants.map fun g => g.count).sum
    ∧ x.flags.attn = attn s ∧ x.flags.frameLost = s.port.frameLost ∧ x.flags.noticeLost = s.port.noticeLost
    ∧ (x.flags.clockUnset = true ↔ s.ret.clockSet = false) ∧ (x.flags.logFull = true ↔ 48 ≤ s.ret.log.length)
    ∧ x.flags.worksStop = s.term.worksStop ∧ x.flags.cold = s.ret.cold
    ∧ (x.flags.suspect = true ↔ ∃ b o, s.order b = some o ∧ o.state = .suspect)

/-- GET_CLOCK is answered OK with the clock's figures, and changes nothing. -/
def Obligations.GetClockReports : Prop :=
  ∀ (m : Moment) (q : Byte) (s : State), PortFree s →
    let a := arrive m s
    exec (.getClock m q (.fields ())) s = .next (answered q 0x83#8 .ok (.clock
      { now := { unset := !a.ret.clockSet, time := if a.ret.clockSet then min (a.now + a.ret.offset) 4294967295 else a.now }
        seconds := a.now
        clockSet := a.ret.clockSet
        offset := if a.ret.clockSet then some a.ret.offset else none
        powerLoss := a.ret.powerLoss
        cause := a.clock.cause
        startSecond := a.clock.startSecond
        cold := a.ret.cold }) a)

/-- The requests that report on the whole station are answered OK with the items of their rules, as they stand when the request is taken, and
change nothing. GET_SOUNDING gives the engine, the sounding in flight, the supply, the queue and the channels; GET_RAIN the gauges, the rules,
the slots and the site; GET_CREDITS the grants, the pool, the counters, the slots and the orders; GET_PLANNER the margin, the target and the
bays; GET_TERMINALS the terminals, works-stop and the alarm lines. What the reports hold where the manual gives no value is the model's choice:
seconds and milliseconds by log entries 32 and 56, GET_RAIN by log entries 26, 45, 46 and 65, GET_TERMINALS by log entry 53. -/
def Obligations.StationReportsChangeNothing : Prop :=
  ∀ (m : Moment) (q : Byte) (s : State), PortFree s →
    let a := arrive m s
    let holderOf (fn : TerminalFunction) : Option (Fin 12) := allTerminals.find? fun t => (a.image.terminals.at_ t).function == fn
    exec (.getSounding m q (.fields ())) s = .next (answered q 0x99#8 .ok (.sounding
      { engine := match a.snd.engine with
          | some f => f.phase
          | none => .idle
        inFlight := a.snd.engine.map fun f =>
          { bay := f.bay, attempt := f.attempt, urgent := f.urgent.isSome, joined := f.joined, discard := f.discard }
        supplyOn := a.snd.supplyOn, supplyReady := a.snd.supplyReady, expiries := a.snd.expiries
        queue := a.snd.queue.map fun e =>
          { bay := e.bay, urgent := e.urgent.isSome, attempt := e.attempt, secondsToDue := e.due - a.now
            millisToNotBefore := e.notBefore.map fun t => (t - a.clock.fast) / 1000 }
        channels := a.snd.channels.toList }) a)
    ∧ exec (.getRain m q (.fields ())) s = .next (answered q 0xA3#8 .ok (.rain
      { gauges := allGauges.map fun g =>
          let r := a.image.gauges.at_ g
          let v := a.rain.gauges.at_ g
          { state := if r.enabled = false then .disabled else if holderOf (.gauge g) = none then .unwired
              else if v.stuck = true then .stuck else .ready
            terminal := holderOf (.gauge g), tipDepth := r.tipDepth, dead := r.dead, stuck := r.stuck
            bucket := v.history.headD 0, total := v.total }
        rules := allRules.map fun i =>
          let k := a.image.rules.at_ i
          let v := a.rain.rules.at_ i
          { state := v.state
            armed := if v.state = .disarmed then none else some
              { blind := (combinedDepth a k).isNone
                depths := k.gauges.map fun g => (g, if usable a g then
                  some (((a.rain.gauges.at_ g).history.take k.window).sum * (a.image.gauges.at_ g).tipDepth) else none)
                combined := combinedDepth a k, holdRemaining := v.holdUntil.map fun t => t - a.now } }
        slots := allSlots.map fun i => match a.rain.slots.at_ i with
          | .empty => .empty
          | .pending l start finish => .pending l (start - a.now) (finish - a.now)
          | .active l start finish => .active l (start - a.now) (finish - a.now)
        alert := a.rain.alert, lastRain := a.ret.lastRain, sinceRain := a.ret.lastRain.map fun t => a.now - t
        dryLookback := a.image.dryLookback, attributed := rainAttributed a }) a)
    ∧ exec (.getCredits m q (.fields ())) s = .next (answered q 0xB5#8 .ok (.credits
      { grants := a.drn.grants.map fun g => { count := g.count, secondsToExpiry := g.expiry - a.now }
        pool := (a.drn.grants.map fun g => g.count).sum, counters := a.drn.counters, slots := a.image.drain.slots
        holders := allBays.filter fun b => match a.order b with
          | some o => o.state == .opening || o.state == .running || o.state == .closing || o.state == .suspect
          | none => false
        armed := a.drn.armed
        orders := allBays.filterMap fun b => (a.order b).map fun o =>
          { bay := b, rank := (a.bay b).rank, state := o.state, source := o.source, done := o.done, holds := o.holds }
        worksStop := a.term.worksStop }) a)
    ∧ exec (.getPlanner m q (.fields ())) s = .next (answered q 0xB9#8 .ok (.planner
      { margin := a.image.margin
        target := if a.mode = .recovery then .empty else if a.mode = .watch ∧ (a.rain.alert = .warning ∨ a.rain.alert = .severe) then .drawdown
          else .none
        bays := allBays.map fun b =>
          let unmet := if (a.bay b).enabled = false ∨ (a.bay b).device = none then some .enabledWithDevice
            else if (a.inhibit.at_ b).isSome = true then some .notInhibited
            else if (a.order b).isSome = true then some .noOrder
            else if (a.level b).quality ≠ .good then some .qualityGood
            else if calledFor a b = false then some .calledFor
            else none
          { inhibit := a.inhibit.at_ b, order := (a.order b).map fun o => (o.source, o.state), candidate := unmet.isNone, unmet := unmet } }) a)
    ∧ exec (.getTerminals m q (.fields ())) s = .next (answered q 0xCA#8 .ok (.terminals
      { terminals := allTerminals.map fun t =>
          let r := a.image.terminals.at_ t
          let high := a.term.debounced.getLsbD t.val
          match r.function with
          | .alarm l => .output r (if r.polarity = .activeHigh then a.term.lineActive.at_ l else !a.term.lineActive.at_ l)
          | .unused | .float _ | .gauge _ | .worksStop => .input r high (if r.polarity = .activeHigh then high else !high)
        worksStop := a.term.worksStop, worksStopTerminal := holderOf .worksStop
        lines := allLines.map fun l =>
          { record := a.image.alarms.at_ l, covered := covered a l, active := a.term.lineActive.at_ l, meeting := meeting a l
            terminal := holderOf (.alarm l) } }) a)

/-- The requests that report on one bay, one outfall, one gauge's minutes or one device: refused out of range, refused where the thing is
not enabled or configured (a device is reported all the same), otherwise answered OK with the items of their rules, as they stand when the
request is taken. They change nothing. GET_BAY gives the level record, the last reading, the channel, the float, the volume and the drain-order
summary; GET_OUTFALL the service, the state, the head, the open spill, the block-end, both period sets and the aggregate slot; GET_DEVICE the
record, the bay, the device state, the watch, the poll, the waiting entries, the current transaction, the last outcome and the line. That the
milliseconds to a not-before time are whole, the fraction dropped, is the model's choice (log entry 32), and so is what is reported for a time
that has passed, of a device that is not configured, as the command of the current transaction, and of a running duration at its top (log
entries 56, 58, 61 and 67). -/
def Obligations.IndexedReportsChangeNothing : Prop :=
  ∀ (m : Moment) (q : Byte) (s : State), PortFree s →
    let a := arrive m s
    (∀ n, 8 ≤ n → exec (.getBay m q (.fields n)) s = .next (answered q 0x9C#8 .refusedRange .empty a))
    ∧ (∀ b : Fin 8, (s.bay b).enabled = false →
      exec (.getBay m q (.fields b.val)) s = .next (answered q 0x9C#8 .refusedUnconfigured .empty a))
    ∧ (∀ b : Fin 8, (s.bay b).enabled = true →
      exec (.getBay m q (.fields b.val)) s = .next (answered q 0x9C#8 .ok (.bay
        { record := a.level b, reading := a.snd.last.at_ b, channel := a.snd.channels.at_ b, float := a.lvl.floats.at_ b
          floatHeight := (a.bay b).floatHeight, volume := (a.level b).value.map (volumeAt (a.bay b).stage)
          order := (a.order b).map fun o =>
            let unmet := if o.state ≠ .queued then some .queued
              else if (a.level b).quality ≠ .good then some .qualityGood
              else if aboveTarget a b o.target = false then some .aboveTarget
              else if deviceHealthy a b = false then some .deviceHealthy
              else if a.term.worksStop = true then some .noWorksStop
              else none
            { state := o.state, source := o.source, lots := o.lots, target := o.target, done := o.done, total := o.total, holds := o.holds
              closing := o.closing, failure := o.failure, reshut := o.reshut
              running := o.lot.map fun l => { drained := l.drained, startVolume := l.startVolume, secondsToDeadline := l.deadline - a.now }
              eligible := unmet.isNone, unmet := if o.state = .queued then unmet else none } }) a))
    ∧ (∀ n, 4 ≤ n → exec (.getOutfall m q (.fields n)) s = .next (answered q 0xA8#8 .refusedRange .empty a))
    ∧ (∀ k : Fin 4, (s.outfall k).configured = false →
      exec (.getOutfall m q (.fields k.val)) s = .next (answered q 0xA8#8 .refusedUnconfigured .empty a))
    ∧ (∀ k : Fin 4, (s.outfall k).configured = true →
      let stamp (t : Nat) : Stamp := { unset := !a.ret.clockSet, time := written a t }
      let c := a.ret.counts.at_ k
      exec (.getOutfall m q (.fields k.val)) s = .next (answered q 0xA8#8 .ok (.outfall
        { reference := refBay a k, inService := (refBay a k).isSome, state := a.spillState k
          head := match refBay a k with
            | some b => if (a.level b).quality = .good ∨ (a.level b).quality = .held then
                (a.level b).value.map fun v => (v : Int) - ((a.bay b).crest : Int) else none
            | none => none
          openSpill := if a.spillState k = .quiet then none else (openSpillOf a k).map fun o =>
            { id := openId a k, cls := o.cls, start := o.start, startStamp := stamp o.start, duration := a.now - o.start
              peak := o.peak, volume := o.volume, blocks := o.blocks, gap := o.gap
              tail := match a.spillState k with
                | .tailing tentative deadline => some { tentative := tentative, secondsToDeadline := deadline - a.now }
                | .quiet | .spilling | .blind => none }
          blockEnd := c.blockEnd, blockRemaining := c.blockEnd - a.now
          current := { counters := c.current, startStamp := stamp c.current.start }
          previous := { counters := c.previous, startStamp := stamp c.previous.start }
          aggregate := match a.ret.slots.at_ k with
            | none => .empty
            | some r => if r.openSpill.isSome = true then .opened { r with duration := r.runningDuration a.now }
                else .closed r (if a.ret.nextId = none then .exhausted else .room) }) a))
    ∧ (∀ n, 4 ≤ n → exec (.readRainMinutes m q (.fields n)) s = .next (answered q 0xA4#8 .refusedRange .empty a))
    ∧ (∀ g : Fin 4, (s.image.gauges.at_ g).enabled = false →
      exec (.readRainMinutes m q (.fields g.val)) s = .next (answered q 0xA4#8 .refusedUnconfigured .empty a))
    ∧ (∀ g : Fin 4, (s.image.gauges.at_ g).enabled = true →
      exec (.readRainMinutes m q (.fields g.val)) s = .next (answered q 0xA4#8 .ok (.rainMinutes (s.rain.gauges.at_ g).history.reverse
        (s.image.gauges.at_ g).tipDepth (s.rain.gauges.at_ g).minuteStart) a))
    ∧ (∀ n, 16 ≤ n → exec (.getDevice m q (.fields n)) s = .next (answered q 0xC3#8 .refusedRange .empty a))
    ∧ ∀ d : Fin 16,
      let v := a.device d
      let entry (e : LineEntry) : LineEntryReport :=
        { command := e.command, orig := e.orig, millisToNotBefore := e.notBefore.map fun t => (t - a.clock.fast) / 1000 }
      exec (.getDevice m q (.fields d.val)) s = .next (answered q 0xC3#8 .ok (.device
        { record := a.image.devices.at_ d, bay := allBays.find? fun b => (a.bay b).enabled && (a.bay b).device == some d
          state := v.state, toggle := v.toggle, inStep := v.inStep, naks := v.naks
          watch := v.watch.map fun w => (w.target, w.orig), secondsToDeadline := v.deadline.map fun x => x.due - a.now
          secondsToPoll := v.nextPoll.map fun t => t - a.now
          drive := (a.act.queue.find? fun e => e.device == d && e.command != .query).map entry
          query := (a.act.queue.find? fun e => e.device == d && e.command == .query).map entry
          current := match a.act.current with
            | some t => if t.device = d then some (t.command, t.resends + 1) else none
            | none => none
          last := a.last d, queued := a.act.queue.length, lineIdle := a.act.current.isNone }) a)

/-- READ_SPILLS with a count from 1 to 7 is answered OK with the figures of the log and the first records, up to the count, whose ids are at
or above the from id, each with its running duration (at its top by log entry 67); with another count it is refused. It changes nothing. -/
def Obligations.ReadSpillsReports : Prop :=
  ∀ (m : Moment) (q : Byte) (fromId count : Nat) (s : State), PortFree s →
    let a := arrive m s
    (1 ≤ count → count ≤ 7 →
      exec (.readSpills m q (.fields { fromId := fromId, count := count })) s = .next (answered q 0xAC#8 .ok (.spills
        { held := s.ret.log.length
          oldest := s.ret.log.head?.map fun e => e.id
          newest := s.ret.log.getLast?.map fun e => e.id
          next := s.ret.nextId
          records := ((s.ret.log.filter fun e => decide (fromId ≤ e.id)).take count).map fun e =>
            { e with record := { e.record with duration := e.record.runningDuration a.now } } }) a))
    ∧ exec (.readSpills m q .wrongLength) s = .next (answered q 0xAC#8 .refusedLength .empty a)
    ∧ (count = 0 ∨ 7 < count →
      exec (.readSpills m q (.fields { fromId := fromId, count := count })) s = .next (answered q 0xAC#8 .refusedRange .empty a))

/-! ### Notices, clock, RESTART -/

/-- FETCH_NOTICES with a maximum from 1 to 12 removes notices from the oldest end, up to the maximum, and returns them with the number left;
its summary is built after the removal, reports NOTICE_LOST and clears it. With another maximum it is refused and changes nothing. ATTN is
released by the fetch that leaves no notice, and asserted by every posting while main power is present, also by one that is dropped. That the
reply is built in the step that takes the request is the model's choice (log entry 55). -/
def Obligations.FetchNoticesTakesTheOldest : Prop :=
  ∀ (m : Moment) (q : Byte) (n : Nat) (s : State), PortFree s →
    let a := arrive m s
    let left := a.withPort { a.port with notices := s.port.notices.drop n }
    let t := answered q 0x82#8 .ok (.notices (s.port.notices.drop n).length (s.port.notices.take n)) left
    (1 ≤ n → n ≤ 12 → exec (.fetchNotices m q (.fields n)) s = .next (t.withPort { t.port with noticeLost := false })
      ∧ (attn (t.withPort { t.port with noticeLost := false }) = true ↔ n < s.port.notices.length))
    ∧ (∀ (time subject : Nat) (d : NoticeDetail), attn (postAt time subject d s) = true)
    ∧ exec (.fetchNotices m q .wrongLength) s = .next (answered q 0x82#8 .refusedLength .empty a)
    ∧ (n = 0 ∨ 12 < n → exec (.fetchNotices m q (.fields n)) s = .next (answered q 0x82#8 .refusedRange .empty a))

/-- SET_CLOCK with a time that is not 0 and not before the retention seconds sets the offset so that site time is that time; the first
setting also rewrites the records that carry CLOCK_UNSET into site time with CLOCK_LATE. Otherwise it is refused. -/
def Obligations.SetClockSetsTheOffset : Prop :=
  ∀ (m : Moment) (q : Byte) (time : Nat) (s : State), PortFree s →
    let a := arrive m s
    let set := a.withRet { a.ret with offset := time - a.now, clockSet := true }
    let late (r : SpillRecord) : SpillRecord :=
      if r.clockUnset then
        { r with start := min (r.start + (time - a.now)) 4294967295
                 finish := r.finish.map fun x => min (x + (time - a.now)) 4294967295
                 clockUnset := false
                 clockLate := true }
      else r
    (time ≠ 0 → a.now ≤ time → ∃ t, exec (.setClock m q (.fields time)) s
        = .next (answered q 0x84#8 .ok (.clockSet (stampOf a a.now) (!s.ret.clockSet)) t)
      ∧ (s.ret.clockSet = true → t = set)
      ∧ (s.ret.clockSet = false → t = set.withRet { set.ret with log := s.ret.log.map fun e => { e with record := late e.record }
                                                                 slots := Vector.ofFn fun k => (s.ret.slots.at_ k).map late }))
    ∧ (time = 0 ∨ time < a.now → exec (.setClock m q (.fields time)) s = .next (answered q 0x84#8 .refusedRange .empty a))

/-- RESTART is answered ACCEPTED with an empty body; nothing else follows before the reply has been sent. Then the part stops running, without a
request or a reply, and START starts it with the cause RESTART, or COLD where the retention check fails (that the start is a row of its own is
log entry 15). -/
def Obligations.RestartIsAccepted : Prop :=
  ∀ (m : Moment) (q : Byte) (s : State), PortFree s →
    let t := answered q 0x85#8 .accepted .empty (arrive m s)
    let replying := t.withPort { t.port with answering := t.port.answering.map fun r => { r with restart := true } }
    exec (.restart m q (.fields ())) s = .next replying
    ∧ ∀ m' m'' : Moment,
      let b := arrive m' replying
      let sent := refreshAlarms ((b.withPort { b.port with answering := none }).withRun .restarting)
      exec (.replySent m') replying = .next sent
      ∧ ∃ u, exec (.start ⟨m'', none⟩) sent = .next u ∧ u.run = .running ∧ u.port.answering = none ∧ u.port.slot = none
        ∧ u.clock.cause = (if s.ret.checkGood then .restart else .cold)

/-! ### Parameter groups -/

/-- SET_PARAMS of the LEVEL, RAIN and ACTUATOR groups: in range, the group is written, a 0 standing for the default where 0 is not a value
of its own; out of range it is refused. Nothing else follows. -/
def Obligations.PlainParameterGroupsAreStored : Prop :=
  ∀ (m : Moment) (q : Byte) (s : State), PortFree s →
    let a := arrive m s
    (∀ n, n = 0 ∨ 2 ≤ n ∧ n ≤ 15 → exec (.setParamsLevel m q (.fields n)) s
      = .next (answered q 0x88#8 .ok .empty (writeImage { s.image with staleLimit := if n = 0 then 4 else n } a)))
    ∧ (∀ n, n = 1 ∨ 15 < n → exec (.setParamsLevel m q (.fields n)) s = .next (answered q 0x88#8 .refusedRange .empty a))
    ∧ (∀ n, n ≤ 72 → exec (.setParamsRain m q (.fields n)) s
      = .next (answered q 0x88#8 .ok .empty (writeImage { s.image with dryLookback := if n = 0 then 6 else n } a)))
    ∧ (∀ n, 72 < n → exec (.setParamsRain m q (.fields n)) s = .next (answered q 0x88#8 .refusedRange .empty a))
    ∧ (∀ p : ActuatorParams,
      (p.timeout = 0 ∨ 5 ≤ p.timeout ∧ p.timeout ≤ 200) ∧ p.retries ≤ 3 ∧ (p.nakBackoff = 0 ∨ 50 ≤ p.nakBackoff ∧ p.nakBackoff ≤ 2000)
        ∧ p.nakLimit ≤ 20 ∧ p.poll ≤ 30 →
      exec (.setParamsActuator m q (.fields p)) s = .next (answered q 0x88#8 .ok .empty (writeImage { s.image with actuator :=
        { timeout := if p.timeout = 0 then 40 else p.timeout, retries := p.retries
          nakBackoff := if p.nakBackoff = 0 then 250 else p.nakBackoff, nakLimit := if p.nakLimit = 0 then 8 else p.nakLimit
          poll := if p.poll = 0 then 2 else p.poll } } a)))
    ∧ ∀ p : ActuatorParams,
      (1 ≤ p.timeout ∧ p.timeout < 5) ∨ 200 < p.timeout ∨ 3 < p.retries ∨ (1 ≤ p.nakBackoff ∧ p.nakBackoff < 50) ∨ 2000 < p.nakBackoff
        ∨ 20 < p.nakLimit ∨ 30 < p.poll →
      exec (.setParamsActuator m q (.fields p)) s = .next (answered q 0x88#8 .refusedRange .empty a)

/-- SET_PARAMS of the SOUNDING, DRAIN and PLANNER groups: the group is written, and then waiting entries are revised, slot grant runs, or the
planner evaluates. Out of range the request is refused; a change of the return slots is refused while a slot is held. That entries are
revised also where a bay's interval stays as it was is log entry 57, and that out of range comes before the state is log entry 59. -/
def Obligations.FollowedParameterGroups : Prop :=
  ∀ (m : Moment) (q : Byte) (s : State), PortFree s →
    let a := arrive m s
    (∀ p, soundingInRange p = true → exec (.setParamsSounding m q (.fields p)) s
      = .next (answered q 0x88#8 .ok .empty (intervalsChanged (writeImage { s.image with sounding := soundingStored p } a))))
    ∧ (∀ p, soundingInRange p = false → exec (.setParamsSounding m q (.fields p)) s = .next (answered q 0x88#8 .refusedRange .empty a))
    ∧ (∀ p : DrainParams, p.slots ≤ 3 → (p.lotVolume = 0 ∨ 10 ≤ p.lotVolume ∧ p.lotVolume ≤ 50000) →
      (p.lotTime = 0 ∨ 60 ≤ p.lotTime ∧ p.lotTime ≤ 3600) →
      let group : DrainParams := { slots := if p.slots = 0 then 1 else p.slots, lotVolume := if p.lotVolume = 0 then 500 else p.lotVolume
                                   lotTime := if p.lotTime = 0 then 900 else p.lotTime }
      (group.slots = s.image.drain.slots ∨ slotHolders s = [] → exec (.setParamsDrain m q (.fields p)) s
        = .next (answered q 0x88#8 .ok .empty (slotGrant (writeImage { s.image with drain := group } a))))
      ∧ (group.slots ≠ s.image.drain.slots ∧ slotHolders s ≠ [] →
        exec (.setParamsDrain m q (.fields p)) s = .next (answered q 0x88#8 .refusedState .empty a)))
    ∧ (∀ p : DrainParams, 3 < p.slots ∨ (1 ≤ p.lotVolume ∧ p.lotVolume < 10) ∨ 50000 < p.lotVolume ∨ (1 ≤ p.lotTime ∧ p.lotTime < 60)
        ∨ 3600 < p.lotTime → exec (.setParamsDrain m q (.fields p)) s = .next (answered q 0x88#8 .refusedRange .empty a))
    ∧ (∀ n, n ≤ 500 → exec (.setParamsPlanner m q (.fields n)) s
      = .next (answered q 0x88#8 .ok .empty (plannerTake (writeImage { s.image with margin := n } a))))
    ∧ ∀ n, 500 < n → exec (.setParamsPlanner m q (.fields n)) s = .next (answered q 0x88#8 .refusedRange .empty a)

/-! ### Records -/

/-- An accepted SET_BAY stores the record with its defaults and clears COLD; the bay's level becomes NONE, or FLOAT at the float height where
the bay is enabled and its float is active; its channel becomes OK with a count of 0 and its last reading none; a sounding in flight of the
bay is marked to be discarded. The bay's waiting entry is removed, and an enabled bay without a sounding in flight receives a fresh entry due
at once. It is answered OK. What the state leaves open before a SET_BAY is log entry 5, the order of its effects log entry 10. -/
def Obligations.SetBayTakesTheRecord : Prop :=
  ∀ (m : Moment) (q : Byte) (b : Fin 8) (f : BayFields) (s : State), PortFree s → f.bay = b.val → bayFieldsValid f = true →
    deviceMissing s (bayRecord f) = false → crossFails s b (bayRecord f) = false → bayStateFails s b (bayRecord f) = false →
    ∃ t, exec (.setBay m q (.fields f)) s = .next t ∧ Replies t q 0x90#8 .ok .empty
      ∧ t.image = { s.image with bays := s.image.bays.put b (bayRecord f) } ∧ t.ret.cold = false
      ∧ (t.level b).candidate = none ∧ (t.level b).misses = 0 ∧ (t.level b).accepted = none
      ∧ (f.enabled = 1 ∧ s.lvl.floats.at_ b = .active → (t.level b).quality = .float ∧ (t.level b).value = some f.floatHeight)
      ∧ (f.enabled = 0 ∨ s.lvl.floats.at_ b ≠ .active → (t.level b).quality = .none ∧ (t.level b).value = none)
      ∧ t.snd.channels.at_ b = { health := .ok, bad := 0 } ∧ t.snd.last.at_ b = none
      ∧ (∀ c : Fin 8, c ≠ b → t.level c = s.level c ∧ t.snd.channels.at_ c = s.snd.channels.at_ c ∧ t.snd.last.at_ c = s.snd.last.at_ c)
      ∧ (∀ x ∈ s.snd.engine, x.bay = b → t.snd.engine = some { x with discard := true })
      ∧ (f.enabled = 1 → (∀ x ∈ s.snd.engine, x.bay ≠ b) → FreshEntryJoined t b (arrive m s).now)
      ∧ (f.enabled = 0 ∨ (∃ x ∈ s.snd.engine, x.bay = b) → ∀ e ∈ t.snd.queue, e.bay ≠ b)

/-- A SET_BAY is refused by the first check that applies, in the manual's order, and then changes nothing. -/
def Obligations.SetBayIsRefusedInOrder : Prop :=
  ∀ (m : Moment) (q : Byte) (f : BayFields) (s : State), PortFree s →
    let a := arrive m s
    (8 ≤ f.bay → exec (.setBay m q (.fields f)) s = .next (answered q 0x90#8 .refusedRange .empty a))
    ∧ ∀ b : Fin 8, f.bay = b.val →
      (bayFieldsValid f = false → exec (.setBay m q (.fields f)) s = .next (answered q 0x90#8 .refusedRange .empty a))
      ∧ (bayFieldsValid f = true → deviceMissing s (bayRecord f) = true →
        exec (.setBay m q (.fields f)) s = .next (answered q 0x90#8 .refusedUnconfigured .empty a))
      ∧ (bayFieldsValid f = true → deviceMissing s (bayRecord f) = false → crossFails s b (bayRecord f) = true →
        exec (.setBay m q (.fields f)) s = .next (answered q 0x90#8 .refusedRange .empty a))
      ∧ (bayFieldsValid f = true → deviceMissing s (bayRecord f) = false → crossFails s b (bayRecord f) = false →
        bayStateFails s b (bayRecord f) = true → exec (.setBay m q (.fields f)) s = .next (answered q 0x90#8 .refusedState .empty a))

/-- SET_OUTFALL and SET_ALARM_LINE write their record into the image and clear COLD; nothing else follows but the evaluation of the alarm
lines. Out of range they are refused, and SET_OUTFALL also while its configured outfall is not QUIET. That the level is kept as sent for another
condition than ALERT is log entry 36. -/
def Obligations.OutfallAndAlarmRecordsAreStored : Prop :=
  ∀ (m : Moment) (q : Byte) (s : State), PortFree s →
    let a := arrive m s
    (∀ (k : Fin 4) (f : OutfallFields), f.outfall = k.val → outfallFieldsValid f = true →
      let r : OutfallRec := { configured := true, onset := f.onset, hysteresis := f.hysteresis
                              tail := if f.tail = 0 then 300 else f.tail
                              blockHours := if f.blockHours = 0 then 12 else f.blockHours, weir := f.points.take f.count }
      ((s.outfall k).configured = false ∨ s.spillState k = .quiet → exec (.setOutfall m q (.fields f)) s
        = .next (answered q 0x91#8 .ok .empty (writeImage { s.image with outfalls := s.image.outfalls.put k r } a)))
      ∧ ((s.outfall k).configured = true ∧ s.spillState k ≠ .quiet →
        exec (.setOutfall m q (.fields f)) s = .next (answered q 0x91#8 .refusedState .empty a)))
    ∧ (∀ f : OutfallFields, 4 ≤ f.outfall ∨ outfallFieldsValid f = false →
      exec (.setOutfall m q (.fields f)) s = .next (answered q 0x91#8 .refusedRange .empty a))
    ∧ (∀ (l : Fin 4) (c : AlarmCondition) (g : Grouping) (f : AlarmFields), f.line = l.val → AlarmCondition.ofCode? f.condition = some c →
      Grouping.ofCode? f.grouping = some g →
      let r : AlarmRec := { condition := c, level := f.level, grouping := g, mask := f.mask }
      (c ≠ .alert ∨ 1 ≤ f.level ∧ f.level ≤ 3 → exec (.setAlarmLine m q (.fields f)) s
        = .next (answered q 0xC9#8 .ok .empty (writeImage { s.image with alarms := s.image.alarms.put l r } a)))
      ∧ (c = .alert ∧ (f.level = 0 ∨ 3 < f.level) →
        exec (.setAlarmLine m q (.fields f)) s = .next (answered q 0xC9#8 .refusedRange .empty a)))
    ∧ ∀ f : AlarmFields, 4 ≤ f.line ∨ 4 < f.condition ∨ 2 < f.grouping →
      exec (.setAlarmLine m q (.fields f)) s = .next (answered q 0xC9#8 .refusedRange .empty a)

/-- SET_GAUGE stores the record and clears COLD. A gauge that becomes enabled begins with 60 zero buckets, total 0, no last counted tip, and
a stuck deadline where its input is active; one that becomes disabled is emptied; otherwise the volatile state is kept. It is refused out of
range, and a disabling one while an armed rule names the gauge. -/
def Obligations.SetGaugeTakesTheRecord : Prop :=
  ∀ (m : Moment) (q : Byte) (f : GaugeFields) (s : State), PortFree s →
    let a := arrive m s
    (4 ≤ f.gauge ∨ gaugeFieldsValid f = false → exec (.setGauge m q (.fields f)) s = .next (answered q 0xA0#8 .refusedRange .empty a))
    ∧ ∀ g : Fin 4, f.gauge = g.val → gaugeFieldsValid f = true →
      let r : GaugeRec := { enabled := f.enabled == 1, tipDepth := if f.tipDepth = 0 then 200 else f.tipDepth
                            dead := if f.dead = 0 then 80 else f.dead, stuck := if f.stuck = 0 then 10 else f.stuck }
      let w := writeImage { s.image with gauges := s.image.gauges.put g r } a
      let zero : GaugeVol := { stuck := false, history := List.replicate 60 0, minuteStart := a.now, total := 0, lastTip := none
                               stuckDeadline := if gaugeInputActive s g then some { due := a.now + r.stuck, time := r.stuck } else none }
      (f.enabled = 0 ∧ namedByRule s g = true → exec (.setGauge m q (.fields f)) s = .next (answered q 0xA0#8 .refusedState .empty a))
      ∧ (f.enabled = 0 ∧ namedByRule s g = false → (s.image.gauges.at_ g).enabled = true →
        exec (.setGauge m q (.fields f)) s = .next (answered q 0xA0#8 .ok .empty (w.setGauge g
          { stuck := false, history := [], minuteStart := 0, total := 0, lastTip := none, stuckDeadline := none })))
      ∧ (f.enabled = 0 ∧ namedByRule s g = false → (s.image.gauges.at_ g).enabled = false →
        exec (.setGauge m q (.fields f)) s = .next (answered q 0xA0#8 .ok .empty w))
      ∧ (f.enabled = 1 → (s.image.gauges.at_ g).enabled = true →
        exec (.setGauge m q (.fields f)) s = .next (answered q 0xA0#8 .ok .empty w))
      ∧ (f.enabled = 1 → (s.image.gauges.at_ g).enabled = false →
        exec (.setGauge m q (.fields f)) s = .next (answered q 0xA0#8 .ok .empty (w.setGauge g zero)))

/-- SET_RULE stores the record and clears COLD; a rule of level NONE becomes DISARMED and any other CLEAR with no hold-until time; the site
alert level is then the highest of its sources, and where it is another one, one ALERT_CHANGED is posted with the old level, the new level and
the cause RULE, at the rule's subject index, before the site model and the planner take it. No other rule, no slot and no gauge changes. It is
refused where the index, the level or a field of an armed record is out of range, and where an armed record names a gauge that is not enabled.
That a level NONE leaves the other fields at their cold-start values, and what these are, are log entries 38 and 5. -/
def Obligations.SetRuleTakesTheRecord : Prop :=
  ∀ (m : Moment) (q : Byte) (f : RuleFields) (s : State), PortFree s →
    let a := arrive m s
    let told (r : Fin 8) (v : State) : State := if alertFromSources v = v.rain.alert then v
      else sitePlanner ((postAt v.now r.val (.alertChanged v.rain.alert (alertFromSources v) .rule) v).withRain
        { v.rain with alert := alertFromSources v })
    let stored (r : Fin 8) (k : RuleRec) (x : RuleVol) : State := ((a.withImage { s.image with rules := s.image.rules.put r k }).withRet
      { a.ret with cold := false }).withRain { s.rain with rules := s.rain.rules.put r x }
    (8 ≤ f.rule ∨ 3 < f.level → exec (.setRule m q (.fields f)) s = .next (answered q 0xA1#8 .refusedRange .empty a))
    ∧ (∀ r : Fin 8, f.rule = r.val → f.level = 0 → ∃ t, exec (.setRule m q (.fields f)) s = .next t ∧ Replies t q 0xA1#8 .ok .empty
      ∧ t.image = { s.image with rules := s.image.rules.put r RuleRec.disarmed } ∧ t.ret = { a.ret with cold := false }
      ∧ t.rain = { s.rain with rules := s.rain.rules.put r { state := .disarmed, holdUntil := none }, alert := alertFromSources t }
      ∧ t = answered q 0xA1#8 .ok .empty (told r (stored r RuleRec.disarmed { state := .disarmed, holdUntil := none })))
    ∧ ∀ (r : Fin 8) (l : Alert), f.rule = r.val → Alert.ofCode? f.level = some l → l ≠ .none →
      (ruleFieldsValid f = false → exec (.setRule m q (.fields f)) s = .next (answered q 0xA1#8 .refusedRange .empty a))
      ∧ (ruleFieldsValid f = true → gaugeMissing s (ruleRecord f l) = true →
        exec (.setRule m q (.fields f)) s = .next (answered q 0xA1#8 .refusedUnconfigured .empty a))
      ∧ (ruleFieldsValid f = true → gaugeMissing s (ruleRecord f l) = false →
        ∃ t, exec (.setRule m q (.fields f)) s = .next t ∧ Replies t q 0xA1#8 .ok .empty
          ∧ t.image = { s.image with rules := s.image.rules.put r (ruleRecord f l) } ∧ t.ret = { a.ret with cold := false }
          ∧ t.rain = { s.rain with rules := s.rain.rules.put r { state := .clear, holdUntil := none }, alert := alertFromSources t }
          ∧ t = answered q 0xA1#8 .ok .empty (told r (stored r (ruleRecord f l) { state := .clear, holdUntil := none })))

/-- An accepted SET_DEVICE stores or removes the record and clears COLD; the device's volatile state becomes that of a start; and where the
device is configured, a RESET by the start sweep waits for it or is on the line. The other devices keep theirs. That the device has no last
outcome then, also where a watch has ended, is log entry 60. -/
def Obligations.SetDeviceTakesTheRecord : Prop :=
  ∀ (m : Moment) (q : Byte) (f : DeviceFields) (s : State), PortFree s →
    let a := arrive m s
    (16 ≤ f.device → exec (.setDevice m q (.fields f)) s = .next (answered q 0xC0#8 .refusedRange .empty a))
    ∧ ∀ d : Fin 16, f.device = d.val →
      (f.configured = 0 → deviceStateFails s d 0 = true →
        exec (.setDevice m q (.fields f)) s = .next (answered q 0xC0#8 .refusedState .empty a))
      ∧ (f.configured = 0 → deviceStateFails s d 0 = false → ∃ t, exec (.setDevice m q (.fields f)) s = .next t
        ∧ Replies t q 0xC0#8 .ok .empty ∧ t.image = { s.image with devices := s.image.devices.put d none } ∧ t.ret.cold = false
        ∧ t.device d = DeviceVol.start ∧ t.last d = none
        ∧ ∀ x : Fin 16, x ≠ d → t.device x = s.device x ∧ LastFollows s t x (s.last x))
      ∧ (f.configured ≠ 0 → deviceRecord? f = none ∨ f.configured ≠ 1 ∨ addressHeld s d f.address = true →
        exec (.setDevice m q (.fields f)) s = .next (answered q 0xC0#8 .refusedRange .empty a))
      ∧ ∀ r, f.configured = 1 → deviceRecord? f = some r → addressHeld s d f.address = false →
        (deviceStateFails s d 1 = true → exec (.setDevice m q (.fields f)) s = .next (answered q 0xC0#8 .refusedState .empty a))
        ∧ (deviceStateFails s d 1 = false → ∃ t, exec (.setDevice m q (.fields f)) s = .next t
          ∧ Replies t q 0xC0#8 .ok .empty ∧ t.image = { s.image with devices := s.image.devices.put d (some r) } ∧ t.ret.cold = false
          ∧ t.device d = DeviceVol.start ∧ t.last d = none
          ∧ (∀ x : Fin 16, x ≠ d → t.device x = s.device x ∧ LastFollows s t x (s.last x))
          ∧ CommandStands t d .reset .sweep)

/-- An accepted SET_TERMINAL stores the function and the polarity and clears COLD; the other terminals keep their records. An input takes its
raw level as its debounced level, and the function that arrives follows it at once: a float's state with its level, a gauge's stuck deadline,
works-stop with the orders. The function that departs leaves its float ABSENT, where a FLOAT level becomes STALE as at a release, its gauge
without a stuck deadline and not STUCK, and works-stop released. That an inverted polarity asserts works-stop only where the input is active
under it is log entry 63. -/
def Obligations.SetTerminalTakesTheFunction : Prop :=
  ∀ (m : Moment) (q : Byte) (f : TerminalFields) (s : State), PortFree s →
    let a := arrive m s
    (12 ≤ f.terminal ∨ functionOf? f.function f.parameter = none ∨ 1 < f.polarity →
      exec (.setTerminal m q (.fields f)) s = .next (answered q 0xC8#8 .refusedRange .empty a))
    ∧ ∀ (t : Fin 12) (fn : TerminalFunction) (p : Polarity), f.terminal = t.val → functionOf? f.function f.parameter = some fn →
      Polarity.ofCode? f.polarity = some p →
      let old := (s.image.terminals.at_ t).function
      (functionHeld s t fn = true → exec (.setTerminal m q (.fields f)) s = .next (answered q 0xC8#8 .refusedRange .empty a))
      ∧ (functionHeld s t fn = false → ∃ u, exec (.setTerminal m q (.fields f)) s = .next u ∧ Replies u q 0xC8#8 .ok .empty
        ∧ u.image.terminals.at_ t = { function := fn, polarity := p }
        ∧ (∀ x : Fin 12, x ≠ t → u.image.terminals.at_ x = s.image.terminals.at_ x) ∧ u.ret.cold = false
        ∧ ((∀ l, fn ≠ .alarm l) → u.term.debounced.getLsbD t.val = m.pins.getLsbD t.val)
        ∧ (∀ x : Fin 12, x ≠ t → u.term.debounced.getLsbD x.val = s.term.debounced.getLsbD x.val)
        ∧ (∀ b, fn = .float b → u.lvl.floats.at_ b = (if inputActive u t then .active else .released)
          ∧ (old ≠ fn → if (s.bay b).enabled = true ∧ inputActive u t = true ∧ ((s.level b).quality = .none ∨ (s.level b).quality = .stale)
              then (u.level b).quality = .float ∧ (u.level b).value = some (s.bay b).floatHeight
              else (u.level b).quality = (s.level b).quality ∧ (u.level b).value = (s.level b).value))
        ∧ (∀ g, fn = .gauge g → u.rain.gauges.at_ g = { s.rain.gauges.at_ g with
            stuck := if old = fn then false else (s.rain.gauges.at_ g).stuck
            stuckDeadline := if inputActive u t = true ∧ (s.image.gauges.at_ g).enabled = true
              then some { due := a.now + (s.image.gauges.at_ g).stuck, time := (s.image.gauges.at_ g).stuck }
              else if old = fn then none else (s.rain.gauges.at_ g).stuckDeadline })
        ∧ (fn = .worksStop → inputActive u t = true → u.term.worksStop = true
          ∧ ∀ b o, u.order b = some o → o.holds.worksStop = true ∧ (o.state = .held ∨ o.state = .closing ∨ o.state = .suspect))
        ∧ (fn = .worksStop → inputActive u t = false → old = .worksStop ∨ s.term.worksStop = false → u.term.worksStop = false)
        ∧ (∀ b, old = .float b → fn ≠ old → u.lvl.floats.at_ b = .absent ∧ (u.level b).value = (s.level b).value
          ∧ (u.level b).quality = (if s.lvl.floats.at_ b = .active ∧ (s.bay b).enabled = true ∧ (s.level b).quality = .float then .stale
              else (s.level b).quality))
        ∧ (∀ g, old = .gauge g → fn ≠ old →
          u.rain.gauges.at_ g = { s.rain.gauges.at_ g with stuck := false, stuckDeadline := none })
        ∧ (old = .worksStop → fn ≠ old → u.term.worksStop = false
          ∧ (s.term.worksStop = true → ∀ b o, u.order b = some o → o.holds.worksStop = false))
        ∧ (old ≠ .worksStop → fn ≠ .worksStop → u.term.worksStop = s.term.worksStop))

/-! ### The site mode -/

/-- The settled mode of an evaluation from each mode, where no enabled bay's fill threshold lies below its empty threshold: the transitions of
the table, taken until none applies. An evaluation leaves the settled mode. One whose settled mode is the mode it started from changes nothing
and posts nothing. One that ends in another mode posts one MODE_CHANGED with the old mode, the settled mode and the origin SITE, at subject
index 0, before the drive supply, the sounding intervals and the planner take the new mode. -/
def Obligations.ModeSettlesByTheTable : Prop :=
  ∀ s : State, RecordsInRange s →
    let quiet := s.rain.alert = .none ∧ spilling s = false
    settledFrom s .maintenance = .maintenance
    ∧ (∀ m, m = .dry ∨ m = .watch →
      (filled s = true → quiet → settledFrom s m = .recovery) ∧ (filled s = true → ¬ quiet → settledFrom s m = .storm)
      ∧ (filled s = false → s.rain.alert = .none → settledFrom s m = .dry)
      ∧ (filled s = false → s.rain.alert ≠ .none → settledFrom s m = .watch))
    ∧ ((quiet → allEmpty s = true → settledFrom s .storm = .dry) ∧ (quiet → allEmpty s = false → settledFrom s .storm = .recovery)
      ∧ (¬ quiet → settledFrom s .storm = .storm))
    ∧ ((2 ≤ s.rain.alert.rank ∨ spilling s = true → settledFrom s .recovery = .storm)
      ∧ (s.rain.alert.rank < 2 → spilling s = false → allEmpty s = false → settledFrom s .recovery = .recovery)
      ∧ (s.rain.alert = .advisory → spilling s = false → allEmpty s = true → settledFrom s .recovery = .watch)
      ∧ (quiet → allEmpty s = true → settledFrom s .recovery = .dry))
    ∧ (evaluateMode s).mode = settledFrom s s.mode
    ∧ (settledFrom s s.mode = s.mode → evaluateMode s = s)
    ∧ (settledFrom s s.mode ≠ s.mode → evaluateMode s = plannerEvaluation (intervalsChanged (supplyFollowsMode
        ((postAt s.now 0 (.modeChanged s.mode (settledFrom s s.mode) .site) s).withMode (settledFrom s s.mode)))))

/-- SET_MODE is answered OK. MAINTENANCE in MAINTENANCE, and AUTOMATIC in another mode, change nothing. AUTOMATIC in MAINTENANCE leaves the mode
that an evaluation from DRY settles in. MAINTENANCE in another mode leaves MAINTENANCE, no AUTO order waiting or draining, and the HOST orders
as they stood. Records, levels, rain, spills, inhibit flags and device states stay. A SET_MODE that changes the mode posts one MODE_CHANGED with
the old mode, the settled mode and the origin HOST, and its reply is built after the change. -/
def Obligations.SetModeTakesEffect : Prop :=
  ∀ (m : Moment) (q : Byte) (s : State), PortFree s →
    let a := arrive m s
    let stays (t : State) : Prop := t.image = s.image ∧ t.ret = a.ret ∧ t.lvl = s.lvl ∧ t.rain = s.rain ∧ t.spill = s.spill
      ∧ t.inhibit = s.inhibit ∧ t.act.devices = s.act.devices ∧ (∀ d, LastFollows s t d (s.last d))
      ∧ t.snd.channels = s.snd.channels ∧ t.snd.last = s.snd.last
    (s.mode ≠ .maintenance → exec (.setModeAutomatic m q) s = .next (answered q 0x92#8 .ok .empty a))
    ∧ (s.mode = .maintenance → exec (.setModeMaintenance m q) s = .next (answered q 0x92#8 .ok .empty a))
    ∧ (s.mode = .maintenance → ∃ t, exec (.setModeAutomatic m q) s = .next t ∧ Replies t q 0x92#8 .ok .empty
      ∧ t.mode = settledFrom s .dry ∧ stays t
      ∧ t = answered q 0x92#8 .ok .empty (plannerEvaluation (intervalsChanged (supplyFollowsMode
        ((postAt a.now 0 (.modeChanged .maintenance (settledFrom a .dry) .host) a).withMode (settledFrom a .dry))))))
    ∧ (s.mode ≠ .maintenance → ∃ t, exec (.setModeMaintenance m q) s = .next t ∧ Replies t q 0x92#8 .ok .empty
      ∧ t.mode = .maintenance ∧ stays t
      ∧ t = answered q 0x92#8 .ok .empty (plannerEvaluation (allBays.foldl cancelAuto (intervalsChanged (supplyFollowsMode
        ((postAt a.now 0 (.modeChanged s.mode .maintenance .host) a).withMode .maintenance)))))
      ∧ (∀ b o, t.order b = some o → o.source = .auto → o.state = .closing ∨ o.state = .suspect)
      ∧ ∀ b o, s.order b = some o → o.source = .host → ∃ x, t.order b = some x ∧ x.source = .host ∧ x.state = o.state)

/-! ### Soundings -/

/-- SOUND: refused out of range or where the bay is not enabled; the bay's sounding in flight is joined; a waiting entry that is urgent stays
as it is; another waiting entry takes the last place in the urgent order, and an idle engine takes the first ready entry. -/
def Obligations.SoundJoinsOrMarks : Prop :=
  ∀ (m : Moment) (q : Byte) (s : State), PortFree s →
    let a := arrive m s
    (∀ n, 8 ≤ n → exec (.sound m q (.fields n)) s = .next (answered q 0x98#8 .refusedRange .empty a))
    ∧ ∀ b : Fin 8,
      ((s.bay b).enabled = false → exec (.sound m q (.fields b.val)) s = .next (answered q 0x98#8 .refusedUnconfigured .empty a))
      ∧ (∀ f, (s.bay b).enabled = true → s.snd.engine = some f → f.bay = b →
        exec (.sound m q (.fields b.val)) s
          = .next (answered q 0x98#8 .accepted (.sound .joined) (a.withSnd { a.snd with engine := some { f with joined := true } })))
      ∧ ∀ e, (s.bay b).enabled = true → (∀ f, s.snd.engine = some f → f.bay ≠ b) → waitingEntry s b = some e →
        (e.urgent.isSome = true → exec (.sound m q (.fields b.val)) s = .next (answered q 0x98#8 .accepted (.sound .alreadyUrgent) a))
        ∧ (e.urgent = none → exec (.sound m q (.fields b.val)) s
          = .next (answered q 0x98#8 .accepted (.sound .marked) (engineTake (a.withSnd { a.snd with
              queue := insertEntry { e with urgent := some s.snd.urgentNext } (s.snd.queue.filter fun x => x.bay != e.bay)
              urgentNext := s.snd.urgentNext + 1 }))))

/-! ### Rain -/

/-- FORECAST is answered OK and gives the slot its contents, EMPTY for the level NONE, ACTIVE for a delay of 0, PENDING otherwise; a PENDING
slot becomes ACTIVE at its start time, and an ACTIVE one EMPTY at its end time. The site alert level is then the highest of its sources, the
rules in RAISED or FADING and the slots in ACTIVE, or NONE; where it is another one, one ALERT_CHANGED is posted with the old level, the new
level and the cause SLOT, at the slot's subject index, before the site model and the planner take it. No other slot, no rule, no gauge and no
record changes. A FORECAST out of range, or with a body of the wrong length, is refused. That the clock stands at the slot's time or later is
log entry 2. -/
def Obligations.ForecastSlotsFollowTheirTimes : Prop :=
  ∀ (m : Moment) (s : State),
    let a := arrive m s
    let source (l : Alert) : Prop := (∃ r : Fin 8, (s.image.rules.at_ r).level = l
        ∧ ((s.rain.rules.at_ r).state = .raised ∨ (s.rain.rules.at_ r).state = .fading))
      ∨ ∃ i : Fin 4, ∃ start finish, s.rain.slots.at_ i = .active l start finish
    let told (i : Fin 4) (f : ForecastSlot) (u : State) : State :=
      let v := u.withRain { s.rain with slots := s.rain.slots.put i f }
      if alertFromSources v = v.rain.alert then v
      else sitePlanner ((postAt v.now i.val (.alertChanged v.rain.alert (alertFromSources v) .slot) v).withRain
        { v.rain with alert := alertFromSources v })
    let becomes (i : Fin 4) (f : ForecastSlot) (u t : State) : Prop :=
      t.rain = { s.rain with slots := s.rain.slots.put i f, alert := alertFromSources t } ∧ t.image = s.image ∧ t.ret = u.ret
        ∧ t.lvl = s.lvl ∧ t.spill = s.spill ∧ t.inhibit = s.inhibit ∧ t.act.devices = s.act.devices ∧ ∀ d, LastFollows s t d (s.last d)
    (∀ l, source l → l.rank ≤ (alertFromSources s).rank) ∧ (alertFromSources s = .none ∨ source (alertFromSources s))
    ∧ (PortFree s → ∀ q : Byte,
      exec (.forecast m q .wrongLength) s = .next (answered q 0xA2#8 .refusedLength .empty a)
      ∧ (∀ (i : Fin 4) (f : ForecastFields), f.slot = i.val → f.level = 0 →
        ∃ t, exec (.forecast m q (.fields f)) s = .next t ∧ Replies t q 0xA2#8 .ok .empty ∧ becomes i .empty a t
          ∧ t = answered q 0xA2#8 .ok .empty (told i .empty a))
      ∧ (∀ (i : Fin 4) (f : ForecastFields) (l : Alert), f.slot = i.val → Alert.ofCode? f.level = some l → l ≠ .none →
        (f.delay ≤ 1440 → 1 ≤ f.duration → f.duration ≤ 2880 →
          let start := a.now + f.delay * 60
          let contents : ForecastSlot :=
            if f.delay = 0 then .active l start (start + f.duration * 60) else .pending l start (start + f.duration * 60)
          ∃ t, exec (.forecast m q (.fields f)) s = .next t ∧ Replies t q 0xA2#8 .ok .empty ∧ becomes i contents a t
            ∧ t = answered q 0xA2#8 .ok .empty (told i contents a))
        ∧ (1440 < f.delay ∨ f.duration = 0 ∨ 2880 < f.duration →
          exec (.forecast m q (.fields f)) s = .next (answered q 0xA2#8 .refusedRange .empty a)))
      ∧ ∀ f : ForecastFields, 4 ≤ f.slot ∨ 3 < f.level →
        exec (.forecast m q (.fields f)) s = .next (answered q 0xA2#8 .refusedRange .empty a))
    ∧ (s.run = .running → ∀ i : Fin 4,
      (∀ l start finish, s.rain.slots.at_ i = .pending l start finish → ∃ t, exec (.forecastSlotStart m i) s = .next t
        ∧ becomes i (.active l start finish) (reachSecond start a) t
        ∧ t = refreshAlarms (told i (.active l start finish) (reachSecond start a)))
      ∧ (∀ l start finish, s.rain.slots.at_ i = .active l start finish → ∃ t, exec (.forecastSlotEnd m i) s = .next t
        ∧ becomes i .empty (reachSecond finish a) t ∧ t = refreshAlarms (told i .empty (reachSecond finish a))))

/-- A full evaluation of a rule, and an evaluation for raising at a tip: the rule takes the state that the tables give for its combined depth,
or keeps what it has. A rule that is disarmed or blind is left alone, and so is, at a tip, a rule whose gauge set lacks the tipping gauge. Where a
change of state gives the site another alert level, one ALERT_CHANGED is posted with the old level, the new level and the cause RULE, at the
rule's subject index, before the site model and the planner take it; otherwise nothing is posted. The table of R68 does not say what becomes of
the hold-until time of a FADING rule that clears: that the rule keeps it is the model's choice (log entry 27). -/
def Obligations.RuleEvaluationFollowsTheTables : Prop :=
  ∀ (r : Fin 8) (s : State),
    let k := s.image.rules.at_ r
    let v := s.rain.rules.at_ r
    let raised : RuleVol := { state := .raised, holdUntil := some (s.now + k.hold * 60) }
    let rolled := (evaluateFull s r).rain.rules.at_ r
    let told (x : RuleVol) : State :=
      let w := s.withRain { s.rain with rules := s.rain.rules.put r x }
      if alertFromSources w = w.rain.alert then w
      else sitePlanner ((postAt w.now r.val (.alertChanged w.rain.alert (alertFromSources w) .rule) w).withRain
        { w.rain with alert := alertFromSources w })
    (k.level = .none ∨ combinedDepth s k = none → evaluateFull s r = s)
    ∧ (∀ g, k.level = .none ∨ combinedDepth s k = none ∨ g ∉ k.gauges → evaluateRaising g s r = s)
    ∧ ∀ d, k.level ≠ .none → combinedDepth s k = some d →
      (k.raise ≤ d → v.state = .clear ∨ v.state = .fading → rolled = raised ∧ evaluateFull s r = told raised)
      ∧ (k.raise ≤ d → v.state = .raised → evaluateFull s r = s)
      ∧ (d < k.raise → k.clear ≤ d → evaluateFull s r = s)
      ∧ (d < k.raise → d < k.clear → v.state = .raised → rolled.state = .fading ∧ rolled.holdUntil = v.holdUntil
        ∧ evaluateFull s r = told { v with state := .fading })
      ∧ (d < k.raise → d < k.clear → v.state = .clear → evaluateFull s r = s)
      ∧ (∀ h, d < k.raise → d < k.clear → v.state = .fading → v.holdUntil = some h →
        (h ≤ s.now → rolled.state = .clear ∧ evaluateFull s r = told { v with state := .clear }) ∧ (s.now < h → evaluateFull s r = s))
      ∧ ∀ g, g ∈ k.gauges →
        (k.raise ≤ d → v.state = .clear ∨ v.state = .fading → (evaluateRaising g s r).rain.rules.at_ r = raised
          ∧ evaluateRaising g s r = told raised)
        ∧ (d < k.raise ∨ v.state = .raised → evaluateRaising g s r = s)

/-- DEBOUNCE_COMPLETE on a gauge's terminal: a level that is the debounced one changes nothing; an inactive edge ends STUCK and cancels the
deadline; an active edge of a READY gauge outside its dead time is a tip, after which the rules are evaluated for raising in index order; every
active edge of an enabled gauge starts a stuck deadline. GAUGE_STUCK_DEADLINE makes the gauge STUCK with one notice, which carries the stuck
time that the deadline was given. MINUTE_ROLL moves every enabled gauge's history by one bucket and then evaluates the rules in full in index
order. That the clock stands at the deadline or the roll or later is log entry 2, the held second of the next roll log entry 31. -/
def Obligations.TipsAndRollsAreCounted : Prop :=
  ∀ (m : Moment) (s : State), s.run = .running →
    let a := arrive m s
    (∀ (t : Fin 12) (g : Fin 4), (s.image.terminals.at_ t).function = .gauge g →
      let v := s.rain.gauges.at_ g
      let k := s.image.gauges.at_ g
      let u := takeRawLevel t a
      (m.pins.getLsbD t.val = s.term.debounced.getLsbD t.val → exec (.debounceComplete m t) s = .next (refreshAlarms a))
      ∧ (m.pins.getLsbD t.val ≠ s.term.debounced.getLsbD t.val →
        (inputActive u t = false → exec (.debounceComplete m t) s
          = .next (refreshAlarms (u.setGauge g { v with stuck := false, stuckDeadline := none })))
        ∧ (inputActive u t = true → k.enabled = true → usable s g = false ∨ inDeadTime a g = true → exec (.debounceComplete m t) s
          = .next (refreshAlarms (u.setGauge g { v with stuckDeadline := some { due := a.now + k.stuck, time := k.stuck } })))
        ∧ (inputActive u t = true → k.enabled = false → exec (.debounceComplete m t) s = .next (refreshAlarms u))
        ∧ (inputActive u t = true → usable s g = true → inDeadTime a g = false →
          let counted : GaugeVol := { v with history := addTip v.history, total := min 65535 (v.total + 1), lastTip := some a.clock.fast }
          let w := (List.finRange 8).foldl (evaluateRaising g) ((u.setGauge g counted).withRet { a.ret with lastRain := some a.now })
          let x := refreshAlarms (w.setGauge g { counted with stuckDeadline := some { due := a.now + k.stuck, time := k.stuck } })
          exec (.debounceComplete m t) s = .next x ∧ x.ret = { a.ret with lastRain := some a.now } ∧ x.image = s.image
          ∧ ∀ h : Fin 4, h ≠ g → x.rain.gauges.at_ h = s.rain.gauges.at_ h)))
    ∧ (∀ (g : Fin 4) (t : Fin 12) (d : StuckDeadline), (s.rain.gauges.at_ g).stuckDeadline = some d → terminalOf s (.gauge g) = some t →
      let u := reachSecond d.due a
      exec (.gaugeStuckDeadline m g) s = .next (refreshAlarms (post g.val (.rainGaugeStuck t.val d.time)
        (u.setGauge g { s.rain.gauges.at_ g with stuck := true, stuckDeadline := none }))))
    ∧ ∃ moved : Tab 4 GaugeVol,
      (∀ g : Fin 4, moved.at_ g = (if (s.image.gauges.at_ g).enabled then
          { s.rain.gauges.at_ g with history := (0 :: (s.rain.gauges.at_ g).history).take 60, minuteStart := s.rain.nextRoll }
        else s.rain.gauges.at_ g))
      ∧ ∃ x, exec (.minuteRoll m) s = .next x ∧ x.rain.nextRoll = s.rain.nextRoll + 60 ∧ x.rain.gauges = moved ∧ x.image = s.image
        ∧ x.ret = (reachSecond s.rain.nextRoll a).ret ∧ x.rain.slots = s.rain.slots
        ∧ x = refreshAlarms ((List.finRange 8).foldl evaluateFull ((reachSecond s.rain.nextRoll a).withRain { s.rain with
          gauges := moved, nextRoll := s.rain.nextRoll + 60 }))

/-- DEBOUNCE_COMPLETE on a float's or the works-stop terminal, with an edge. An active float takes its state, and a level of quality NONE or
STALE becomes FLOAT at the float height; an inactive one makes a FLOAT level STALE. Asserted works-stop joins every order's hold causes, and then
each order acts by its state: QUEUED becomes HELD, and HELD stays so; an order in OPENING or RUNNING goes to CLOSING with the closing cause
WORKS_STOP, its credit forfeited where it holds one, and RELEASE is put to its drain device with the order as originator (where no other bay has
the device, the RELEASE waits or is on the line at the end); CLOSING keeps its closing cause, and SUSPECT its state. Nothing else follows. That
the orders act in the order of the bays is the model's choice (log entry 47), and that a total holds at its top is log entry 67. Released
works-stop leaves every order's hold causes, and where no order freed is done at its test, slot grant over all of them is all that follows. -/
def Obligations.FloatAndWorksStopEdgesTakeEffect : Prop :=
  ∀ (m : Moment) (s : State) (t : Fin 12), s.run = .running → m.pins.getLsbD t.val ≠ s.term.debounced.getLsbD t.val →
    let active := inputActive (takeRawLevel t (arrive m s)) t
    let f := (s.image.terminals.at_ t).function
    let stopped (o : Order) : HoldCauses := { o.holds with worksStop := true }
    (∀ b, f = .float b → (s.bay b).enabled = true → active = true → ∃ x, exec (.debounceComplete m t) s = .next x
      ∧ x.lvl.floats = s.lvl.floats.put b .active ∧ (∀ c, c ≠ b → x.level c = s.level c)
      ∧ ((s.level b).quality = .none ∨ (s.level b).quality = .stale →
        (x.level b).quality = .float ∧ (x.level b).value = some (s.bay b).floatHeight)
      ∧ ((s.level b).quality ≠ .none → (s.level b).quality ≠ .stale →
        (x.level b).quality = (s.level b).quality ∧ (x.level b).value = (s.level b).value))
    ∧ (∀ b, f = .float b → (s.bay b).enabled = true → active = false → ∃ x, exec (.debounceComplete m t) s = .next x
      ∧ x.lvl.floats = s.lvl.floats.put b .released ∧ (∀ c, c ≠ b → x.level c = s.level c) ∧ (x.level b).value = (s.level b).value
      ∧ (x.level b).quality = (if (s.level b).quality = .float then .stale else (s.level b).quality))
    ∧ (f = .worksStop → active = true → ∃ x, exec (.debounceComplete m t) s = .next x ∧ x.term.worksStop = true
      ∧ (∀ b, (x.order b).isSome = (s.order b).isSome)
      ∧ (∀ b o, x.order b = some o → o.holds.worksStop = true ∧ (o.state = .held ∨ o.state = .closing ∨ o.state = .suspect))
      ∧ (∀ b o, s.order b = some o →
        (o.state = .queued ∨ o.state = .held → x.order b = some { o with holds := stopped o, state := .held })
        ∧ (o.state = .opening ∨ o.state = .running →
          x.order b = some { o with
            holds := stopped o, state := .closing, closing := some .worksStop, credit := false, lot := none
            total := match o.lot with
              | some l => if o.credit then min 4294967295 (o.total + l.drained.toNat) else o.total
              | none => o.total }
          ∧ ∀ d, (s.bay b).device = some d → (∀ y, y ≠ b → (s.bay y).device ≠ some d) → CommandStands x d .release (.order b))
        ∧ (o.state = .closing → x.order b = some { o with holds := stopped o })
        ∧ (o.state = .suspect → ∃ y, x.order b = some y ∧ y = { o with holds := stopped o, reshut := y.reshut }
          ∧ ((∀ e ∈ s.act.queue, e.orig = .order b → ∀ c, c ≠ b → (s.bay c).device ≠ some e.device) → y.reshut = o.reshut)))
      ∧ x.drn.grants = s.drn.grants ∧ x.drn.armed = s.drn.armed
      ∧ (let n := allBays.countP fun b => (s.order b).any fun o => (o.state == .opening || o.state == .running) && o.credit
        x.drn.counters = { s.drn.counters with forfeited :=
          if n = 0 then s.drn.counters.forfeited else min 4294967295 (s.drn.counters.forfeited + n) })
      ∧ let u := takeRawLevel t (arrive m s)
        let held := (u.withTerm { u.term with worksStop := true }).withDrn { s.drn with
          orders := Vector.ofFn fun b => (s.order b).map fun o => o.withHolds (stopped o) }
        x = refreshAlarms (allBays.foldl (fun v b => match s.order b with
          | some o => if o.state = .opening ∨ o.state = .running then overtaken b o (stopped o) .worksStop o.failure v else v
          | none => v) held))
    ∧ (f = .worksStop → active = false → ∃ x, exec (.debounceComplete m t) s = .next x ∧ x.term.worksStop = false
      ∧ ((∀ b, s.order b = none) → ∀ b, x.order b = none)
      ∧ (∀ b o, x.order b = some o → o.holds.worksStop = false)
      ∧ let u := takeRawLevel t (arrive m s)
        let freed := (u.withTerm { u.term with worksStop := false }).withDrn { s.drn with
          orders := Vector.ofFn fun b => (s.order b).map fun o => o.withHolds { o.holds with worksStop := false } }
        (∀ b, testRetires freed b = false) → x = refreshAlarms (slotGrant freed))

/-! ### Spills -/

/-- CLOSE_PERIOD: the current set becomes the previous set, every counter of the current set becomes 0 and its period starts now; the reply
carries the set that has just become previous and the new period start. It is refused with a body of the wrong length, out of range,
and for an outfall that is not configured. Nothing else changes. -/
def Obligations.ClosePeriodMovesTheSet : Prop :=
  ∀ (m : Moment) (q : Byte) (s : State), PortFree s →
    let a := arrive m s
    exec (.closePeriod m q .wrongLength) s = .next (answered q 0xA9#8 .refusedLength .empty a)
    ∧ (∀ n, 4 ≤ n → exec (.closePeriod m q (.fields n)) s = .next (answered q 0xA9#8 .refusedRange .empty a))
    ∧ ∀ k : Fin 4,
      let c := s.ret.counts.at_ k
      let cleared : PeriodSet := { blocks := 0, dryBlocks := 0, events := 0, duration := 0, volume := 0, start := a.now }
      let after : OutfallCounts := { current := cleared, previous := c.current, blockEnd := c.blockEnd }
      ((s.outfall k).configured = false →
        exec (.closePeriod m q (.fields k.val)) s = .next (answered q 0xA9#8 .refusedUnconfigured .empty a))
      ∧ ((s.outfall k).configured = true → exec (.closePeriod m q (.fields k.val)) s
        = .next (answered q 0xA9#8 .ok (.periodClosed c.current a.now) (a.withRet { a.ret with counts := s.ret.counts.put k after })))

/-- An acceptance of the reference bay of a configured outfall moves the outfall's spill state by the head; it accrues volume in SPILLING and
TAILING over the time since the acceptance before, up to 60 seconds, and raises the peak of an open spill. A start of a spill counts an event,
opens a count block where none runs, and puts a record at the newest end of a log that has room. With a full log, or with the ids exhausted, it
opens an aggregate in its outfall's empty slot, or is absorbed by the aggregate that the slot holds. A return from TAILING to SPILLING at or
after the block-end carries a block, and a change from BLIND carries none (log entry 66). The record of an open spill, in its place in the log or
in the slot, takes each change with the spill: its volume, its peak head and its blocks; its start stays, and its end and its duration are not
written while it is open. An aggregate's figures grow so beyond those of the spills that it has closed. The other outfalls keep their states. A
start posts one SPILL_STARTED at the acceptance time, with the id or the aggregate mark, the class, the block outcome and the head, before the
site model and the sounding scheduler take the change; the entry that fills the log posts LOG_FULL before it. A block carried at a return posts
one BLOCK_CARRIED. In the other cases nothing is posted. That blocks opened and spills merged hold at their top is log entry 67. -/
def Obligations.SpillStateFollowsTheHead : Prop :=
  ∀ (b : Fin 8) (k : Fin 4) (value time : Nat) (previous : Option Nat) (s : State), outfallOf s b = some k → (s.outfall k).configured = true →
    let head : Int := (value : Int) - ((s.bay b).crest : Int)
    let onset : Int := (s.outfall k).onset
    let low : Int := onset - (s.outfall k).hysteresis
    let tail : SpillState := .tailing time (time + (s.outfall k).tail)
    let c := s.ret.counts.at_ k
    let merged := s.now < c.blockEnd
    let cls : SpillClass := if rainAttributed s then .rain else .dry
    let noneOpen := ∀ e ∈ s.ret.log, e.record.isOpenOf k = false
    let opened : OpenSpill := { start := time, cls := cls, peak := head.toNat, volume := 0, blocks := if merged then 0 else 1, gap := false }
    let interval := match previous with
      | some p => min 60 (time - p)
      | none => 0
    let litres := weirFlow (s.outfall k).weir head * interval + (s.spill.at_ k).remainder
    let volume (v : Nat) : Nat := if s.spillState k = .blind then v else min 4294967295 (v + litres / 100)
    let carried : Bool := match s.spillState k with
      | .tailing _ _ => decide (onset ≤ head ∧ ¬ merged)
      | .quiet | .spilling | .blind => false
    let blocks (n : Nat) : Nat := if carried then min 65535 (n + 1) else n
    let t := spillAcceptance b value time previous s
    let started (id : Option Nat) (port : Port) : Prop := ∃ u : State, u.port = port ∧ u.ret.clockSet = s.ret.clockSet
      ∧ u.ret.offset = s.ret.offset ∧ t = outfallChanged k (postAt time k.val
        (.spillStarted id cls (if merged then .merged else .opened) head) u)
    (∀ j, j ≠ k → t.spillState j = s.spillState j)
    ∧ (s.spillState k = .quiet → head < onset → t = s)
    ∧ (s.spillState k = .quiet → onset ≤ head → t.spillState k = .spilling
      ∧ (t.ret.counts.at_ k).current.events = min 4294967295 (c.current.events + 1)
      ∧ (t.ret.counts.at_ k).blockEnd = (if merged then c.blockEnd else s.now + (s.outfall k).blockHours * 3600)
      ∧ (t.ret.counts.at_ k).current.blocks = (if merged then c.current.blocks else min 4294967295 (c.current.blocks + 1))
      ∧ (noneOpen → (t.ret.counts.at_ k).current.dryBlocks
        = (if merged ∨ cls = .rain then c.current.dryBlocks else min 4294967295 (c.current.dryBlocks + 1)))
      ∧ (∀ id, s.ret.nextId = some id → s.ret.log.length < 48 → t.ret.log.length = s.ret.log.length + 1
        ∧ ∃ r o, t.ret.log.getLast? = some { id := id, record := r } ∧ r.openSpill = some o ∧ r.outfall = k ∧ r.start = written s time
          ∧ r.cls = cls ∧ r.peak = head.toNat ∧ r.volume = 0 ∧ r.duration = 0 ∧ r.blocks = (if merged then 0 else 1)
          ∧ o.start = time ∧ o.cls = r.cls ∧ o.volume = 0 ∧ o.blocks = r.blocks
          ∧ t.ret.nextId = (if id = 4294967295 then none else some (id + 1))
          ∧ (noneOpen → t.ret.log = s.ret.log ++ [{ id := id, record :=
            { outfall := k, cls := cls, start := written s time, finish := none, cause := none, duration := 0, peak := head.toNat, volume := 0
              blocks := opened.blocks, clockUnset := !s.ret.clockSet, clockLate := false, gap := false, aggregate := false, merged := 0
              firstStart := time, openSpill := some opened } }])
          ∧ ((∀ r, s.ret.slots.at_ k = some r → r.openSpill = none) → t.ret.slots = s.ret.slots)
          ∧ (noneOpen → (s.ret.log.length ≠ 47 → started (some id) s.port)
            ∧ ∀ oldest, s.ret.log.length = 47 → s.ret.log.head? = some oldest → started (some id) (postAt s.now k.val
              (.logFull id (id - oldest.id) (s.ret.log.countP (fun e => e.record.openSpill.isSome) + 1)) s).port))
      ∧ (48 ≤ s.ret.log.length ∨ s.ret.nextId = none →
        t.ret.nextId = s.ret.nextId ∧ (∀ j, j ≠ k → t.ret.slots.at_ j = s.ret.slots.at_ j)
        ∧ (noneOpen → t.ret.log = s.ret.log ∧ started none s.port)
        ∧ (s.ret.slots.at_ k = none → t.ret.slots.at_ k = some
          { outfall := k, cls := cls, start := written s time, finish := none, cause := none, duration := 0, peak := head.toNat, volume := 0
            blocks := opened.blocks, clockUnset := !s.ret.clockSet, clockLate := false, gap := false, aggregate := true, merged := 1
            firstStart := time, openSpill := some opened })
        ∧ ∀ r, s.ret.slots.at_ k = some r → t.ret.slots.at_ k = some { r with
          merged := min 65535 (r.merged + 1), cls := if cls = .dry then .dry else r.cls, peak := max r.peak head.toNat
          clockUnset := r.clockUnset || !s.ret.clockSet, finish := none, cause := none
          blocks := if merged then r.blocks else min 65535 (r.blocks + 1), openSpill := some opened }))
    ∧ (s.spillState k = .spilling → t.spillState k = (if head < low then tail else .spilling)
      ∧ t.ret.counts = s.ret.counts ∧ t.port = s.port)
    ∧ (∀ tentative deadline, s.spillState k = .tailing tentative deadline →
      (onset ≤ head → t.spillState k = .spilling
        ∧ (merged → t.ret.counts = s.ret.counts ∧ t.port = s.port ∧ ∀ o x, openSpillOf s k = some o → openSpillOf t k = some x → x.blocks = o.blocks)
        ∧ (¬ merged → t.ret.counts = s.ret.counts.put k { c with
              blockEnd := s.now + (s.outfall k).blockHours * 3600
              current := { c.current with
                blocks := min 4294967295 (c.current.blocks + 1)
                dryBlocks := if spillIsDry s k then min 4294967295 (c.current.dryBlocks + 1) else c.current.dryBlocks } }
          ∧ ∀ o x, openSpillOf s k = some o → openSpillOf t k = some x → x.blocks = min 65535 (o.blocks + 1)
            ∧ t.port = (postAt s.now k.val (.blockCarried (openId s k) ((s.outfall k).blockHours * 3600) x.blocks) s).port))
      ∧ (head < onset → t.spillState k = .tailing tentative deadline ∧ t.ret.counts = s.ret.counts ∧ t.port = s.port))
    ∧ (s.spillState k = .blind → t.spillState k = (if onset ≤ head then .spilling else tail)
      ∧ t.ret.counts = s.ret.counts ∧ t.port = s.port)
    ∧ (∀ o, s.spillState k ≠ .quiet → openSpillOf s k = some o → ∃ x, openSpillOf t k = some x ∧ x.peak = max o.peak head.toNat
      ∧ (s.spillState k = .spilling ∨ s.spillState k = .blind → x.blocks = o.blocks)
      ∧ (s.spillState k = .blind → x.volume = o.volume ∧ (t.spill.at_ k).remainder = (s.spill.at_ k).remainder)
      ∧ (s.spillState k ≠ .blind → x.volume = min 4294967295 (o.volume + litres / 100) ∧ (t.spill.at_ k).remainder = litres % 100))
    ∧ (s.spillState k ≠ .quiet → OpenRecordChanges s t k fun r => { r with
      volume := volume r.volume, peak := max r.peak head.toNat, blocks := blocks r.blocks
      openSpill := r.openSpill.map fun o => { o with volume := volume o.volume, peak := max o.peak head.toNat, blocks := blocks o.blocks } })

/-- A loss of the level makes a SPILLING or TAILING outfall BLIND and marks its open spill and the record; it changes nothing in QUIET and BLIND.
TAIL_DEADLINE closes the spill of a TAILING outfall at its tentative end with the cause ENDED and credits its period, and changes nothing in
another state: the record in the log is closed, or the aggregate of the slot, whose duration grows by that of the spill, and then the transfer
test is made; a closed record keeps the volume, the peak head, the blocks and the start that were last written. The close posts one SPILL_ENDED
at the tentative end, with the id or the aggregate mark, the cause and the duration in whole minutes, after what the transfer test posts and
before the site model and the sounding scheduler take the change. That the SPILL_ENDED of an aggregate carries the aggregate mark also where the
transfer test of the same close has just given the aggregate an id, and that it comes after that test's LOG_FULL, is the model's choice (log
entry 22). BLOCK_END_REACHED carries a block in SPILLING and BLIND and posts one BLOCK_CARRIED at the old block-end, and changes nothing in QUIET
and TAILING; that it opens the block at a block-end that passed in a tail, once the outfall is BLIND, is log entry 66. That the clock stands at
the deadline or later is log entry 2, and that durations and blocks opened of a record hold at their top is log entry 67. -/
def Obligations.SpillDeadlinesAndLosses : Prop :=
  (∀ (b : Fin 8) (k : Fin 4) (s : State), outfallOf s b = some k →
    (s.spillState k = .quiet ∨ s.spillState k = .blind → spillLoss b s = s)
    ∧ (s.spillState k ≠ .quiet → s.spillState k ≠ .blind → (spillLoss b s).spillState k = .blind
      ∧ (∀ o, openSpillOf s k = some o → openSpillOf (spillLoss b s) k = some { o with gap := true })
      ∧ OpenRecordChanges s (spillLoss b s) k fun r => { r with gap := true, openSpill := r.openSpill.map fun o => { o with gap := true } }))
  ∧ ∀ (m : Moment) (k : Fin 4) (s : State), s.run = .running →
    let a := arrive m s
    let c := s.ret.counts.at_ k
    ((∀ x d, s.spillState k ≠ .tailing x d) → exec (.tailDeadline m k) s = .next (refreshAlarms a))
    ∧ (∀ tentative deadline o, s.spillState k = .tailing tentative deadline → openSpillOf s k = some o →
      let u := reachSecond deadline a
      let ended (r : SpillRecord) : SpillRecord := if r.outfall = k then spillClosed s tentative .ended r else r
      ∃ t v, exec (.tailDeadline m k) s = .next t ∧ t.spill = s.spill.put k { state := .quiet, remainder := 0 } ∧ t.image = s.image
        ∧ t = refreshAlarms (outfallChanged k (postAt tentative k.val
          (.spillEnded (openId s k) .ended (min ((tentative - o.start) / 60) 65535)) v))
        ∧ v.ret.clockSet = s.ret.clockSet ∧ v.ret.offset = s.ret.offset ∧ (∀ id, openId s k = some id → v.port = s.port)
        ∧ t.ret.counts = s.ret.counts.put k (periodCredited tentative o c)
        ∧ (∀ id, openId s k = some id → t.ret.log = s.ret.log.map fun e => { e with record := ended e.record })
        ∧ ∀ r, openId s k = none → s.ret.slots.at_ k = some r →
          let tested := (transferTest (u.withRet { u.ret with
            counts := s.ret.counts.put k (periodCredited tentative o c)
            slots := s.ret.slots.put k (some (spillClosed s tentative .ended r)) })).1
          t.ret = tested.ret ∧ v.port = tested.port)
    ∧ (s.spillState k = .quiet ∨ (∃ x d, s.spillState k = .tailing x d) →
      exec (.blockEndReached m k) s = .next (refreshAlarms (reachSecond c.blockEnd a)))
    ∧ (s.spillState k = .spilling ∨ s.spillState k = .blind → ∃ t, exec (.blockEndReached m k) s = .next t
      ∧ t.spill = s.spill ∧ t.image = s.image
      ∧ t.ret.counts = s.ret.counts.put k
        { c with blockEnd := c.blockEnd + (s.outfall k).blockHours * 3600
                 current := { c.current with
                   blocks := min 4294967295 (c.current.blocks + 1)
                   dryBlocks := if spillIsDry s k then min 4294967295 (c.current.dryBlocks + 1) else c.current.dryBlocks } }
      ∧ (OpenRecordChanges s t k fun r => { r with
        blocks := min 65535 (r.blocks + 1), openSpill := r.openSpill.map fun o => { o with blocks := min 65535 (o.blocks + 1) } })
      ∧ ∀ o, openSpillOf s k = some o → openSpillOf t k = some { o with blocks := min 65535 (o.blocks + 1) }
        ∧ t.port = (postAt c.blockEnd k.val (.blockCarried (openId s k) ((s.outfall k).blockHours * 3600) (min 65535 (o.blocks + 1))) s).port)

/-- RELEASE_SPILLS removes closed records with ids up to its own from the oldest end, until a record that is open or has a higher id; then the
transfer test is made, and the reply gives the records removed, the aggregates transferred, and the oldest record and the oldest open one that
the log then holds. A transfer test moves the closed aggregates of the slots into the log, unchanged, in the order of their first starts and
then of their outfalls, with the next ids, until the log is full, the ids are exhausted, or no closed aggregate is left; their slots become
empty, and where the log becomes full one notice is posted. Where no closed aggregate waits, nothing but the removal changes. -/
def Obligations.ReleaseSpillsEmptiesTheOldestEnd : Prop :=
  (∀ s : State, Transferred s (transferTest s).1 (transferTest s).2)
  ∧ ∀ (m : Moment) (q : Byte) (upTo : Nat) (s : State), PortFree s →
    let a := arrive m s
    let kept := s.ret.log.dropWhile fun e => decide (e.id ≤ upTo) && e.record.openSpill.isNone
    let tested := transferTest (a.withRet { a.ret with log := kept })
    exec (.releaseSpills m q (.fields upTo)) s = .next (answered q 0xAD#8 .ok (.released
      { removed := s.ret.log.length - kept.length, transferred := tested.2, oldest := tested.1.ret.log.head?.map fun e => e.id
        oldestOpen := (tested.1.ret.log.find? fun e => e.record.openSpill.isSome).map fun e => e.id }) tested.1)
    ∧ ((∀ k r, s.ret.slots.at_ k = some r → r.openSpill.isSome = true) → exec (.releaseSpills m q (.fields upTo)) s = .next (answered q 0xAD#8 .ok (.released
        { removed := s.ret.log.length - kept.length, transferred := 0, oldest := kept.head?.map fun e => e.id
          oldestOpen := (kept.find? fun e => e.record.openSpill.isSome).map fun e => e.id }) (a.withRet { a.ret with log := kept })))

/-! ### Credits -/

/-- GRANT puts its credits into the grant list in consumption order, arms the credits-wanted flag where the pool was 0, and slot grant runs;
it is refused with a body of the wrong length, out of range, and with eight grants held. WITHDRAW takes credits from the end of the list, up
to the pool. GRANT_EXPIRY takes the first grant and posts one notice. Each counter follows. That the clock stands at the expiry or later is
log entry 2, and that out of range comes before a full list is log entry 59. -/
def Obligations.CreditsComeAndGo : Prop :=
  ∀ (m : Moment) (s : State),
    let a := arrive m s
    let c := s.drn.counters
    (PortFree s → ∀ q : Byte,
      exec (.grant m q .wrongLength) s = .next (answered q 0xB0#8 .refusedLength .empty a)
      ∧ exec (.withdraw m q .wrongLength) s = .next (answered q 0xB1#8 .refusedLength .empty a)
      ∧ (∀ f : GrantFields, f.count = 0 ∨ 255 < f.count ∨ f.lifetime = 0 ∨ 1440 < f.lifetime →
        exec (.grant m q (.fields f)) s = .next (answered q 0xB0#8 .refusedRange .empty a))
      ∧ (∀ f : GrantFields, 1 ≤ f.count → f.count ≤ 255 → 1 ≤ f.lifetime → f.lifetime ≤ 1440 →
        (8 ≤ s.drn.grants.length → exec (.grant m q (.fields f)) s = .next (answered q 0xB0#8 .refusedFull .empty a))
        ∧ (s.drn.grants.length < 8 → ∀ front back : List Grant, s.drn.grants = front ++ back →
          (∀ g ∈ front, g.expiry ≤ a.now + f.lifetime * 60) → (∀ g ∈ back, a.now + f.lifetime * 60 < g.expiry) →
          exec (.grant m q (.fields f)) s = .next (answered q 0xB0#8 .ok .empty (slotGrant (a.withDrn { s.drn with
            grants := front ++ { count := f.count, expiry := a.now + f.lifetime * 60 } :: back
            counters := { c with granted := min 4294967295 (c.granted + f.count) }
            armed := s.drn.armed || decide (pool s = 0) })))))
      ∧ (∀ n, n = 0 ∨ 2040 < n ∧ n ≠ 65535 → exec (.withdraw m q (.fields n)) s = .next (answered q 0xB1#8 .refusedRange .empty a))
      ∧ (grantsWf s.drn.grants → ∀ n, 1 ≤ n → n ≤ 2040 ∨ n = 65535 →
        let taken := if n = 65535 then pool s else min n (pool s)
        ∃ left : List Grant, (left.map fun g => g.count).sum + taken = pool s
          ∧ (∀ front g back, s.drn.grants = front ++ g :: back → (back.map fun g => g.count).sum ≤ taken →
            taken < g.count + (back.map fun g => g.count).sum →
            left = front ++ [{ g with count := g.count + (back.map fun g => g.count).sum - taken }])
          ∧ exec (.withdraw m q (.fields n)) s = .next (answered q 0xB1#8 .ok (.withdrawn taken (pool s - taken))
            (a.withDrn { s.drn with grants := left, counters := { c with withdrawn := min 4294967295 (c.withdrawn + taken) } }))))
    ∧ (s.run = .running → ∀ g rest, s.drn.grants = g :: rest →
      exec (.grantExpiry m) s = .next (refreshAlarms (post 0 (.creditExpired g.count g.expiry (rest.map fun x => x.count).sum)
        ((reachSecond g.expiry a).withDrn { s.drn with
          grants := rest, counters := { c with expired := min 4294967295 (c.expired + g.count) } }))))

/-- Slot grant moves the best-ranked eligible order to OPENING with a credit: the credit leaves the first grant in consumption order, and that
grant leaves the list with its last one; the consumed counter rises by one; ENGAGE is put to the bay's drain device with the order as originator;
and slot grant goes on from there. Where no other bay has the device, the ENGAGE waits or is on the line at the end. Slot grant ends when no slot
is free, no credit is left or no order is eligible; where it stops for want of credits with the credits-wanted flag armed it posts one notice and
disarms the flag, and with nothing to move and nothing to post it changes nothing. -/
def Obligations.SlotGrantServesByRank : Prop :=
  ∀ s : State,
    let t := slotGrant s
    let paid : List Grant := match s.drn.grants with
      | g :: rest => if g.count ≤ 1 then rest else { g with count := g.count - 1 } :: rest
      | [] => []
    let c := s.drn.counters
    let moved (b : Fin 8) (o : Order) : State := (s.withDrn { s.drn with
      grants := paid, counters := { c with consumed := min 4294967295 (c.consumed + 1) } }).setOrder b (some { o with
        state := .opening, credit := true })
    (freeSlots t = 0 ∨ pool t = 0 ∨ eligibleBays t = [])
    ∧ (∀ b o, s.order b = some o → eligible s b = true → (∀ x, eligible s x = true → x ≠ b → (s.bay b).rank < (s.bay x).rank) →
      0 < freeSlots s → 0 < pool s → t.order b = some { o with state := .opening, credit := true }
        ∧ ((s.bay b).device = none → t = slotGrant (moved b o))
        ∧ ∀ d, (s.bay b).device = some d → t = slotGrant (putDrive d .engage (.order b) (moved b o))
          ∧ ((∀ x, x ≠ b → (s.bay x).device ≠ some d) → CommandStands t d .engage (.order b)))
    ∧ (eligibleBays s = [] → t = s) ∧ (freeSlots s = 0 → t = s) ∧ (pool s = 0 → s.drn.armed = false → t = s)
    ∧ (∀ b, 0 < freeSlots s → pool s = 0 → s.drn.armed = true → eligible s b = true →
      (∀ x, eligible s x = true → x ≠ b → (s.bay b).rank < (s.bay x).rank) →
      t = post b.val (.creditsWanted (eligibleBays s).length (freeSlots s)) (s.withDrn { s.drn with armed := false }))

/-! ### Drain orders -/

/-- DRAIN is refused by the first check that applies, in the order in which the manual lists them (log entry 59; for a bay that is not enabled
the target is not checked against its record: log entry 20). On a bay without an order it creates a HOST order, which the site model and the
planner take, and is answered ACCEPTED; on a bay with an order that waits, opens or runs it updates it and is answered OK; both test a queued
order and run slot grant. The reply carries the order's state after that, or the mark that the test has retired it. -/
def Obligations.DrainCreatesOrUpdatesAnOrder : Prop :=
  ∀ (m : Moment) (q : Byte) (f : DrainFields) (s : State), PortFree s →
    let a := arrive m s
    (8 ≤ f.bay → exec (.drain m q (.fields f)) s = .next (answered q 0xB2#8 .refusedRange .empty a))
    ∧ ∀ b : Fin 8, f.bay = b.val →
      let r := s.bay b
      let outside := f.target ≠ 0 ∧ (f.target < r.empty ∨ r.crest < f.target)
      let target := if f.target = 0 then r.empty else f.target
      let hold : HoldCauses := presentHolds s b
      let fresh : Order := { source := .host, lots := f.lots, target := target, done := 0, total := 0, lot := none, credit := false
                             holds := hold, closing := none, cancelCause := none, failure := none, reshut := false
                             state := if hold.worksStop || hold.gauge || hold.hand then .held else .queued }
      let body (tested u : State) : ReplyBody := .drain (if testRetires tested b then none else (u.order b).map fun o => o.state)
      (255 < f.lots ∨ r.enabled = true ∧ outside → exec (.drain m q (.fields f)) s = .next (answered q 0xB2#8 .refusedRange .empty a))
      ∧ (f.lots ≤ 255 → r.enabled = false ∨ (r.device = none ∧ ¬ outside) →
        exec (.drain m q (.fields f)) s = .next (answered q 0xB2#8 .refusedUnconfigured .empty a))
      ∧ (f.lots ≤ 255 → r.enabled = true → r.device.isSome = true → ¬ outside →
        (s.order b = none →
          let created := sitePlanner (a.setOrder b (some fresh))
          let u := slotGrant (testQueued b created)
          exec (.drain m q (.fields f)) s = .next (answered q 0xB2#8 .accepted (body created u) u))
        ∧ ∀ o, s.order b = some o →
          (o.state = .closing ∨ o.state = .suspect → exec (.drain m q (.fields f)) s = .next (answered q 0xB2#8 .refusedState .empty a))
          ∧ (o.state ≠ .closing → o.state ≠ .suspect →
            let updated := a.setOrder b (some { o with lots := f.lots, target := target, source := .host })
            let u := slotGrant (testQueued b updated)
            exec (.drain m q (.fields f)) s = .next (answered q 0xB2#8 .ok (body updated u) u)))

/-- STOP_DRAIN is refused out of range, for a bay that is not enabled, and where the bay has no order or a SUSPECT one. Otherwise it sets the
auto-inhibit flag; a waiting order is retired with a DRAIN_CANCELLED of the cause HOST, its lots done and its total drained, and answered OK. An
order that opens or runs begins its close with the credit forfeited and RELEASE put to its drain device, with the order as originator (where no
other bay has the device, the RELEASE waits or is on the line at the end), and an order that closes to wait again is to be cancelled, both
answered ACCEPTED. The site model and the planner take a retirement, in a free order (log entry 7), and the planner takes the setting of the flag
last. That the flag is set before the retirement, so that the bay has no order after it, and that the planner takes the setting after it, is the
model's choice (log entry 28), as is the order of the refusals (log entry 59), that a notice carries no qualifier where its rule names none (log
entry 19), and that a total holds at its top (log entry 67). -/
def Obligations.StopDrainCancels : Prop :=
  ∀ (m : Moment) (q : Byte) (s : State), PortFree s →
    let a := arrive m s
    (∀ n, 8 ≤ n → exec (.stopDrain m q (.fields n)) s = .next (answered q 0xB3#8 .refusedRange .empty a))
    ∧ ∀ b : Fin 8,
      ((s.bay b).enabled = false → exec (.stopDrain m q (.fields b.val)) s = .next (answered q 0xB3#8 .refusedUnconfigured .empty a))
      ∧ ((s.bay b).enabled = true → s.order b = none ∨ (∃ o, s.order b = some o ∧ o.state = .suspect) →
        exec (.stopDrain m q (.fields b.val)) s = .next (answered q 0xB3#8 .refusedState .empty a))
      ∧ ∀ o, (s.bay b).enabled = true → s.order b = some o →
        let flagged := a.withInhibit (s.inhibit.put b (some .stopDrain))
        (o.state = .queued ∨ o.state = .held → ∃ t, exec (.stopDrain m q (.fields b.val)) s = .next t ∧ Replies t q 0xB3#8 .ok .empty
          ∧ t.order b = none ∧ t.inhibit = s.inhibit.put b (some .stopDrain) ∧ t.image = s.image ∧ t.ret = a.ret ∧ t.lvl = s.lvl
          ∧ t = answered q 0xB3#8 .ok .empty (plannerTake (sitePlanner (post b.val (.drainCancelled
            { lots := o.done, total := o.total, cause := .host, failure := none, closing := none }) (flagged.setOrder b none)))))
        ∧ (o.state = .opening ∨ o.state = .running → ∃ t x, exec (.stopDrain m q (.fields b.val)) s = .next t
          ∧ Replies t q 0xB3#8 .accepted .empty ∧ t.order b = some x ∧ x.state = .closing ∧ x.closing = some .cancel
          ∧ x.cancelCause = some .host ∧ x.credit = false ∧ x.lot = none
          ∧ t.drn.counters.forfeited = (if o.credit then min 4294967295 (s.drn.counters.forfeited + 1) else s.drn.counters.forfeited)
          ∧ t.inhibit = s.inhibit.put b (some .stopDrain) ∧ t.image = s.image ∧ t.ret = a.ret ∧ t.lvl = s.lvl
          ∧ t = answered q 0xB3#8 .accepted .empty (plannerTake (overtaken b { o with cancelCause := some .host } o.holds .cancel o.failure flagged))
          ∧ ∀ d, (s.bay b).device = some d → (∀ y, y ≠ b → (s.bay y).device ≠ some d) → CommandStands t d .release (.order b))
        ∧ (o.state = .closing →
          let x : Order := { o with closing := some .cancel, cancelCause := some .host }
          ∃ t, exec (.stopDrain m q (.fields b.val)) s = .next t ∧ Replies t q 0xB3#8 .accepted .empty
          ∧ t.order b = some (if o.closing = some .gap ∨ o.closing = some .worksStop ∨ o.closing = some .gauge then x else o)
          ∧ t = answered q 0xB3#8 .accepted .empty (plannerTake (if o.closing = some .gap ∨ o.closing = some .worksStop ∨ o.closing = some .gauge
            then flagged.setOrder b (some x) else flagged))
          ∧ t.inhibit = s.inhibit.put b (some .stopDrain) ∧ t.image = s.image ∧ t.ret = a.ret ∧ t.lvl = s.lvl)

/-- LOT_DEADLINE closes a RUNNING order as STALLED with its credit forfeited, and changes nothing otherwise. An acceptance of a RUNNING
order's bay measures the lot; a complete lot counts and uses its credit up; the target reached, or the last lot ordered, closes the order as
DONE; otherwise the order goes on into a new lot with a new credit, and nothing is put on the line, or it closes for a GAP. At each of these
closes RELEASE is put to the bay's drain device with the order as originator, where the bay has one, so that it waits or is on the line, and the
sounding interval follows; nothing else changes. That the clock stands at the deadline or later is log entry 2, and that lots done and total
drained hold at their top is log entry 67. -/
def Obligations.LotsEndByVolumeTargetOrTime : Prop :=
  (∀ (m : Moment) (b : Fin 8) (s : State), s.run = .running →
    ((∀ o, s.order b = some o → o.state ≠ .running) → exec (.lotDeadline m b) s = .next (refreshAlarms (arrive m s)))
    ∧ ∀ o l, s.order b = some o → o.state = .running → o.lot = some l → ∃ t, exec (.lotDeadline m b) s = .next t
      ∧ t.order b = some { o with
        state := .closing, closing := some .stalled, lot := none, credit := false
        total := if o.credit then min 4294967295 (o.total + l.drained.toNat) else o.total }
      ∧ t.drn.counters.forfeited = (if o.credit then min 4294967295 (s.drn.counters.forfeited + 1) else s.drn.counters.forfeited)
      ∧ t.drn.grants = s.drn.grants ∧ t.image = s.image ∧ t.ret = (reachSecond l.deadline (arrive m s)).ret ∧ t.lvl = s.lvl
      ∧ (∀ d, (s.bay b).device = some d → CommandStands t d .release (.order b))
      ∧ t = refreshAlarms (overtaken b o o.holds .stalled o.failure (reachSecond l.deadline (arrive m s))))
  ∧ ∀ (b : Fin 8) (value volume : Nat) (s : State) (o : Order) (l : Lot), s.order b = some o → o.state = .running → o.lot = some l →
    let drained : Int := (l.startVolume : Int) - (volume : Int)
    let complete := (s.image.drain.lotVolume : Int) ≤ drained
    let total := min 4294967295 (o.total + drained.toNat)
    let done := min 65535 (o.done + 1)
    let goesOn := 0 < pool s ∧ (0 < freeSlots s ∨ ∀ x, eligible s x = true → (s.bay b).rank ≤ (s.bay x).rank)
    let next : Lot := { startVolume := volume, startTime := s.now, deadline := s.now + s.image.drain.lotTime, drained := 0 }
    let t := lotProgress b value volume s
    let closes (cause : ClosingCause) (lots : Nat) : Prop :=
      let x : Order := { o with state := .closing, closing := some cause, lot := none, credit := false, total := total, done := lots }
      t.order b = some x ∧ t.drn.counters = s.drn.counters ∧ t.drn.grants = s.drn.grants
      ∧ (∀ d, (s.bay b).device = some d → CommandStands t d .release (.order b))
      ∧ t = intervalChanged b (putForOrder b .release (s.setOrder b (some x)))
    (¬ complete → o.target < value → t = s.setOrder b (some { o with lot := some { l with drained := drained } }))
    ∧ (¬ complete → value ≤ o.target → closes .done o.done)
    ∧ (complete → value ≤ o.target ∨ o.lots ≠ 0 ∧ o.lots ≤ done → closes .done done)
    ∧ (complete → o.target < value → o.lots = 0 ∨ done < o.lots →
      (¬ goesOn → closes .gap done)
      ∧ (goesOn → t.order b = some { o with credit := true, total := total, done := done, lot := some next }
        ∧ t.drn.grants = takeCredit s.drn.grants
        ∧ t.drn.counters = { s.drn.counters with consumed := min 4294967295 (s.drn.counters.consumed + 1) } ∧ t.act = s.act))

/-- RESHUT of a SUSPECT order that waits for none, and CLEAR_DEVICE of a device that no order uses, put RESET to the device; POLL_DEVICE puts
QUERY; all are answered ACCEPTED, and are refused otherwise. A command put to a busy line takes its place in the waiting queue: a drive
command in place of the device's waiting drive entry, a query only where none waits. That a drive entry superseded so is its device's last
outcome where it waited out a back-off, and records none where it was never taken, is the model's choice (log entry 23), as is the order of
the refusals of RESHUT (log entry 59). -/
def Obligations.DeviceCommandsArePut : Prop :=
  (∀ (m : Moment) (q : Byte) (s : State), PortFree s →
    let a := arrive m s
    (∀ n, 8 ≤ n → exec (.reshut m q (.fields n)) s = .next (answered q 0xB4#8 .refusedRange .empty a))
    ∧ (∀ b : Fin 8,
      ((s.bay b).enabled = false → exec (.reshut m q (.fields b.val)) s = .next (answered q 0xB4#8 .refusedUnconfigured .empty a))
      ∧ ((s.bay b).enabled = true → (∀ o, s.order b = some o → o.state ≠ .suspect ∨ o.reshut = true) →
        exec (.reshut m q (.fields b.val)) s = .next (answered q 0xB4#8 .refusedState .empty a))
      ∧ ∀ o d, (s.bay b).enabled = true → s.order b = some o → o.state = .suspect → o.reshut = false → (s.bay b).device = some d →
        exec (.reshut m q (.fields b.val)) s = .next (answered q 0xB4#8 .accepted .empty
          (putDrive d .reset (.order b) (a.setOrder b (some { o with reshut := true })))))
    ∧ (∀ n, 16 ≤ n → exec (.clearDevice m q (.fields n)) s = .next (answered q 0xC1#8 .refusedRange .empty a)
      ∧ exec (.pollDevice m q (.fields n)) s = .next (answered q 0xC2#8 .refusedRange .empty a))
    ∧ ∀ d : Fin 16,
      (s.image.devices.at_ d = none → exec (.clearDevice m q (.fields d.val)) s = .next (answered q 0xC1#8 .refusedUnconfigured .empty a)
        ∧ exec (.pollDevice m q (.fields d.val)) s = .next (answered q 0xC2#8 .refusedUnconfigured .empty a))
      ∧ ((s.image.devices.at_ d).isSome = true →
        (deviceInUse s d = true → exec (.clearDevice m q (.fields d.val)) s = .next (answered q 0xC1#8 .refusedState .empty a))
        ∧ (deviceInUse s d = false → exec (.clearDevice m q (.fields d.val)) s
          = .next (answered q 0xC1#8 .accepted (.cleared (waitingDrive s d).isSome) (putDrive d .reset .host a)))
        ∧ exec (.pollDevice m q (.fields d.val)) s
          = .next (answered q 0xC2#8 .accepted (.polled (waitingQuery s d).isNone) (putQuery d .host a))))
  ∧ ∀ (d : Fin 16) (c : LineCommand) (orig : Originator) (s : State), lineQueueWf s.act.queue → s.act.current.isSome = true →
    let entry (x : LineCommand) : LineEntry := { device := d, command := x, orig := orig, notBefore := none }
    (c ≠ .query →
      (putDrive d c orig s).act = { s.act with
        queue := joinLine (entry c) (s.act.queue.filter fun e => !e.isDriveOf d)
        lasts := match waitingDrive s d with
          | some w => if w.notBefore.isSome then s.act.lasts.put d (some
              { command := w.command, orig := w.orig, outcome := .superseded, time := s.now }) else s.act.lasts
          | none => s.act.lasts })
    ∧ (waitingQuery s d = none → putQuery d orig s = s.withAct { s.act with queue := joinLine (entry .query) s.act.queue })
    ∧ ((waitingQuery s d).isSome = true → putQuery d orig s = s)

/-- INHIBIT_AUTO is refused out of range and for a bay that is not enabled (in this order: log entry 59). ON sets the bay's flag with the
cause HOST; OFF clears it; then the planner evaluates, and the reply carries the flag and whether an order was created for the bay. After an
evaluation of the planner every bay that was a candidate has an order of source AUTO with the target of its table, and none is a candidate. That
the mode is evaluated once, after an evaluation of the planner that has created orders has passed the last bay, is log entry 29. -/
def Obligations.InhibitAutoAndThePlanner : Prop :=
  (∀ (m : Moment) (q : Byte) (s : State), PortFree s →
    let a := arrive m s
    (∀ n, 8 ≤ n → exec (.inhibitAutoOn m q n) s = .next (answered q 0xB8#8 .refusedRange .empty a)
      ∧ exec (.inhibitAutoOff m q n) s = .next (answered q 0xB8#8 .refusedRange .empty a))
    ∧ ∀ b : Fin 8,
      ((s.bay b).enabled = false → exec (.inhibitAutoOn m q b.val) s = .next (answered q 0xB8#8 .refusedUnconfigured .empty a)
        ∧ exec (.inhibitAutoOff m q b.val) s = .next (answered q 0xB8#8 .refusedUnconfigured .empty a))
      ∧ ((s.bay b).enabled = true →
        exec (.inhibitAutoOn m q b.val) s = .next (answered q 0xB8#8 .ok (.inhibit (some .host) false)
          (plannerTake (a.withInhibit (s.inhibit.put b (some .host)))))
        ∧ let u := plannerTake (a.withInhibit (s.inhibit.put b none))
          exec (.inhibitAutoOff m q b.val) s
            = .next (answered q 0xB8#8 .ok (.inhibit none ((s.order b).isNone && (u.order b).isSome)) u)))
  ∧ ∀ s : State,
    anyCandidate (plannerEvaluation s) = false
    ∧ (∀ b, candidateUnmet s b = none → ∃ o, (plannerEvaluation s).order b = some o ∧ o.source = .auto ∧ o.lots = 0
      ∧ some o.target = targetLevel s b (plannerTarget s))
    ∧ (∀ b, (candidateUnmet s b).isSome = true → s.order b = none → (plannerEvaluation s).order b = none)
    ∧ (anyCandidate s = false → plannerEvaluation s = s)

/-! ### The phases of a sounding -/

/-- SOUNDING_DUE and SOUNDING_BACKOFF_PASSED: an idle engine takes the first ready entry in queue order, on the records and parameters as they
stand, into BURSTING where the supply is on and ready, and otherwise into CHARGING with the supply on. A busy engine takes nothing, and
nothing is taken where no entry is ready. A later attempt of a joined sounding is joined. That the clocks stand at the due or not-before time
or later is log entry 2, that an entry holds the joined flag of its sounding is log entry 44, and that the WEAK_DRIVE mark is clear at every
taking is log entry 52. -/
def Obligations.IdleEngineTakesTheFirstReadyEntry : Prop :=
  ∀ (m : Moment) (b : Fin 8) (e0 : SoundingEntry) (s : State), s.run = .running → waitingEntry s b = some e0 →
    let due := reachSecond e0.due (arrive m s)
    let passed (n : Nat) := reachFast n (arrive m s)
    let ready (u : State) (x : SoundingEntry) : Prop := (∀ n, x.notBefore = some n → n ≤ u.clock.fast) ∧ (x.urgent.isSome = true ∨ x.due ≤ u.now)
    let began (u : State) (e : SoundingEntry) : InFlight :=
      let r := s.bay e.bay
      let p := s.image.sounding
      { phase := if s.snd.supplyOn && s.snd.supplyReady then .bursting else .charging
        bay := e.bay, due := e.due, urgent := e.urgent, attempt := e.attempt, frequency := r.frequency, pulses := r.pulses
        blanking := r.blanking, step := r.step, tolerance := r.tolerance, mounting := r.mounting, charge := p.charge, stuck := p.stuck
        speed := p.speed, joined := e.joined, discard := false, weak := false, chargeStart := u.clock.fast, burstStart := u.clock.fast, tof := 0 }
    let took (u : State) (e : SoundingEntry) : State := u.withSnd { s.snd with
      queue := s.snd.queue.filter fun x => x.bay != e.bay
      engine := some (began u e), supplyOn := true, supplyReady := s.snd.supplyOn && s.snd.supplyReady }
    (s.snd.engine.isSome = true ∨ (∀ x ∈ s.snd.queue, ¬ ready due x) → exec (.soundingDue m b) s = .next (refreshAlarms due))
    ∧ (∀ n, e0.notBefore = some n → s.snd.engine.isSome = true ∨ (∀ x ∈ s.snd.queue, ¬ ready (passed n) x) →
      exec (.soundingBackoffPassed m b) s = .next (refreshAlarms (passed n)))
    ∧ (s.snd.engine = none → ∀ front e back, s.snd.queue = front ++ e :: back →
      ((∀ x ∈ front, ¬ ready due x) → ready due e → exec (.soundingDue m b) s = .next (refreshAlarms (took due e)))
      ∧ ∀ n, e0.notBefore = some n → (∀ x ∈ front, ¬ ready (passed n) x) → ready (passed n) e →
        exec (.soundingBackoffPassed m b) s = .next (refreshAlarms (took (passed n) e)))

/-- SUPPLY_READY of a supply that is on sets the count of expiries to 0, and a charging engine begins its burst. CHARGE_DEADLINE_EXPIRED of a
charging engine counts the expiry, begins the burst marked WEAK_DRIVE, and posts one notice where the count becomes 3. Both change nothing
otherwise. That fast time stands at the deadline or later is log entry 2. -/
def Obligations.ChargingEndsInABurst : Prop :=
  ∀ (m : Moment) (s : State), s.run = .running →
    let a := arrive m s
    (s.snd.supplyOn = false → exec (.supplyReady m) s = .next (refreshAlarms a))
    ∧ (s.snd.supplyOn = true →
      ((∀ f, s.snd.engine = some f → f.phase ≠ .charging) →
        exec (.supplyReady m) s = .next (refreshAlarms (a.withSnd { s.snd with supplyReady := true, expiries := 0 })))
      ∧ ∀ f, s.snd.engine = some f → f.phase = .charging → exec (.supplyReady m) s = .next (refreshAlarms (a.withSnd { s.snd with
        supplyReady := true, expiries := 0, engine := some { f with phase := .bursting, burstStart := a.clock.fast } })))
    ∧ ((∀ f, s.snd.engine = some f → f.phase ≠ .charging) → exec (.chargeDeadlineExpired m) s = .next (refreshAlarms a))
    ∧ ∀ f, s.snd.engine = some f → f.phase = .charging →
      let u := reachFast (f.chargeStart + f.charge * 1000) a
      let burst := u.withSnd { s.snd with
        expiries := min 255 (s.snd.expiries + 1), engine := some { f with phase := .bursting, weak := true, burstStart := u.clock.fast } }
      exec (.chargeDeadlineExpired m) s
        = .next (refreshAlarms (if s.snd.expiries = 2 then post 0 (.supplyFault 3 f.bay.val) burst else burst))

/-- DRIVE_STUCK and a short BURST_END finish the sounding with DRIVE_FAULT, a whole BURST_END begins LISTENING; ECHO_CROSSING after blanking
and before the end of the listen window begins GATING with its time of flight, and is ignored otherwise; LISTEN_WINDOW_END finishes with
LOST_ECHO. A sounding marked to be discarded ends without a reading. In another phase the four change nothing. That fast time stands at the
crossing or the end of the window or later is log entry 2; that a crossing at the exact end of blanking counts is log entry 11; the order of
the effects of a finish is log entry 9. -/
def Obligations.BurstsAndEchoesEndOrFinish : Prop :=
  ∀ (m : Moment) (s : State), s.run = .running →
    let a := arrive m s
    ((∀ f, s.snd.engine = some f → f.phase ≠ .bursting) → exec (.driveStuck m) s = .next (refreshAlarms a)
      ∧ ∀ n, exec (.burstEnd m n) s = .next (refreshAlarms a))
    ∧ ((∀ f, s.snd.engine = some f → f.phase ≠ .listening) → exec (.listenWindowEnd m) s = .next (refreshAlarms a)
      ∧ ∀ n, exec (.echoCrossing m n) s = .next (refreshAlarms a))
    ∧ (∀ f, s.snd.engine = some f → f.phase = .bursting →
      (∀ n, f.pulses ≤ n → exec (.burstEnd m n) s
        = .next (refreshAlarms (a.withSnd { s.snd with engine := some { f with phase := .listening } })))
      ∧ (f.discard = false → (∃ t, exec (.driveStuck m) s = .next t ∧ FinishedWith s a t f .driveFault none (some .stuck) none)
        ∧ ∀ n, n < f.pulses → ∃ t, exec (.burstEnd m n) s = .next t ∧ FinishedWith s a t f .driveFault none (some .short) none)
      ∧ (f.discard = true → (∃ t, exec (.driveStuck m) s = .next t ∧ DiscardEnded s a t f)
        ∧ ∀ n, n < f.pulses → ∃ t, exec (.burstEnd m n) s = .next t ∧ DiscardEnded s a t f))
    ∧ ∀ f, s.snd.engine = some f → f.phase = .listening →
      let window := 2 * (f.mounting + 200) * 1000 / f.speed
      let ended := reachFast (f.burstStart + window) a
      (∀ tof,
        let u := reachFast (f.burstStart + tof) a
        (f.pulses * 1000 + f.blanking * 1000 * f.frequency ≤ tof * f.frequency → tof < window → exec (.echoCrossing m tof) s
          = .next (refreshAlarms (u.withSnd { s.snd with engine := some { f with phase := .gating, tof := tof } })))
        ∧ (tof * f.frequency < f.pulses * 1000 + f.blanking * 1000 * f.frequency ∨ window ≤ tof →
          exec (.echoCrossing m tof) s = .next (refreshAlarms u)))
      ∧ (f.discard = false → ∃ t, exec (.listenWindowEnd m) s = .next t ∧ FinishedWith s ended t f .lostEcho none none none)
      ∧ (f.discard = true → ∃ t, exec (.listenWindowEnd m) s = .next t ∧ DiscardEnded s ended t f)

/-- SOUNDING_GATE_COMPLETE with a frequency within the tolerance finishes with GOOD and the level of the time of flight, which a bay without
an acceptance time accepts, or with OUT_OF_RANGE where that level lies below 0. A frequency outside it, and SOUNDING_GATE_TIMEOUT, are
interference: attempts 0 to 2 go back into the queue with a delay within the range of the attempt, whichever value the part uses, and attempt 3
finishes with INTERFERED. A sounding marked to be discarded ends without a reading. A level event that a finish leads to is taken once by each
of the site model, the spill accountant, the drain scheduler and the planner. The measured frequency is held as the time of the 16
half-periods (log entry 12), the delay and the order of the takers are the model's free values (log entries 6 and 7), that the entry holds the
joined flag of its sounding is log entry 44, and the order of the effects of a finish is log entry 9. -/
def Obligations.TheGateDecides : Prop :=
  (∀ (b : Fin 8) (ev : LevelEvent) (u : State),
    (∃ l : List LevelTaker, l.Perm [.site, .spill, .drain, .planner] ∧ (u.free.schedule = [] → l = [.site, .spill, .drain, .planner])
      ∧ handLevelEvent b ev u = l.foldl (takeLevelEvent b ev) (dropChoice u))
    ∧ takeLevelEvent b ev u .site = evaluateMode u ∧ takeLevelEvent b ev u .planner = plannerTake u
    ∧ (∀ before value volume time previous, ev = .acceptance before value volume time previous →
      takeLevelEvent b ev u .spill = spillAcceptance b value time previous u
      ∧ takeLevelEvent b ev u .drain = slotGrant (
        let freed := changeHolds b (fun h => { h with gauge := false }) u
        if bayRunning freed b then lotProgress b value volume freed else testQueued b freed))
    ∧ ∀ before after value volume, ev = .qualityChange before after value volume →
      (after = .stale ∨ after = .float ∨ after = .none →
        takeLevelEvent b ev u .spill = spillLoss b u ∧ takeLevelEvent b ev u .drain = gaugeLoss b u)
      ∧ (after = .good ∨ after = .held → takeLevelEvent b ev u .spill = u ∧ takeLevelEvent b ev u .drain = u))
  ∧ ∀ (m : Moment) (s : State) (f : InFlight), s.run = .running → s.snd.engine = some f → f.phase = .gating →
    let a := arrive m s
    let raw : Int := (f.mounting : Int) - ((f.tof * f.speed / 2000 : Nat) : Int)
    let passes (n : Nat) : Prop := f.frequency * (100 - f.tolerance) * n ≤ 800000000 ∧ 800000000 ≤ f.frequency * (100 + f.tolerance) * n
    let retried (c : Instr) (low high : Nat) : Prop := ∃ d, low ≤ d ∧ d ≤ high ∧ exec c s = .next (refreshAlarms (engineIdle ((queueEntry
      { bay := f.bay, due := f.due, urgent := f.urgent, attempt := f.attempt + 1, notBefore := some (a.clock.fast + d), joined := f.joined } a).withFree
        { s.free with delays := s.free.delays + 1 })))
    let interferes (c : Instr) : Prop :=
      (f.discard = true → ∃ t, exec c s = .next t ∧ DiscardEnded s a t f)
      ∧ (f.discard = false → (f.attempt = 0 → retried c 10000 40000) ∧ (f.attempt = 1 → retried c 40000 120000)
        ∧ (f.attempt = 2 → retried c 120000 360000)
        ∧ (3 ≤ f.attempt → ∃ t, exec c s = .next t ∧ FinishedWith s a t f .interfered none none none))
    (∀ n, ¬ passes n → interferes (.soundingGateComplete m n)) ∧ interferes (.soundingGateTimeout m)
    ∧ ∀ n, passes n →
      (f.discard = true → ∃ t, exec (.soundingGateComplete m n) s = .next t ∧ DiscardEnded s a t f)
      ∧ (f.discard = false → raw < 0 → ∃ t, exec (.soundingGateComplete m n) s = .next t ∧ FinishedWith s a t f .outOfRange none none (some n))
      ∧ (f.discard = false → 0 ≤ raw → ∃ t, exec (.soundingGateComplete m n) s = .next t
        ∧ FinishedWith s a t f .good (some raw.toNat) none (some n)
        ∧ ((s.level f.bay).accepted = none → (t.level f.bay).value = some raw.toNat ∧ (t.level f.bay).quality = .good
          ∧ (t.level f.bay).accepted = some a.now))

/-- The level filter: a GOOD reading is accepted where the record has no acceptance time, or lies within slew of the value or of the candidate;
otherwise it becomes the candidate and a GOOD level HELD. Every completion without an acceptance raises the miss count, and at the stale
limit, or with a channel that has just failed, a GOOD or HELD level becomes STALE, or FLOAT at the float height while the float is active. An
acceptance is handed on with the quality before it, the value, the volume, its time and the acceptance time before it, after the test of
disagreement (log entry 40). No other bay's level changes. -/
def Obligations.LevelFilterAcceptsWithinSlew : Prop :=
  ∀ (b : Fin 8) (time : Nat) (failed : Bool) (s : State),
    let r := s.level b
    let within (x h h0 : Nat) : Prop := ((x : Int) - (h : Int)).natAbs ≤ (s.bay b).slew * (time - h0) + 20
    let misses := min 255 (r.misses + 1)
    let limit := failed = true ∨ s.image.staleLimit ≤ misses
    let floats := s.lvl.floats.at_ b = .active
    let missed (before : Quality) (x : LevelRecord) : Prop := x.accepted = r.accepted ∧ x.misses = misses
      ∧ (¬ limit ∨ (before ≠ .good ∧ before ≠ .held) → x.quality = before ∧ x.value = r.value)
      ∧ (limit → before = .good ∨ before = .held →
        (floats → x.quality = .float ∧ x.value = some (s.bay b).floatHeight) ∧ (¬ floats → x.quality = .stale ∧ x.value = r.value))
    (∀ reading, ∀ c, c ≠ b → (levelCompletion b reading time failed s).level c = s.level c)
    ∧ (missed r.quality ((levelCompletion b none time failed s).level b)
      ∧ ((levelCompletion b none time failed s).level b).candidate = r.candidate)
    ∧ ∀ level,
      let t := (levelCompletion b (some level) time failed s).level b
      let taken : Prop := t.value = some level ∧ t.quality = .good ∧ t.accepted = some time ∧ t.candidate = none ∧ t.misses = 0
        ∧ levelCompletion b (some level) time failed s
          = handLevelEvent b (.acceptance r.quality level (volumeAt (s.bay b).stage level) time r.accepted) (testDisagreement b (s.setLevel b
            { r with value := some level, quality := .good, accepted := some time, candidate := none, misses := 0 }))
      (r.accepted = none → taken)
      ∧ ∀ v h0, r.accepted = some h0 → r.value = some v →
        (within level v h0 → taken)
        ∧ (∀ c, r.candidate = some c → within level c.level c.time → taken)
        ∧ (¬ within level v h0 → (∀ c, r.candidate = some c → ¬ within level c.level c.time) →
          t.candidate = some { level := level, time := time } ∧ missed (if r.quality = .good then .held else r.quality) t)

/-! ### The actuator line -/

/-- A frame in answer to the current transaction. LOCAL puts the device under hand control; FAULT, or the position FAULT (beside a NAK by log
entry 42, beside an ACK with the toggle left by log entry 54), makes it FAULTED; a NAK below the limit returns the entry with a not-before time,
and at the limit, or above a lowered one (log entry 62), makes the device FAULTED. An ACK of a drive command handles the toggle, and completes it
or begins a watch; an ACK of the RESET that opens an ENGAGE sets the state from its position, on an ACK_ONLY device too (log entry 68), ends an
older watch SUPERSEDED (log entry 25), and sends the ENGAGE at once; an ACK of a QUERY follows the position. A drive entry that returns behind a
newer one is superseded, which is its device's last outcome (log entry 23), and a query that returns behind a waiting one is dropped. The line
takes its next entry after all the steps of an event (log entry 48). A movement deadline holds the command of the transaction that began it (log
entry 24). A frame that is not a valid reply, one with a wrong check among them, is sent for again, with the timeout and the retry limit as they
stand then (log entry 33), or ends the transaction LOST. A frame while no attempt waits has no effect: without a transaction, and until the
request frame has ended, 3,125 microseconds after its start (log entry 51). -/
def Obligations.ActuatorRepliesTakeEffect : Prop :=
  ∀ (m : Moment) (s : State), s.run = .running →
    let a := arrive m s
    (s.act.current = none → ∀ bytes, exec (.actuatorReply m bytes) s = .next (refreshAlarms a))
    ∧ (∀ t : Transaction, s.act.current = some t → a.clock.fast < t.sentAt + 3125 →
      ∀ bytes, exec (.actuatorReply m bytes) s = .next (refreshAlarms a))
    ∧ ∀ (t : Transaction) (r : DeviceRec), s.act.current = some t → s.image.devices.at_ t.device = some r → r.address ≤ 31 →
      t.sentAt + 3125 ≤ a.clock.fast →
      let d := t.device
      let v := s.device d
      let drive := t.command ≠ .query
      let ofWatch (oc : LineOutcome) : Option LastOutcome := match v.watch with
        | some w => some { command := w.command, orig := w.orig, outcome := oc, time := a.now }
        | none => s.last d
      let ofEntry (oc : LineOutcome) : Option LastOutcome :=
        if t.command = .query then ofWatch oc else some { command := t.command, orig := t.orig, outcome := oc, time := a.now }
      let othersStay (x : State) : Prop := ∀ y, y ≠ d → x.device y = s.device y ∧ LastFollows s x y (s.last y)
      let watchTold (oc : LineOutcome) : Option EntryEnd := v.watch.map fun w => { command := w.command, orig := w.orig, outcome := oc }
      let entryTold (oc : LineOutcome) : Option EntryEnd :=
        if t.command = .query then none else some { command := t.command, orig := t.orig, outcome := oc }
      let concluded (watch entry : Option EntryEnd) (u : State) : State := concludeEvent d v.state watch entry t.command u
      let answering : State := a.setDevice d { v with naks := 0 }
      let position (po : Byte) : LinePosition := if po = 0#8 then .closed else if po = 1#8 then .opened else .moving
      let covered (st po : Byte) : List Byte :=
        [byteOf r.address, byteOf r.kind.code, byteOf t.exchange.code, if t.toggle then 1#8 else 0#8, st, po]
      let reply (st po : Byte) : Instr := .actuatorReply m (0x3C#8 :: covered st po ++ checkBytes (covered st po))
      let outOfService (c : Instr) (st : DeviceState) (oc : LineOutcome) : Prop := ∃ x, exec c s = .next x
        ∧ (x.device d).state = st ∧ (x.device d).naks = 0 ∧ (x.device d).watch = none ∧ (x.device d).deadline = none
        ∧ (x.device d).toggle = v.toggle ∧ (x.device d).inStep = v.inStep ∧ othersStay x ∧ x.image = s.image
        ∧ x.ret = a.ret ∧ x.lvl = s.lvl
        ∧ LastFollows s x d (ofEntry oc)
        ∧ x = refreshAlarms (lineIdle (concluded (watchTold oc) (entryTold oc) (enterState d st answering)))
      (∀ po : Byte, po.toNat ≤ 3 → outOfService (reply 3#8 po) .hand .hand ∧ outOfService (reply 2#8 po) (.faulted .reported) .faulted)
      ∧ outOfService (reply 0#8 3#8) (.faulted .reported) .faulted ∧ outOfService (reply 1#8 3#8) (.faulted .reported) .faulted
      ∧ (∀ po : Byte, po.toNat ≤ 2 →
        (s.image.actuator.nakLimit ≤ v.naks + 1 → outOfService (reply 1#8 po) (.faulted .busy) .faulted)
        ∧ (v.naks + 1 < s.image.actuator.nakLimit → (drive → waitingDrive s d = none) → (¬ drive → waitingQuery s d = none) →
          let e : LineEntry := { device := d, command := t.command, orig := t.orig
                                 notBefore := some (a.clock.fast + s.image.actuator.nakBackoff * 1000) }
          ∃ x, exec (reply 1#8 po) s = .next x ∧ x.act.devices = s.act.devices.put d { v with naks := v.naks + 1 }
            ∧ x.act.lasts = s.act.lasts
            ∧ (e ∈ x.act.queue ∨ ∃ c, x.act.current = some c ∧ c.device = d ∧ c.command = t.command))
        ∧ (v.naks + 1 < s.image.actuator.nakLimit → drive → (waitingDrive s d).isSome = true → ∃ x, exec (reply 1#8 po) s = .next x
          ∧ x.act.devices = s.act.devices.put d { v with naks := v.naks + 1 }
          ∧ x.act.lasts = s.act.lasts.put d (some { command := t.command, orig := t.orig, outcome := .superseded, time := a.now }))
        ∧ (v.naks + 1 < s.image.actuator.nakLimit → ¬ drive → (waitingQuery s d).isSome = true →
          exec (reply 1#8 po) s = .next (refreshAlarms (lineIdle (a.setDevice d { v with naks := v.naks + 1 })))))
      ∧ (∀ po : Byte, po.toNat ≤ 2 → drive → (t.command = .engage → t.exchange = .engage) →
        let target : DeviceState := if t.command = .engage then .opened else .closed
        let confirmed := r.completion = .ackOnly ∨ po = (if t.command = .engage then 1#8 else 0#8)
        let acknowledged : State := a.setDevice d { v with
          naks := 0, watch := none, inStep := if t.exchange = .reset then true else v.inStep
          toggle := if t.exchange = .reset then true else if t.exchange = .query then v.toggle else !v.toggle }
        let moves : State := enterState d .moving acknowledged
        ∃ x, exec (reply 0#8 po) s = .next x ∧ (x.device d).naks = 0 ∧ othersStay x
          ∧ (x.device d).toggle = (if t.exchange = .reset then true else if t.exchange = .query then v.toggle else !v.toggle)
          ∧ (x.device d).inStep = (if t.exchange = .reset then true else v.inStep)
          ∧ (confirmed → (x.device d).state = target ∧ (x.device d).watch = none ∧ (x.device d).deadline = none
            ∧ LastFollows s x d (ofEntry .done)
            ∧ x = refreshAlarms (lineIdle (concluded (watchTold .superseded) (entryTold .done) (enterState d target acknowledged))))
          ∧ (¬ confirmed → (x.device d).state = .moving ∧ (x.device d).deadline = some { due := a.now + r.limit, command := t.command }
            ∧ (x.device d).watch = some { target := if t.command = .engage then .opened else .closed, orig := t.orig, command := t.command }
            ∧ LastFollows s x d (ofWatch .superseded)
            ∧ x = refreshAlarms (lineIdle (concluded (watchTold .superseded) none (moves.setDevice d { moves.device d with
              deadline := some { due := a.now + r.limit, command := t.command }
              watch := some { target := if t.command = .engage then .opened else .closed, orig := t.orig, command := t.command } })))))
      ∧ (∀ po : Byte, po.toNat ≤ 2 → t.command = .engage → t.exchange = .reset → ∃ x c, exec (reply 0#8 po) s = .next x
        ∧ (x.device d).toggle = true ∧ (x.device d).inStep = true ∧ (x.device d).naks = 0 ∧ x.act.current = some c ∧ c.device = d
        ∧ c.command = .engage ∧ c.exchange = .engage ∧ c.toggle = true ∧ c.resends = 0 ∧ c.orig = t.orig ∧ c.sentAt = a.clock.fast
        ∧ (x.device d).watch = none ∧ othersStay x ∧ LastFollows s x d (ofWatch .superseded)
        ∧ (po = 2#8 → v.state ≠ .moving → (x.device d).deadline = some { due := a.now + r.limit, command := .engage })
        ∧ let u := concluded (watchTold .superseded) none (takePosition d .engage (position po)
            (a.setDevice d { v with naks := 0, watch := none, toggle := true, inStep := true }))
          x = refreshAlarms (u.withAct { u.act with current := some c }))
      ∧ (∀ st po c1 c2 : Byte, [c1, c2] ≠ checkBytes (covered st po) →
        judgeReply r.address r.kind t.exchange t.toggle (0x3C#8 :: (covered st po ++ [c1, c2])) = none)
      ∧ (t.command = .query → v.watch = none → ∃ x y z, exec (reply 0#8 0#8) s = .next x ∧ exec (reply 0#8 1#8) s = .next y
        ∧ exec (reply 0#8 2#8) s = .next z ∧ (x.device d).state = .closed ∧ (y.device d).state = .opened ∧ (z.device d).state = .moving
        ∧ (v.state ≠ .moving → (z.device d).deadline = some { due := a.now + r.limit, command := .query })
        ∧ ∀ po : Byte, po.toNat ≤ 2 → exec (reply 0#8 po) s
          = .next (refreshAlarms (lineIdle (concluded none none (takePosition d .query (position po) answering)))))
      ∧ (∀ w, t.command = .query → v.watch = some w →
        let reached : Byte := if w.target = .opened then 1#8 else 0#8
        (∀ po : Byte, po.toNat ≤ 2 → po ≠ reached →
          exec (reply 0#8 po) s = .next (refreshAlarms (lineIdle (a.setDevice d { v with naks := 0 }))))
        ∧ ∃ x, exec (reply 0#8 reached) s = .next x ∧ (x.device d).state = (if w.target = .opened then .opened else .closed)
          ∧ (x.device d).watch = none ∧ (x.device d).deadline = none
          ∧ LastFollows s x d (ofWatch .done)
          ∧ x = refreshAlarms (lineIdle (concluded (watchTold .done) none
            (enterState d (if w.target = .opened then .opened else .closed) answering))))
      ∧ (∀ got : List Byte, got.length = 8 → judgeReply r.address r.kind t.exchange t.toggle (0x3C#8 :: got) = none →
        let bad : Instr := .actuatorReply m (0x3C#8 :: got)
        (t.resends < t.retries → exec bad s = .next (refreshAlarms (a.withAct { s.act with current := some { t with
          resends := t.resends + 1, timeout := s.image.actuator.timeout, retries := s.image.actuator.retries, sentAt := a.clock.fast } })))
        ∧ (t.retries ≤ t.resends → ∃ x, exec bad s = .next x ∧ (x.device d).state = .lost .badReply ∧ (x.device d).watch = none
          ∧ (x.device d).naks = v.naks ∧ (drive → (x.device d).inStep = false) ∧ othersStay x ∧ LastFollows s x d (ofEntry .lost)
          ∧ x = refreshAlarms (lineIdle (concluded (watchTold .lost) (entryTold .lost) (enterState d (.lost .badReply)
            (if drive then a.setDevice d { v with inStep := false } else a))))))

/-- ACTUATOR_RESPONSE_TIMEOUT sends the same frame again, with the timeout and the retry limit as they stand then (log entry 33), or ends the
transaction LOST once the resends are used up.
ACTUATOR_NAK_BACKOFF_PASSED lets an idle line take its first ready entry. DEVICE_POLL_DUE puts a QUERY and moves the poll time on.
MOVEMENT_DEADLINE makes a moving device FAULTED. Where there is no transaction, no such time or no deadline they change nothing. The end of
the frame lies 3,125 microseconds after its start (six bytes of the line, log entries 37 and 51), the not-before time is the earliest of the
device's entries (log entry 43), that the clocks stand at these times or later is log entry 2, and which superseded entries are a last outcome is
log entry 23. An event tells the watch and the entry that it ends, records the outcome, hands the change of state on, and posts the notices. An
order whose ENGAGE is DONE enters RUNNING with its first lot; one whose ENGAGE fails closes as OPEN_FAILED. RELEASE DONE retires an order by its
closing cause, or returns it to wait; RELEASE that fails posts SHUT_FAILED, makes it SUSPECT, and sets the auto-inhibit flag. RESHUT's RESET
retires a SUSPECT order or leaves it so. Other outcomes are disregarded. LOCAL puts an order that opens or runs on hold without closing, and
joins the hold causes of every other; a device that fails closes a running order; a gauge loss closes an order that opens or runs. An
order in QUEUED that is done is retired. That the flag of a STALLED order is set before its retirement, and that of a SUSPECT one after its
notice, is log entry 28; the order of site model and planner at a retirement is log entry 7; a notice's qualifier where its rule names none,
19; the command that DEVICE_FAULT names, 24; when the line takes its next entry, 48; a total at its top, 67. -/
def Obligations.ActuatorDeadlinesTakeEffect : Prop :=
  (∀ (m : Moment) (s : State), s.run = .running →
    let a := arrive m s
    (s.act.current = none → exec (.actuatorResponseTimeout m) s = .next (refreshAlarms a))
    ∧ (∀ t, s.act.current = some t →
      let u := reachFast (t.sentAt + 3125 + t.timeout * 1000) a
      let v := s.device t.device
      (t.resends < t.retries → exec (.actuatorResponseTimeout m) s = .next (refreshAlarms (u.withAct { s.act with current := some { t with
        resends := t.resends + 1, timeout := s.image.actuator.timeout, retries := s.image.actuator.retries, sentAt := u.clock.fast } })))
      ∧ (t.retries ≤ t.resends → ∃ x, exec (.actuatorResponseTimeout m) s = .next x
        ∧ x.act.devices = s.act.devices.put t.device { v with
          state := .lost .timeout, deadline := none, watch := none, nextPoll := none
          inStep := if t.command = .query then v.inStep else false }
        ∧ (∀ y, y ≠ t.device → LastFollows s x y (s.last y))
        ∧ LastFollows s x t.device (match t.command, v.watch with
          | .query, none => s.last t.device
          | .query, some w => some { command := w.command, orig := w.orig, outcome := .lost, time := u.now }
          | c, _ => some { command := c, orig := t.orig, outcome := .lost, time := u.now })
        ∧ x = refreshAlarms (lineIdle (concludeEvent t.device v.state
          (v.watch.map fun w => { command := w.command, orig := w.orig, outcome := .lost })
          (if t.command = .query then none else some { command := t.command, orig := t.orig, outcome := .lost }) t.command
          (enterState t.device (.lost .timeout) (if t.command = .query then u else u.setDevice t.device { v with inStep := false }))))))
    ∧ (∀ d : Fin 16,
      (deviceNotBefore s d = none → exec (.actuatorNakBackoffPassed m d) s = .next (refreshAlarms a))
      ∧ (∀ n, deviceNotBefore s d = some n →
        let u := reachFast n a
        let ready (x : LineEntry) : Prop := ∀ k, x.notBefore = some k → k ≤ u.clock.fast
        (s.act.current.isSome = true ∨ (∀ x ∈ s.act.queue, ¬ ready x) →
          exec (.actuatorNakBackoffPassed m d) s = .next (refreshAlarms u))
        ∧ ∀ front e back, s.act.current = none → s.act.queue = front ++ e :: back → (∀ x ∈ front, ¬ ready x) → ready e →
          let first : LineCommand := if e.command = .query then .query else if (s.device e.device).inStep then e.command else .reset
          exec (.actuatorNakBackoffPassed m d) s = .next (refreshAlarms (u.withAct { s.act with
            queue := front ++ back, current := some (sendFrame u e.device e.command e.orig first) })))
      ∧ ((s.device d).nextPoll = none → exec (.devicePollDue m d) s = .next (refreshAlarms a))
      ∧ (∀ n, (s.device d).nextPoll = some n → exec (.devicePollDue m d) s = .next (refreshAlarms (putQuery d .watch
        ((reachSecond n a).setDevice d { s.device d with nextPoll := some (n + s.image.actuator.poll) }))))
      ∧ ((s.device d).deadline = none → exec (.movementDeadline m d) s = .next (refreshAlarms a))
      ∧ ∀ n, (s.device d).deadline = some n → ∃ x, exec (.movementDeadline m d) s = .next x
        ∧ x.act.devices = s.act.devices.put d { s.device d with
          state := .faulted .moveTimeout, deadline := none, watch := none, nextPoll := none }
        ∧ (∀ y, y ≠ d → LastFollows s x y (s.last y))
        ∧ LastFollows s x d (match (s.device d).watch with
          | some w => some { command := w.command, orig := w.orig, outcome := .faulted, time := (reachSecond n.due a).now }
          | none => s.last d)
        ∧ x = refreshAlarms (concludeEvent d (s.device d).state
          ((s.device d).watch.map fun w => { command := w.command, orig := w.orig, outcome := .faulted }) none n.command
          (enterState d (.faulted .moveTimeout) (reachSecond n.due a)))))
  ∧ (∀ (d : Fin 16) (old : DeviceState) (watch entry : Option EntryEnd) (c : LineCommand) (s : State),
    concludeEvent d old watch entry c s = announce d old (s.device d).state c (handChange d old (s.device d).state
      (recordEnd d entry watch (tellEnd entry (tellEnd watch s))))
    ∧ (∀ e, tellEnd (some e) s = tell e.orig e.command e.outcome s) ∧ tellEnd none s = s
    ∧ (∀ new, bayOfDevice s d = none → handChange d old new s = s)
    ∧ ∀ new b, bayOfDevice s d = some b → handChange d old new s = deviceChanged b old new s
      ∧ (old.name = new.name → deviceChanged b old new s = s)
      ∧ (old.name ≠ new.name → s.order b = none → deviceChanged b old new s = slotGrant s))
  ∧ (∀ (orig : Originator) (c : LineCommand) (oc : LineOutcome) (s : State),
    (∀ b, orig ≠ .order b) → tell orig c oc s = s)
  ∧ ∀ (b : Fin 8) (o : Order) (s : State), s.order b = some o →
    let told (c : LineCommand) (oc : LineOutcome) : State := tell (.order b) c oc s
    let fault (cause : DrainCause) (failure : Option Failure) (closing : Option ClosingCause) : NoticeDetail :=
      .drainFault { lots := o.done, total := o.total, cause := cause, failure := failure, closing := closing }
    let plain (cause : DrainCause) : DrainDetail := { lots := o.done, total := o.total, cause := cause, failure := none, closing := none }
    (∀ c oc, (c = .engage → o.state ≠ .opening) → (c = .release → o.state ≠ .closing)
      → (c = .reset → o.state ≠ .suspect ∨ o.reshut = false) → told c oc = s)
    ∧ (o.state = .opening → told .engage .superseded = s ∧ TakesHand s (told .engage .hand) b o
      ∧ told .engage .lost = overtaken b o o.holds .openFailed (some .lost) s
      ∧ told .engage .faulted = overtaken b o o.holds .openFailed (some .faulted) s
      ∧ ∀ v, (s.level b).value = some v → told .engage .done = intervalChanged b (s.setOrder b (some { o with
        state := .running
        lot := some { startVolume := volumeAt (s.bay b).stage v, startTime := s.now, deadline := s.now + s.image.drain.lotTime, drained := 0 } })))
    ∧ (o.state = .closing → told .release .superseded = s
      ∧ (∀ oc f, (oc, f) ∈ [(LineOutcome.lost, Failure.lost), (.faulted, .faulted), (.hand, .hand)] → told .release oc
        = plannerTake ((post b.val (fault .shutFailed (some f) o.closing) (s.setOrder b (some { o with state := .suspect, failure := some f }))).withInhibit
          (s.inhibit.put b (some .shutFailed))))
      ∧ (o.closing = some .done → Retired s (told .release .done) b (.drainDone (plain .done)))
      ∧ (o.closing = some .cancel → Retired s (told .release .done) b
        (.drainCancelled (plain (if o.cancelCause = some .planner then .planner else .host))))
      ∧ (o.closing = some .stalled → ∃ t, Retired (s.withInhibit (s.inhibit.put b (some .stalled))) t b (fault .stalled none none)
        ∧ told .release .done = plannerTake t)
      ∧ (o.closing = some .openFailed → Retired s (told .release .done) b (fault .openFailed o.failure none))
      ∧ (o.closing = some .deviceFailed → Retired s (told .release .done) b (fault .deviceFailed o.failure none))
      ∧ (o.closing = some .gap ∨ o.closing = some .worksStop ∨ o.closing = some .gauge →
        told .release .done = slotGrant (testQueued b (s.setOrder b (some { o with
          closing := none, state := if o.holds = ⟨false, false, false⟩ then .queued else .held })))))
    ∧ (o.state = .suspect → o.reshut = true → Retired s (told .reset .done) b (fault .shutRecovered none none)
      ∧ tellSuperseded (.order b) .reset s = told .reset .superseded
      ∧ ∀ oc f, (oc, f) ∈ [(LineOutcome.lost, Failure.lost), (.faulted, .faulted), (.hand, .hand), (.superseded, .superseded)] →
        told .reset oc = post b.val (fault .reshutFailed (some f) none) (s.setOrder b (some { o with reshut := false })))
    ∧ (let lost := { o.holds with gauge := true }
      gaugeLoss b s = match o.state with
        | .opening | .running => overtaken b o lost .gauge o.failure s
        | .queued | .held => s.setOrder b (some { o with holds := lost, state := .held })
        | .closing | .suspect => s.setOrder b (some { o with holds := lost }))
    ∧ (∀ old, old ≠ .hand → ∃ t, TakesHand s t b o ∧ deviceChanged b old .hand s = slotGrant t)
    ∧ (∀ old new f, old ≠ .hand → old.name ≠ new.name →
      ((∃ c, new = .faulted c) ∧ f = Failure.faulted) ∨ ((∃ c, new = .lost c) ∧ f = .lost) →
      deviceChanged b old new s = slotGrant (if o.state = .running then overtaken b o o.holds .deviceFailed (some f) s else s))
    ∧ (∀ old new, old ≠ .hand → old.name ≠ new.name → new = .unknown ∨ new = .closed ∨ new = .opened ∨ new = .moving →
      deviceChanged b old new s = slotGrant s)
    ∧ (∀ f : HoldCauses → HoldCauses, changeHolds b f s = s.setOrder b (some { o with
      holds := f o.holds
      state := if o.state = .queued ∨ o.state = .held then if f o.holds = ⟨false, false, false⟩ then .queued else .held else o.state }))
    ∧ (let reached := o.state = .queued ∧ (((s.level b).quality = .good ∧ ∃ v, (s.level b).value = some v ∧ v ≤ o.target)
        ∨ o.lots ≠ 0 ∧ o.lots ≤ o.done)
      let left := dropChoice (post b.val (.drainDone (plain .done)) (s.setOrder b none))
      (¬ reached → testQueued b s = s)
      ∧ (reached → testQueued b s = plannerTake (evaluateMode left) ∨ testQueued b s = evaluateMode (plannerTake left)))
    ∧ let freed := testQueued b (changeHolds b (fun h => { h with hand := false }) s)
      (∀ new, new = .unknown ∨ new = .closed ∨ new = .opened ∨ new = .moving → deviceChanged b .hand new s = slotGrant freed)
      ∧ ∀ new, (∃ c, new = .faulted c) ∨ (∃ c, new = .lost c) → bayRunning freed b = false →
        deviceChanged b .hand new s = slotGrant freed

/-! ### Power and starts -/

/-- MAIN_POWER_FAIL writes the power-loss time and stops the part; without backup supply the retained contents are lost, which their check then
shows (log entry 18). BACKUP_SUPPLY_LOSS changes nothing while main power is present, and otherwise loses the retained contents. START makes a
cold start where the check fails, and otherwise a warm one, or the one a RESTART asked for (log entry 15): the blocks take their start values.
The inputs are sampled, and works-stop, the float states and the stuck deadlines of the gauges follow them; a bay's level is NONE, or FLOAT at the
float height where the bay is enabled and its float is found ACTIVE; channels are OK, and there is no last reading; and each alarm line follows
its condition. STARTED is the first notice. The open spills are closed at the power-loss time, or at the start for a RESTART, in the log in id
order and then in the slots in outfall order: each close credits the duration and the volume to the outfall's current period, closes the record
or the aggregate, and posts one SPILL_ENDED with the id or the aggregate mark; then one transfer test is made. The image, the clock and the other
contents of the retention domain stay. A fall of main power during the start sequence leaves the spills closed so far closed and the rest open,
for the next start to close at the time of that fall (log entry 50). A part that runs makes no start (log entry 16). The fields of the cold image
without a default are log entry 5, the second of the next minute roll is log entry 31, the fraction of the running second is log entry 34, and a
duration at its top is log entry 67. -/
def Obligations.PowerFallsAndStarts : Prop :=
  ∀ (m : Moment) (s : State),
    let a := arrive m s
    let openSlot (k : Fin 4) : Bool := (s.ret.slots.at_ k).any fun r => r.openSpill.isSome
    let cause : StartCause := if s.ret.checkGood = false then .cold else if s.run = .restarting then .restart else .warm
    (s.run = .stopped → exec (.mainPowerFail m) s = .next a
      ∧ exec (.backupSupplyLoss m) s = .next ((a.withBackup false).withRet { a.ret with checkGood := false }))
    ∧ (s.run ≠ .stopped → exec (.backupSupplyLoss m) s = .next (a.withBackup false)
      ∧ ∃ t, exec (.mainPowerFail m) s = .next t ∧ t.run = .stopped ∧ t.image = s.image
        ∧ t.ret = { a.ret with powerLoss := some a.now, checkGood := s.ret.checkGood && s.backup })
    ∧ exec (.backupSupplyReturn m) s = .next (a.withBackup true)
    ∧ (s.run = .running → ∀ f, exec (.start ⟨m, f⟩) s = .next a)
    ∧ (s.run ≠ .running → ∃ t, exec (.start ⟨m, none⟩) s = .next t ∧ t.run = .running ∧ t.mode = .dry ∧ t.rain.alert = .none
      ∧ t.spill = Tab.all 4 { state := .quiet, remainder := 0 } ∧ t.drn = Drain.start ∧ t.inhibit = Tab.all 8 none
      ∧ t.act.devices = Tab.all 16 DeviceVol.start ∧ t.act.lasts = Tab.all 16 none
      ∧ t.rain.slots = Tab.all 4 .empty ∧ t.port.answering = none ∧ t.port.slot = none
      ∧ (∀ b, (t.level b).quality = .none ∨ (t.level b).quality = .float)
      ∧ (let sampled (f : TerminalFunction) : Option Bool := (allTerminals.find? fun p => (t.image.terminals.at_ p).function == f).map fun p =>
          if (t.image.terminals.at_ p).polarity = .activeHigh then m.pins.getLsbD p.val else !m.pins.getLsbD p.val
        (∀ p : Fin 12, (∀ l, (t.image.terminals.at_ p).function ≠ .alarm l) → t.term.debounced.getLsbD p.val = m.pins.getLsbD p.val)
        ∧ (t.term.worksStop = true ↔ sampled .worksStop = some true)
        ∧ (∀ b, t.lvl.floats.at_ b = match sampled (.float b) with
          | some true => .active
          | some false => .released
          | none => .absent)
        ∧ (∀ b, t.level b = if (t.bay b).enabled = true ∧ sampled (.float b) = some true
          then { value := some (t.bay b).floatHeight, quality := .float, accepted := none, candidate := none, misses := 0, disagreed := false }
          else { value := none, quality := .none, accepted := none, candidate := none, misses := 0, disagreed := false })
        ∧ (∀ g, t.rain.gauges.at_ g = if (t.image.gauges.at_ g).enabled
          then { stuck := false, history := List.replicate 60 0, minuteStart := t.now, total := 0, lastTip := none
                 stuckDeadline := if sampled (.gauge g) = some true
                   then some { due := t.now + (t.image.gauges.at_ g).stuck, time := (t.image.gauges.at_ g).stuck } else none }
          else { stuck := false, history := [], minuteStart := 0, total := 0, lastTip := none, stuckDeadline := none }))
      ∧ (∀ r, t.rain.rules.at_ r = { state := if (t.image.rules.at_ r).level = .none then .disarmed else .clear, holdUntil := none })
      ∧ t.rain.nextRoll = (t.now / 60 + 1) * 60 ∧ t.clock.fast = 0
      ∧ (∀ l, t.term.lineActive.at_ l = lineCondition t l)
      ∧ (∀ b, t.snd.channels.at_ b = { health := .ok, bad := 0 } ∧ t.snd.last.at_ b = none) ∧ t.snd.expiries = 0
      ∧ (∀ b, (t.bay b).enabled = true → FreshEntryJoined t b t.now)
      ∧ (∀ b d, (t.bay b).enabled = true → (t.bay b).device = some d → (t.image.devices.at_ d).isSome = true →
        CommandStands t d .reset .sweep)
      ∧ (∀ e ∈ t.ret.log, e.record.openSpill = none) ∧ (∀ k r, t.ret.slots.at_ k = some r → r.openSpill = none)
      ∧ t.clock.cause = cause ∧ t.clock.startSecond = t.now
      ∧ t.port.notices.head? = some
        { subject := 0, number := 0, unset := !t.ret.clockSet, time := written t t.now
          detail := .started cause (if cause = .warm then s.ret.powerLoss.map (written s) else none)
            (if cause = .cold then 0 else s.ret.log.countP (fun e => e.record.openSpill.isSome) + (List.finRange 4).countP openSlot)
            t.ret.clockSet }
      ∧ (cause = .cold → t.image = Image.afterCold ∧ t.ret = Retained.afterCold)
      ∧ (cause ≠ .cold → t.image = s.image ∧ t.now = a.now ∧ t.ret.offset = s.ret.offset ∧ t.ret.clockSet = s.ret.clockSet
        ∧ t.ret.powerLoss = s.ret.powerLoss ∧ t.ret.lastRain = s.ret.lastRain ∧ t.ret.cold = s.ret.cold
        ∧ (∀ e ∈ s.ret.log, e.record.openSpill = none → e ∈ t.ret.log)
        ∧ (∀ e ∈ s.ret.log, ∀ o, e.record.openSpill = some o →
          let finish := if cause = .warm then s.ret.powerLoss.getD a.now else a.now
          { e with record := { e.record with
            openSpill := none, finish := some (written s finish), cause := some (if cause = .warm then .powerLoss else .restart)
            duration := min 4294967295 (e.record.duration + (finish - o.start))
            clockUnset := e.record.clockUnset || !s.ret.clockSet } } ∈ t.ret.log)
        ∧ (∀ k, (t.ret.counts.at_ k).blockEnd = (s.ret.counts.at_ k).blockEnd
          ∧ (t.ret.counts.at_ k).previous = (s.ret.counts.at_ k).previous)
        ∧ let finish := if cause = .warm then s.ret.powerLoss.getD a.now else a.now
          let endCause : EndCause := if cause = .warm then .powerLoss else .restart
          let started := postAt a.now 0 (.started cause (if cause = .warm then s.ret.powerLoss.map (written s) else none) (openSpills s).length
            s.ret.clockSet) (a.withPort Port.start)
          let announced := (openSpills s).foldl (fun u x =>
            postAt finish x.1.val (.spillEnded x.2.1 endCause (min ((finish - x.2.2.start) / 60) 65535)) u) started
          let tested := (transferTest (announced.withRet (allClosed a finish endCause))).1
          t.ret = tested.ret ∧ (((openSpills s).map fun x => x.1).Nodup → t.port = tested.port)))
    ∧ (s.run ≠ .running → ∀ f : StartFall, ∃ t, exec (.start ⟨m, some f⟩) s = .next t ∧ t.run = .stopped
      ∧ t.ret.powerLoss = some t.now ∧ t.ret.checkGood = ((s.ret.checkGood || decide (0 < f.writes)) && s.backup)
      ∧ (cause = .cold → 0 < f.writes → t.image = Image.afterCold ∧ t.now = f.elapsed / 1000000 ∧ t.ret.log = [] ∧ t.ret.cold = true)
      ∧ (cause ≠ .cold →
        let closed := (openOutfalls s).take f.writes
        t.image = s.image ∧ t.now = a.now + (a.ret.micros + f.elapsed) / 1000000 ∧ t.ret.offset = s.ret.offset
        ∧ t.ret.clockSet = s.ret.clockSet ∧ t.ret.lastRain = s.ret.lastRain ∧ t.ret.cold = s.ret.cold
        ∧ (f.writes = 0 → t.ret.log = s.ret.log ∧ t.ret.slots = s.ret.slots ∧ t.ret.counts = s.ret.counts)
        ∧ (∀ k ∈ closed, openRecord t k = none)
        ∧ (∀ e ∈ s.ret.log, e.record.openSpill = none ∨ e.record.outfall ∉ closed → e ∈ t.ret.log)
        ∧ ∀ k r, s.ret.slots.at_ k = some r → r.openSpill.isSome = true → k ∉ closed → t.ret.slots.at_ k = some r))
end

