-- ==== Sys2Proof/Laws/State.lean ====
section
/-! SUPPORT. What each setter of State leaves in each field, and tables read after a write. -/

namespace Sys2Proof

/-! ### Tables -/

@[simp] theorem Tab.at_put {n : Nat} {α : Type} (v : Tab n α) (i j : Fin n) (x : α) :
    (v.put i x).at_ j = if i = j then x else v.at_ j := by
  simp only [Tab.at_, Tab.put, Vector.getElem_set, Fin.ext_iff]

@[simp] theorem Tab.at_all {n : Nat} {α : Type} (i : Fin n) (x : α) : (Tab.all n x).at_ i = x := by
  simp [Tab.at_, Tab.all]

@[simp] theorem Tab.at_ofFn {n : Nat} {α : Type} (i : Fin n) (f : Fin n → α) : Tab.at_ (Vector.ofFn f) i = f i := by
  simp [Tab.at_]

@[simp] theorem Tab.at_upd {n : Nat} {α : Type} (v : Tab n α) (i j : Fin n) (f : α → α) :
    (v.upd i f).at_ j = if i = j then f (v.at_ i) else v.at_ j := by
  simp [Tab.upd]

/-- A table written with what it holds is itself. -/
@[simp] theorem Tab.put_at {n : Nat} {α : Type} (v : Tab n α) (i : Fin n) : v.put i (v.at_ i) = v := by
  simp [Tab.put, Tab.at_]

/-- Of two writes of one entry the later one stays. -/
@[simp] theorem Tab.put_put {n : Nat} {α : Type} (v : Tab n α) (i : Fin n) (x y : α) : (v.put i x).put i y = v.put i y := by
  simp [Tab.put]

end Sys2Proof

namespace Sys2Proof.Machine

/-! ### The setters of fields -/

@[simp] theorem State.withPending_fields (s : State) (x : List Instr) :
    (s.withPending x).pending = x ∧ (s.withPending x).run = s.run ∧ (s.withPending x).backup = s.backup ∧
    (s.withPending x).clock = s.clock ∧ (s.withPending x).image = s.image ∧ (s.withPending x).ret = s.ret ∧
    (s.withPending x).mode = s.mode ∧ (s.withPending x).snd = s.snd ∧ (s.withPending x).lvl = s.lvl ∧ (s.withPending x).rain = s.rain ∧
    (s.withPending x).spill = s.spill ∧ (s.withPending x).drn = s.drn ∧ (s.withPending x).inhibit = s.inhibit ∧
    (s.withPending x).act = s.act ∧ (s.withPending x).term = s.term ∧ (s.withPending x).port = s.port ∧ (s.withPending x).free = s.free :=
  ⟨rfl, rfl, rfl, rfl, rfl, rfl, rfl, rfl, rfl, rfl, rfl, rfl, rfl, rfl, rfl, rfl, rfl⟩

@[simp] theorem State.withRun_fields (s : State) (x : Run) :
    (s.withRun x).pending = s.pending ∧ (s.withRun x).run = x ∧ (s.withRun x).backup = s.backup ∧ (s.withRun x).clock = s.clock ∧
    (s.withRun x).image = s.image ∧ (s.withRun x).ret = s.ret ∧ (s.withRun x).mode = s.mode ∧ (s.withRun x).snd = s.snd ∧
    (s.withRun x).lvl = s.lvl ∧ (s.withRun x).rain = s.rain ∧ (s.withRun x).spill = s.spill ∧ (s.withRun x).drn = s.drn ∧
    (s.withRun x).inhibit = s.inhibit ∧ (s.withRun x).act = s.act ∧ (s.withRun x).term = s.term ∧ (s.withRun x).port = s.port ∧
    (s.withRun x).free = s.free :=
  ⟨rfl, rfl, rfl, rfl, rfl, rfl, rfl, rfl, rfl, rfl, rfl, rfl, rfl, rfl, rfl, rfl, rfl⟩

@[simp] theorem State.withBackup_fields (s : State) (x : Bool) :
    (s.withBackup x).pending = s.pending ∧ (s.withBackup x).run = s.run ∧ (s.withBackup x).backup = x ∧
    (s.withBackup x).clock = s.clock ∧ (s.withBackup x).image = s.image ∧ (s.withBackup x).ret = s.ret ∧ (s.withBackup x).mode = s.mode ∧
    (s.withBackup x).snd = s.snd ∧ (s.withBackup x).lvl = s.lvl ∧ (s.withBackup x).rain = s.rain ∧ (s.withBackup x).spill = s.spill ∧
    (s.withBackup x).drn = s.drn ∧ (s.withBackup x).inhibit = s.inhibit ∧ (s.withBackup x).act = s.act ∧ (s.withBackup x).term = s.term ∧
    (s.withBackup x).port = s.port ∧ (s.withBackup x).free = s.free :=
  ⟨rfl, rfl, rfl, rfl, rfl, rfl, rfl, rfl, rfl, rfl, rfl, rfl, rfl, rfl, rfl, rfl, rfl⟩

@[simp] theorem State.withClock_fields (s : State) (x : Clock) :
    (s.withClock x).pending = s.pending ∧ (s.withClock x).run = s.run ∧ (s.withClock x).backup = s.backup ∧ (s.withClock x).clock = x ∧
    (s.withClock x).image = s.image ∧ (s.withClock x).ret = s.ret ∧ (s.withClock x).mode = s.mode ∧ (s.withClock x).snd = s.snd ∧
    (s.withClock x).lvl = s.lvl ∧ (s.withClock x).rain = s.rain ∧ (s.withClock x).spill = s.spill ∧ (s.withClock x).drn = s.drn ∧
    (s.withClock x).inhibit = s.inhibit ∧ (s.withClock x).act = s.act ∧ (s.withClock x).term = s.term ∧ (s.withClock x).port = s.port ∧
    (s.withClock x).free = s.free :=
  ⟨rfl, rfl, rfl, rfl, rfl, rfl, rfl, rfl, rfl, rfl, rfl, rfl, rfl, rfl, rfl, rfl, rfl⟩

@[simp] theorem State.withImage_fields (s : State) (x : Image) :
    (s.withImage x).pending = s.pending ∧ (s.withImage x).run = s.run ∧ (s.withImage x).backup = s.backup ∧
    (s.withImage x).clock = s.clock ∧ (s.withImage x).image = x ∧ (s.withImage x).ret = s.ret ∧ (s.withImage x).mode = s.mode ∧
    (s.withImage x).snd = s.snd ∧ (s.withImage x).lvl = s.lvl ∧ (s.withImage x).rain = s.rain ∧ (s.withImage x).spill = s.spill ∧
    (s.withImage x).drn = s.drn ∧ (s.withImage x).inhibit = s.inhibit ∧ (s.withImage x).act = s.act ∧ (s.withImage x).term = s.term ∧
    (s.withImage x).port = s.port ∧ (s.withImage x).free = s.free :=
  ⟨rfl, rfl, rfl, rfl, rfl, rfl, rfl, rfl, rfl, rfl, rfl, rfl, rfl, rfl, rfl, rfl, rfl⟩

@[simp] theorem State.withRet_fields (s : State) (x : Retained) :
    (s.withRet x).pending = s.pending ∧ (s.withRet x).run = s.run ∧ (s.withRet x).backup = s.backup ∧ (s.withRet x).clock = s.clock ∧
    (s.withRet x).image = s.image ∧ (s.withRet x).ret = x ∧ (s.withRet x).mode = s.mode ∧ (s.withRet x).snd = s.snd ∧
    (s.withRet x).lvl = s.lvl ∧ (s.withRet x).rain = s.rain ∧ (s.withRet x).spill = s.spill ∧ (s.withRet x).drn = s.drn ∧
    (s.withRet x).inhibit = s.inhibit ∧ (s.withRet x).act = s.act ∧ (s.withRet x).term = s.term ∧ (s.withRet x).port = s.port ∧
    (s.withRet x).free = s.free :=
  ⟨rfl, rfl, rfl, rfl, rfl, rfl, rfl, rfl, rfl, rfl, rfl, rfl, rfl, rfl, rfl, rfl, rfl⟩

@[simp] theorem State.withMode_fields (s : State) (x : Mode) :
    (s.withMode x).pending = s.pending ∧ (s.withMode x).run = s.run ∧ (s.withMode x).backup = s.backup ∧ (s.withMode x).clock = s.clock ∧
    (s.withMode x).image = s.image ∧ (s.withMode x).ret = s.ret ∧ (s.withMode x).mode = x ∧ (s.withMode x).snd = s.snd ∧
    (s.withMode x).lvl = s.lvl ∧ (s.withMode x).rain = s.rain ∧ (s.withMode x).spill = s.spill ∧ (s.withMode x).drn = s.drn ∧
    (s.withMode x).inhibit = s.inhibit ∧ (s.withMode x).act = s.act ∧ (s.withMode x).term = s.term ∧ (s.withMode x).port = s.port ∧
    (s.withMode x).free = s.free :=
  ⟨rfl, rfl, rfl, rfl, rfl, rfl, rfl, rfl, rfl, rfl, rfl, rfl, rfl, rfl, rfl, rfl, rfl⟩

@[simp] theorem State.withSnd_fields (s : State) (x : Sounding) :
    (s.withSnd x).pending = s.pending ∧ (s.withSnd x).run = s.run ∧ (s.withSnd x).backup = s.backup ∧ (s.withSnd x).clock = s.clock ∧
    (s.withSnd x).image = s.image ∧ (s.withSnd x).ret = s.ret ∧ (s.withSnd x).mode = s.mode ∧ (s.withSnd x).snd = x ∧
    (s.withSnd x).lvl = s.lvl ∧ (s.withSnd x).rain = s.rain ∧ (s.withSnd x).spill = s.spill ∧ (s.withSnd x).drn = s.drn ∧
    (s.withSnd x).inhibit = s.inhibit ∧ (s.withSnd x).act = s.act ∧ (s.withSnd x).term = s.term ∧ (s.withSnd x).port = s.port ∧
    (s.withSnd x).free = s.free :=
  ⟨rfl, rfl, rfl, rfl, rfl, rfl, rfl, rfl, rfl, rfl, rfl, rfl, rfl, rfl, rfl, rfl, rfl⟩

@[simp] theorem State.withLvl_fields (s : State) (x : Levels) :
    (s.withLvl x).pending = s.pending ∧ (s.withLvl x).run = s.run ∧ (s.withLvl x).backup = s.backup ∧ (s.withLvl x).clock = s.clock ∧
    (s.withLvl x).image = s.image ∧ (s.withLvl x).ret = s.ret ∧ (s.withLvl x).mode = s.mode ∧ (s.withLvl x).snd = s.snd ∧
    (s.withLvl x).lvl = x ∧ (s.withLvl x).rain = s.rain ∧ (s.withLvl x).spill = s.spill ∧ (s.withLvl x).drn = s.drn ∧
    (s.withLvl x).inhibit = s.inhibit ∧ (s.withLvl x).act = s.act ∧ (s.withLvl x).term = s.term ∧ (s.withLvl x).port = s.port ∧
    (s.withLvl x).free = s.free :=
  ⟨rfl, rfl, rfl, rfl, rfl, rfl, rfl, rfl, rfl, rfl, rfl, rfl, rfl, rfl, rfl, rfl, rfl⟩

@[simp] theorem State.withRain_fields (s : State) (x : Rain) :
    (s.withRain x).pending = s.pending ∧ (s.withRain x).run = s.run ∧ (s.withRain x).backup = s.backup ∧ (s.withRain x).clock = s.clock ∧
    (s.withRain x).image = s.image ∧ (s.withRain x).ret = s.ret ∧ (s.withRain x).mode = s.mode ∧ (s.withRain x).snd = s.snd ∧
    (s.withRain x).lvl = s.lvl ∧ (s.withRain x).rain = x ∧ (s.withRain x).spill = s.spill ∧ (s.withRain x).drn = s.drn ∧
    (s.withRain x).inhibit = s.inhibit ∧ (s.withRain x).act = s.act ∧ (s.withRain x).term = s.term ∧ (s.withRain x).port = s.port ∧
    (s.withRain x).free = s.free :=
  ⟨rfl, rfl, rfl, rfl, rfl, rfl, rfl, rfl, rfl, rfl, rfl, rfl, rfl, rfl, rfl, rfl, rfl⟩

@[simp] theorem State.withSpill_fields (s : State) (x : Tab 4 OutfallVol) :
    (s.withSpill x).pending = s.pending ∧ (s.withSpill x).run = s.run ∧ (s.withSpill x).backup = s.backup ∧
    (s.withSpill x).clock = s.clock ∧ (s.withSpill x).image = s.image ∧ (s.withSpill x).ret = s.ret ∧ (s.withSpill x).mode = s.mode ∧
    (s.withSpill x).snd = s.snd ∧ (s.withSpill x).lvl = s.lvl ∧ (s.withSpill x).rain = s.rain ∧ (s.withSpill x).spill = x ∧
    (s.withSpill x).drn = s.drn ∧ (s.withSpill x).inhibit = s.inhibit ∧ (s.withSpill x).act = s.act ∧ (s.withSpill x).term = s.term ∧
    (s.withSpill x).port = s.port ∧ (s.withSpill x).free = s.free :=
  ⟨rfl, rfl, rfl, rfl, rfl, rfl, rfl, rfl, rfl, rfl, rfl, rfl, rfl, rfl, rfl, rfl, rfl⟩

@[simp] theorem State.withDrn_fields (s : State) (x : Drain) :
    (s.withDrn x).pending = s.pending ∧ (s.withDrn x).run = s.run ∧ (s.withDrn x).backup = s.backup ∧ (s.withDrn x).clock = s.clock ∧
    (s.withDrn x).image = s.image ∧ (s.withDrn x).ret = s.ret ∧ (s.withDrn x).mode = s.mode ∧ (s.withDrn x).snd = s.snd ∧
    (s.withDrn x).lvl = s.lvl ∧ (s.withDrn x).rain = s.rain ∧ (s.withDrn x).spill = s.spill ∧ (s.withDrn x).drn = x ∧
    (s.withDrn x).inhibit = s.inhibit ∧ (s.withDrn x).act = s.act ∧ (s.withDrn x).term = s.term ∧ (s.withDrn x).port = s.port ∧
    (s.withDrn x).free = s.free :=
  ⟨rfl, rfl, rfl, rfl, rfl, rfl, rfl, rfl, rfl, rfl, rfl, rfl, rfl, rfl, rfl, rfl, rfl⟩

@[simp] theorem State.withInhibit_fields (s : State) (x : Tab 8 (Option InhibitCause)) :
    (s.withInhibit x).pending = s.pending ∧ (s.withInhibit x).run = s.run ∧ (s.withInhibit x).backup = s.backup ∧
    (s.withInhibit x).clock = s.clock ∧ (s.withInhibit x).image = s.image ∧ (s.withInhibit x).ret = s.ret ∧
    (s.withInhibit x).mode = s.mode ∧ (s.withInhibit x).snd = s.snd ∧ (s.withInhibit x).lvl = s.lvl ∧ (s.withInhibit x).rain = s.rain ∧
    (s.withInhibit x).spill = s.spill ∧ (s.withInhibit x).drn = s.drn ∧ (s.withInhibit x).inhibit = x ∧ (s.withInhibit x).act = s.act ∧
    (s.withInhibit x).term = s.term ∧ (s.withInhibit x).port = s.port ∧ (s.withInhibit x).free = s.free :=
  ⟨rfl, rfl, rfl, rfl, rfl, rfl, rfl, rfl, rfl, rfl, rfl, rfl, rfl, rfl, rfl, rfl, rfl⟩

@[simp] theorem State.withAct_fields (s : State) (x : Actuator) :
    (s.withAct x).pending = s.pending ∧ (s.withAct x).run = s.run ∧ (s.withAct x).backup = s.backup ∧ (s.withAct x).clock = s.clock ∧
    (s.withAct x).image = s.image ∧ (s.withAct x).ret = s.ret ∧ (s.withAct x).mode = s.mode ∧ (s.withAct x).snd = s.snd ∧
    (s.withAct x).lvl = s.lvl ∧ (s.withAct x).rain = s.rain ∧ (s.withAct x).spill = s.spill ∧ (s.withAct x).drn = s.drn ∧
    (s.withAct x).inhibit = s.inhibit ∧ (s.withAct x).act = x ∧ (s.withAct x).term = s.term ∧ (s.withAct x).port = s.port ∧
    (s.withAct x).free = s.free :=
  ⟨rfl, rfl, rfl, rfl, rfl, rfl, rfl, rfl, rfl, rfl, rfl, rfl, rfl, rfl, rfl, rfl, rfl⟩

@[simp] theorem State.withTerm_fields (s : State) (x : Terminals) :
    (s.withTerm x).pending = s.pending ∧ (s.withTerm x).run = s.run ∧ (s.withTerm x).backup = s.backup ∧ (s.withTerm x).clock = s.clock ∧
    (s.withTerm x).image = s.image ∧ (s.withTerm x).ret = s.ret ∧ (s.withTerm x).mode = s.mode ∧ (s.withTerm x).snd = s.snd ∧
    (s.withTerm x).lvl = s.lvl ∧ (s.withTerm x).rain = s.rain ∧ (s.withTerm x).spill = s.spill ∧ (s.withTerm x).drn = s.drn ∧
    (s.withTerm x).inhibit = s.inhibit ∧ (s.withTerm x).act = s.act ∧ (s.withTerm x).term = x ∧ (s.withTerm x).port = s.port ∧
    (s.withTerm x).free = s.free :=
  ⟨rfl, rfl, rfl, rfl, rfl, rfl, rfl, rfl, rfl, rfl, rfl, rfl, rfl, rfl, rfl, rfl, rfl⟩

@[simp] theorem State.withPort_fields (s : State) (x : Port) :
    (s.withPort x).pending = s.pending ∧ (s.withPort x).run = s.run ∧ (s.withPort x).backup = s.backup ∧ (s.withPort x).clock = s.clock ∧
    (s.withPort x).image = s.image ∧ (s.withPort x).ret = s.ret ∧ (s.withPort x).mode = s.mode ∧ (s.withPort x).snd = s.snd ∧
    (s.withPort x).lvl = s.lvl ∧ (s.withPort x).rain = s.rain ∧ (s.withPort x).spill = s.spill ∧ (s.withPort x).drn = s.drn ∧
    (s.withPort x).inhibit = s.inhibit ∧ (s.withPort x).act = s.act ∧ (s.withPort x).term = s.term ∧ (s.withPort x).port = x ∧
    (s.withPort x).free = s.free :=
  ⟨rfl, rfl, rfl, rfl, rfl, rfl, rfl, rfl, rfl, rfl, rfl, rfl, rfl, rfl, rfl, rfl, rfl⟩

@[simp] theorem State.withFree_fields (s : State) (x : Free) :
    (s.withFree x).pending = s.pending ∧ (s.withFree x).run = s.run ∧ (s.withFree x).backup = s.backup ∧ (s.withFree x).clock = s.clock ∧
    (s.withFree x).image = s.image ∧ (s.withFree x).ret = s.ret ∧ (s.withFree x).mode = s.mode ∧ (s.withFree x).snd = s.snd ∧
    (s.withFree x).lvl = s.lvl ∧ (s.withFree x).rain = s.rain ∧ (s.withFree x).spill = s.spill ∧ (s.withFree x).drn = s.drn ∧
    (s.withFree x).inhibit = s.inhibit ∧ (s.withFree x).act = s.act ∧ (s.withFree x).term = s.term ∧ (s.withFree x).port = s.port ∧
    (s.withFree x).free = x :=
  ⟨rfl, rfl, rfl, rfl, rfl, rfl, rfl, rfl, rfl, rfl, rfl, rfl, rfl, rfl, rfl, rfl, rfl⟩

/-! ### The setters of cells -/

@[simp] theorem State.bay_setBayRec (s : State) (b c : Fin 8) (r : BayRec) : (s.setBayRec b r).bay c = if b = c then r else s.bay c := by
  simp [State.setBayRec, State.bay]

@[simp] theorem State.level_setLevel (s : State) (b c : Fin 8) (r : LevelRecord) : (s.setLevel b r).level c = if b = c then r else s.level c := by
  simp [State.setLevel, State.level]

@[simp] theorem State.order_setOrder (s : State) (b c : Fin 8) (r : Option Order) : (s.setOrder b r).order c = if b = c then r else s.order c := by
  simp [State.setOrder, State.order]

@[simp] theorem State.device_setDevice (s : State) (b c : Fin 16) (r : DeviceVol) : (s.setDevice b r).device c = if b = c then r else s.device c := by
  simp [State.setDevice, State.device]
@[simp] theorem State.last_setLast (s : State) (b c : Fin 16) (r : Option LastOutcome) :
    (s.setLast b r).last c = if b = c then r else s.last c := by
  simp [State.setLast, State.last]

@[simp] theorem State.setBayRec_fields (s : State) (b : Fin 8) (r : BayRec) :
    (s.setBayRec b r).pending = s.pending ∧ (s.setBayRec b r).run = s.run ∧ (s.setBayRec b r).backup = s.backup ∧
    (s.setBayRec b r).clock = s.clock ∧ (s.setBayRec b r).ret = s.ret ∧ (s.setBayRec b r).mode = s.mode ∧ (s.setBayRec b r).snd = s.snd ∧
    (s.setBayRec b r).lvl = s.lvl ∧ (s.setBayRec b r).rain = s.rain ∧ (s.setBayRec b r).spill = s.spill ∧ (s.setBayRec b r).drn = s.drn ∧
    (s.setBayRec b r).inhibit = s.inhibit ∧ (s.setBayRec b r).act = s.act ∧ (s.setBayRec b r).term = s.term ∧
    (s.setBayRec b r).port = s.port ∧ (s.setBayRec b r).free = s.free :=
  ⟨rfl, rfl, rfl, rfl, rfl, rfl, rfl, rfl, rfl, rfl, rfl, rfl, rfl, rfl, rfl, rfl⟩

@[simp] theorem State.setLevel_fields (s : State) (b : Fin 8) (r : LevelRecord) :
    (s.setLevel b r).pending = s.pending ∧ (s.setLevel b r).run = s.run ∧ (s.setLevel b r).backup = s.backup ∧
    (s.setLevel b r).clock = s.clock ∧ (s.setLevel b r).image = s.image ∧ (s.setLevel b r).ret = s.ret ∧ (s.setLevel b r).mode = s.mode ∧
    (s.setLevel b r).snd = s.snd ∧ (s.setLevel b r).rain = s.rain ∧ (s.setLevel b r).spill = s.spill ∧ (s.setLevel b r).drn = s.drn ∧
    (s.setLevel b r).inhibit = s.inhibit ∧ (s.setLevel b r).act = s.act ∧ (s.setLevel b r).term = s.term ∧
    (s.setLevel b r).port = s.port ∧ (s.setLevel b r).free = s.free :=
  ⟨rfl, rfl, rfl, rfl, rfl, rfl, rfl, rfl, rfl, rfl, rfl, rfl, rfl, rfl, rfl, rfl⟩

/-- Of two changes of one bay's order the later one stays. -/
@[simp] theorem State.setOrder_setOrder (s : State) (b : Fin 8) (x y : Option Order) : (s.setOrder b x).setOrder b y = s.setOrder b y := by
  simp [State.setOrder, State.withDrn]

/-- Of two changes of one device's volatile state the later one stays. -/
@[simp] theorem State.setDevice_setDevice (s : State) (d : Fin 16) (x y : DeviceVol) :
    (s.setDevice d x).setDevice d y = s.setDevice d y := by
  simp [State.setDevice, State.withAct]

@[simp] theorem State.setOrder_fields (s : State) (b : Fin 8) (r : Option Order) :
    (s.setOrder b r).pending = s.pending ∧ (s.setOrder b r).run = s.run ∧ (s.setOrder b r).backup = s.backup ∧
    (s.setOrder b r).clock = s.clock ∧ (s.setOrder b r).image = s.image ∧ (s.setOrder b r).ret = s.ret ∧ (s.setOrder b r).mode = s.mode ∧
    (s.setOrder b r).snd = s.snd ∧ (s.setOrder b r).lvl = s.lvl ∧ (s.setOrder b r).rain = s.rain ∧ (s.setOrder b r).spill = s.spill ∧
    (s.setOrder b r).inhibit = s.inhibit ∧ (s.setOrder b r).act = s.act ∧ (s.setOrder b r).term = s.term ∧
    (s.setOrder b r).port = s.port ∧ (s.setOrder b r).free = s.free :=
  ⟨rfl, rfl, rfl, rfl, rfl, rfl, rfl, rfl, rfl, rfl, rfl, rfl, rfl, rfl, rfl, rfl⟩

@[simp] theorem State.setDevice_fields (s : State) (b : Fin 16) (r : DeviceVol) :
    (s.setDevice b r).pending = s.pending ∧ (s.setDevice b r).run = s.run ∧ (s.setDevice b r).backup = s.backup ∧
    (s.setDevice b r).clock = s.clock ∧ (s.setDevice b r).image = s.image ∧ (s.setDevice b r).ret = s.ret ∧
    (s.setDevice b r).mode = s.mode ∧ (s.setDevice b r).snd = s.snd ∧ (s.setDevice b r).lvl = s.lvl ∧ (s.setDevice b r).rain = s.rain ∧
    (s.setDevice b r).spill = s.spill ∧ (s.setDevice b r).drn = s.drn ∧ (s.setDevice b r).inhibit = s.inhibit ∧
    (s.setDevice b r).term = s.term ∧ (s.setDevice b r).port = s.port ∧ (s.setDevice b r).free = s.free :=
  ⟨rfl, rfl, rfl, rfl, rfl, rfl, rfl, rfl, rfl, rfl, rfl, rfl, rfl, rfl, rfl, rfl⟩

@[simp] theorem State.setLast_fields (s : State) (b : Fin 16) (r : Option LastOutcome) :
    (s.setLast b r).pending = s.pending ∧ (s.setLast b r).run = s.run ∧ (s.setLast b r).backup = s.backup ∧
    (s.setLast b r).clock = s.clock ∧ (s.setLast b r).image = s.image ∧ (s.setLast b r).ret = s.ret ∧
    (s.setLast b r).mode = s.mode ∧ (s.setLast b r).snd = s.snd ∧ (s.setLast b r).lvl = s.lvl ∧ (s.setLast b r).rain = s.rain ∧
    (s.setLast b r).spill = s.spill ∧ (s.setLast b r).drn = s.drn ∧ (s.setLast b r).inhibit = s.inhibit ∧
    (s.setLast b r).term = s.term ∧ (s.setLast b r).port = s.port ∧ (s.setLast b r).free = s.free :=
  ⟨rfl, rfl, rfl, rfl, rfl, rfl, rfl, rfl, rfl, rfl, rfl, rfl, rfl, rfl, rfl, rfl⟩

@[simp] theorem State.setLast_act (s : State) (b : Fin 16) (r : Option LastOutcome) :
    (s.setLast b r).act.devices = s.act.devices ∧ (s.setLast b r).act.queue = s.act.queue ∧ (s.setLast b r).act.current = s.act.current :=
  ⟨rfl, rfl, rfl⟩

@[simp] theorem State.setFloat_fields (s : State) (b : Fin 8) (r : FloatState) :
    (s.setFloat b r).pending = s.pending ∧ (s.setFloat b r).run = s.run ∧ (s.setFloat b r).backup = s.backup ∧
    (s.setFloat b r).clock = s.clock ∧ (s.setFloat b r).image = s.image ∧ (s.setFloat b r).ret = s.ret ∧ (s.setFloat b r).mode = s.mode ∧
    (s.setFloat b r).snd = s.snd ∧ (s.setFloat b r).rain = s.rain ∧ (s.setFloat b r).spill = s.spill ∧ (s.setFloat b r).drn = s.drn ∧
    (s.setFloat b r).inhibit = s.inhibit ∧ (s.setFloat b r).act = s.act ∧ (s.setFloat b r).term = s.term ∧
    (s.setFloat b r).port = s.port ∧ (s.setFloat b r).free = s.free :=
  ⟨rfl, rfl, rfl, rfl, rfl, rfl, rfl, rfl, rfl, rfl, rfl, rfl, rfl, rfl, rfl, rfl⟩

@[simp] theorem State.setOutfall_fields (s : State) (b : Fin 4) (r : OutfallVol) :
    (s.setOutfall b r).pending = s.pending ∧ (s.setOutfall b r).run = s.run ∧ (s.setOutfall b r).backup = s.backup ∧
    (s.setOutfall b r).clock = s.clock ∧ (s.setOutfall b r).image = s.image ∧ (s.setOutfall b r).ret = s.ret ∧
    (s.setOutfall b r).mode = s.mode ∧ (s.setOutfall b r).snd = s.snd ∧ (s.setOutfall b r).lvl = s.lvl ∧
    (s.setOutfall b r).rain = s.rain ∧ (s.setOutfall b r).drn = s.drn ∧ (s.setOutfall b r).inhibit = s.inhibit ∧
    (s.setOutfall b r).act = s.act ∧ (s.setOutfall b r).term = s.term ∧ (s.setOutfall b r).port = s.port ∧
    (s.setOutfall b r).free = s.free :=
  ⟨rfl, rfl, rfl, rfl, rfl, rfl, rfl, rfl, rfl, rfl, rfl, rfl, rfl, rfl, rfl, rfl⟩

@[simp] theorem State.setCounts_fields (s : State) (b : Fin 4) (r : OutfallCounts) :
    (s.setCounts b r).pending = s.pending ∧ (s.setCounts b r).run = s.run ∧ (s.setCounts b r).backup = s.backup ∧
    (s.setCounts b r).clock = s.clock ∧ (s.setCounts b r).image = s.image ∧ (s.setCounts b r).mode = s.mode ∧
    (s.setCounts b r).snd = s.snd ∧ (s.setCounts b r).lvl = s.lvl ∧ (s.setCounts b r).rain = s.rain ∧ (s.setCounts b r).spill = s.spill ∧
    (s.setCounts b r).drn = s.drn ∧ (s.setCounts b r).inhibit = s.inhibit ∧ (s.setCounts b r).act = s.act ∧
    (s.setCounts b r).term = s.term ∧ (s.setCounts b r).port = s.port ∧ (s.setCounts b r).free = s.free :=
  ⟨rfl, rfl, rfl, rfl, rfl, rfl, rfl, rfl, rfl, rfl, rfl, rfl, rfl, rfl, rfl, rfl⟩

@[simp] theorem State.setGauge_fields (s : State) (b : Fin 4) (r : GaugeVol) :
    (s.setGauge b r).pending = s.pending ∧ (s.setGauge b r).run = s.run ∧ (s.setGauge b r).backup = s.backup ∧
    (s.setGauge b r).clock = s.clock ∧ (s.setGauge b r).image = s.image ∧ (s.setGauge b r).ret = s.ret ∧ (s.setGauge b r).mode = s.mode ∧
    (s.setGauge b r).snd = s.snd ∧ (s.setGauge b r).lvl = s.lvl ∧ (s.setGauge b r).spill = s.spill ∧ (s.setGauge b r).drn = s.drn ∧
    (s.setGauge b r).inhibit = s.inhibit ∧ (s.setGauge b r).act = s.act ∧ (s.setGauge b r).term = s.term ∧
    (s.setGauge b r).port = s.port ∧ (s.setGauge b r).free = s.free :=
  ⟨rfl, rfl, rfl, rfl, rfl, rfl, rfl, rfl, rfl, rfl, rfl, rfl, rfl, rfl, rfl, rfl⟩

/-! ### The readers -/

@[simp] theorem State.bay_withPending (s : State) (b : Fin 8) (x : List Instr) : (s.withPending x).bay b = s.bay b := rfl
@[simp] theorem State.bay_withRun (s : State) (b : Fin 8) (x : Run) : (s.withRun x).bay b = s.bay b := rfl
@[simp] theorem State.bay_withBackup (s : State) (b : Fin 8) (x : Bool) : (s.withBackup x).bay b = s.bay b := rfl
@[simp] theorem State.bay_withClock (s : State) (b : Fin 8) (x : Clock) : (s.withClock x).bay b = s.bay b := rfl
@[simp] theorem State.bay_withRet (s : State) (b : Fin 8) (x : Retained) : (s.withRet x).bay b = s.bay b := rfl
@[simp] theorem State.bay_withMode (s : State) (b : Fin 8) (x : Mode) : (s.withMode x).bay b = s.bay b := rfl
@[simp] theorem State.bay_withSnd (s : State) (b : Fin 8) (x : Sounding) : (s.withSnd x).bay b = s.bay b := rfl
@[simp] theorem State.bay_withLvl (s : State) (b : Fin 8) (x : Levels) : (s.withLvl x).bay b = s.bay b := rfl
@[simp] theorem State.bay_withRain (s : State) (b : Fin 8) (x : Rain) : (s.withRain x).bay b = s.bay b := rfl
@[simp] theorem State.bay_withSpill (s : State) (b : Fin 8) (x : Tab 4 OutfallVol) : (s.withSpill x).bay b = s.bay b := rfl
@[simp] theorem State.bay_withDrn (s : State) (b : Fin 8) (x : Drain) : (s.withDrn x).bay b = s.bay b := rfl
@[simp] theorem State.bay_withInhibit (s : State) (b : Fin 8) (x : Tab 8 (Option InhibitCause)) : (s.withInhibit x).bay b = s.bay b := rfl
@[simp] theorem State.bay_withAct (s : State) (b : Fin 8) (x : Actuator) : (s.withAct x).bay b = s.bay b := rfl
@[simp] theorem State.bay_withTerm (s : State) (b : Fin 8) (x : Terminals) : (s.withTerm x).bay b = s.bay b := rfl
@[simp] theorem State.bay_withPort (s : State) (b : Fin 8) (x : Port) : (s.withPort x).bay b = s.bay b := rfl
@[simp] theorem State.bay_withFree (s : State) (b : Fin 8) (x : Free) : (s.withFree x).bay b = s.bay b := rfl
@[simp] theorem State.bay_setLevel (s : State) (b : Fin 8) (c : Fin 8) (x : LevelRecord) : (s.setLevel c x).bay b = s.bay b := rfl
@[simp] theorem State.bay_setOrder (s : State) (b : Fin 8) (c : Fin 8) (x : Option Order) : (s.setOrder c x).bay b = s.bay b := rfl
@[simp] theorem State.bay_setDevice (s : State) (b : Fin 8) (c : Fin 16) (x : DeviceVol) : (s.setDevice c x).bay b = s.bay b := rfl
@[simp] theorem State.bay_setLast (s : State) (b : Fin 8) (c : Fin 16) (x : Option LastOutcome) : (s.setLast c x).bay b = s.bay b := rfl
@[simp] theorem State.bay_setFloat (s : State) (b : Fin 8) (c : Fin 8) (x : FloatState) : (s.setFloat c x).bay b = s.bay b := rfl
@[simp] theorem State.bay_setOutfall (s : State) (b : Fin 8) (c : Fin 4) (x : OutfallVol) : (s.setOutfall c x).bay b = s.bay b := rfl
@[simp] theorem State.bay_setCounts (s : State) (b : Fin 8) (c : Fin 4) (x : OutfallCounts) : (s.setCounts c x).bay b = s.bay b := rfl
@[simp] theorem State.bay_setGauge (s : State) (b : Fin 8) (c : Fin 4) (x : GaugeVol) : (s.setGauge c x).bay b = s.bay b := rfl

@[simp] theorem State.level_withPending (s : State) (b : Fin 8) (x : List Instr) : (s.withPending x).level b = s.level b := rfl
@[simp] theorem State.level_withRun (s : State) (b : Fin 8) (x : Run) : (s.withRun x).level b = s.level b := rfl
@[simp] theorem State.level_withBackup (s : State) (b : Fin 8) (x : Bool) : (s.withBackup x).level b = s.level b := rfl
@[simp] theorem State.level_withClock (s : State) (b : Fin 8) (x : Clock) : (s.withClock x).level b = s.level b := rfl
@[simp] theorem State.level_withImage (s : State) (b : Fin 8) (x : Image) : (s.withImage x).level b = s.level b := rfl
@[simp] theorem State.level_withRet (s : State) (b : Fin 8) (x : Retained) : (s.withRet x).level b = s.level b := rfl
@[simp] theorem State.level_withMode (s : State) (b : Fin 8) (x : Mode) : (s.withMode x).level b = s.level b := rfl
@[simp] theorem State.level_withSnd (s : State) (b : Fin 8) (x : Sounding) : (s.withSnd x).level b = s.level b := rfl
@[simp] theorem State.level_withRain (s : State) (b : Fin 8) (x : Rain) : (s.withRain x).level b = s.level b := rfl
@[simp] theorem State.level_withSpill (s : State) (b : Fin 8) (x : Tab 4 OutfallVol) : (s.withSpill x).level b = s.level b := rfl
@[simp] theorem State.level_withDrn (s : State) (b : Fin 8) (x : Drain) : (s.withDrn x).level b = s.level b := rfl
@[simp] theorem State.level_withInhibit (s : State) (b : Fin 8) (x : Tab 8 (Option InhibitCause)) : (s.withInhibit x).level b = s.level b := rfl
@[simp] theorem State.level_withAct (s : State) (b : Fin 8) (x : Actuator) : (s.withAct x).level b = s.level b := rfl
@[simp] theorem State.level_withTerm (s : State) (b : Fin 8) (x : Terminals) : (s.withTerm x).level b = s.level b := rfl
@[simp] theorem State.level_withPort (s : State) (b : Fin 8) (x : Port) : (s.withPort x).level b = s.level b := rfl
@[simp] theorem State.level_withFree (s : State) (b : Fin 8) (x : Free) : (s.withFree x).level b = s.level b := rfl
@[simp] theorem State.level_setBayRec (s : State) (b : Fin 8) (c : Fin 8) (x : BayRec) : (s.setBayRec c x).level b = s.level b := rfl
@[simp] theorem State.level_setOrder (s : State) (b : Fin 8) (c : Fin 8) (x : Option Order) : (s.setOrder c x).level b = s.level b := rfl
@[simp] theorem State.level_setDevice (s : State) (b : Fin 8) (c : Fin 16) (x : DeviceVol) : (s.setDevice c x).level b = s.level b := rfl
@[simp] theorem State.level_setLast (s : State) (b : Fin 8) (c : Fin 16) (x : Option LastOutcome) : (s.setLast c x).level b = s.level b := rfl
@[simp] theorem State.level_setFloat (s : State) (b : Fin 8) (c : Fin 8) (x : FloatState) : (s.setFloat c x).level b = s.level b := rfl
@[simp] theorem State.level_setOutfall (s : State) (b : Fin 8) (c : Fin 4) (x : OutfallVol) : (s.setOutfall c x).level b = s.level b := rfl
@[simp] theorem State.level_setCounts (s : State) (b : Fin 8) (c : Fin 4) (x : OutfallCounts) : (s.setCounts c x).level b = s.level b := rfl
@[simp] theorem State.level_setGauge (s : State) (b : Fin 8) (c : Fin 4) (x : GaugeVol) : (s.setGauge c x).level b = s.level b := rfl

@[simp] theorem State.order_withPending (s : State) (b : Fin 8) (x : List Instr) : (s.withPending x).order b = s.order b := rfl
@[simp] theorem State.order_withRun (s : State) (b : Fin 8) (x : Run) : (s.withRun x).order b = s.order b := rfl
@[simp] theorem State.order_withBackup (s : State) (b : Fin 8) (x : Bool) : (s.withBackup x).order b = s.order b := rfl
@[simp] theorem State.order_withClock (s : State) (b : Fin 8) (x : Clock) : (s.withClock x).order b = s.order b := rfl
@[simp] theorem State.order_withImage (s : State) (b : Fin 8) (x : Image) : (s.withImage x).order b = s.order b := rfl
@[simp] theorem State.order_withRet (s : State) (b : Fin 8) (x : Retained) : (s.withRet x).order b = s.order b := rfl
@[simp] theorem State.order_withMode (s : State) (b : Fin 8) (x : Mode) : (s.withMode x).order b = s.order b := rfl
@[simp] theorem State.order_withSnd (s : State) (b : Fin 8) (x : Sounding) : (s.withSnd x).order b = s.order b := rfl
@[simp] theorem State.order_withLvl (s : State) (b : Fin 8) (x : Levels) : (s.withLvl x).order b = s.order b := rfl
@[simp] theorem State.order_withRain (s : State) (b : Fin 8) (x : Rain) : (s.withRain x).order b = s.order b := rfl
@[simp] theorem State.order_withSpill (s : State) (b : Fin 8) (x : Tab 4 OutfallVol) : (s.withSpill x).order b = s.order b := rfl
@[simp] theorem State.order_withInhibit (s : State) (b : Fin 8) (x : Tab 8 (Option InhibitCause)) : (s.withInhibit x).order b = s.order b := rfl
@[simp] theorem State.order_withAct (s : State) (b : Fin 8) (x : Actuator) : (s.withAct x).order b = s.order b := rfl
@[simp] theorem State.order_withTerm (s : State) (b : Fin 8) (x : Terminals) : (s.withTerm x).order b = s.order b := rfl
@[simp] theorem State.order_withPort (s : State) (b : Fin 8) (x : Port) : (s.withPort x).order b = s.order b := rfl
@[simp] theorem State.order_withFree (s : State) (b : Fin 8) (x : Free) : (s.withFree x).order b = s.order b := rfl
@[simp] theorem State.order_setBayRec (s : State) (b : Fin 8) (c : Fin 8) (x : BayRec) : (s.setBayRec c x).order b = s.order b := rfl
@[simp] theorem State.order_setLevel (s : State) (b : Fin 8) (c : Fin 8) (x : LevelRecord) : (s.setLevel c x).order b = s.order b := rfl
@[simp] theorem State.order_setDevice (s : State) (b : Fin 8) (c : Fin 16) (x : DeviceVol) : (s.setDevice c x).order b = s.order b := rfl
@[simp] theorem State.order_setLast (s : State) (b : Fin 8) (c : Fin 16) (x : Option LastOutcome) : (s.setLast c x).order b = s.order b := rfl
@[simp] theorem State.order_setFloat (s : State) (b : Fin 8) (c : Fin 8) (x : FloatState) : (s.setFloat c x).order b = s.order b := rfl
@[simp] theorem State.order_setOutfall (s : State) (b : Fin 8) (c : Fin 4) (x : OutfallVol) : (s.setOutfall c x).order b = s.order b := rfl
@[simp] theorem State.order_setCounts (s : State) (b : Fin 8) (c : Fin 4) (x : OutfallCounts) : (s.setCounts c x).order b = s.order b := rfl
@[simp] theorem State.order_setGauge (s : State) (b : Fin 8) (c : Fin 4) (x : GaugeVol) : (s.setGauge c x).order b = s.order b := rfl

@[simp] theorem State.device_withPending (s : State) (b : Fin 16) (x : List Instr) : (s.withPending x).device b = s.device b := rfl
@[simp] theorem State.device_withRun (s : State) (b : Fin 16) (x : Run) : (s.withRun x).device b = s.device b := rfl
@[simp] theorem State.device_withBackup (s : State) (b : Fin 16) (x : Bool) : (s.withBackup x).device b = s.device b := rfl
@[simp] theorem State.device_withClock (s : State) (b : Fin 16) (x : Clock) : (s.withClock x).device b = s.device b := rfl
@[simp] theorem State.device_withImage (s : State) (b : Fin 16) (x : Image) : (s.withImage x).device b = s.device b := rfl
@[simp] theorem State.device_withRet (s : State) (b : Fin 16) (x : Retained) : (s.withRet x).device b = s.device b := rfl
@[simp] theorem State.device_withMode (s : State) (b : Fin 16) (x : Mode) : (s.withMode x).device b = s.device b := rfl
@[simp] theorem State.device_withSnd (s : State) (b : Fin 16) (x : Sounding) : (s.withSnd x).device b = s.device b := rfl
@[simp] theorem State.device_withLvl (s : State) (b : Fin 16) (x : Levels) : (s.withLvl x).device b = s.device b := rfl
@[simp] theorem State.device_withRain (s : State) (b : Fin 16) (x : Rain) : (s.withRain x).device b = s.device b := rfl
@[simp] theorem State.device_withSpill (s : State) (b : Fin 16) (x : Tab 4 OutfallVol) : (s.withSpill x).device b = s.device b := rfl
@[simp] theorem State.device_withDrn (s : State) (b : Fin 16) (x : Drain) : (s.withDrn x).device b = s.device b := rfl
@[simp] theorem State.device_withInhibit (s : State) (b : Fin 16) (x : Tab 8 (Option InhibitCause)) : (s.withInhibit x).device b = s.device b := rfl
@[simp] theorem State.device_withTerm (s : State) (b : Fin 16) (x : Terminals) : (s.withTerm x).device b = s.device b := rfl
@[simp] theorem State.device_withPort (s : State) (b : Fin 16) (x : Port) : (s.withPort x).device b = s.device b := rfl
@[simp] theorem State.device_withFree (s : State) (b : Fin 16) (x : Free) : (s.withFree x).device b = s.device b := rfl
@[simp] theorem State.device_setBayRec (s : State) (b : Fin 16) (c : Fin 8) (x : BayRec) : (s.setBayRec c x).device b = s.device b := rfl
@[simp] theorem State.device_setLevel (s : State) (b : Fin 16) (c : Fin 8) (x : LevelRecord) : (s.setLevel c x).device b = s.device b := rfl
@[simp] theorem State.device_setOrder (s : State) (b : Fin 16) (c : Fin 8) (x : Option Order) : (s.setOrder c x).device b = s.device b := rfl
@[simp] theorem State.device_setFloat (s : State) (b : Fin 16) (c : Fin 8) (x : FloatState) : (s.setFloat c x).device b = s.device b := rfl
@[simp] theorem State.device_setOutfall (s : State) (b : Fin 16) (c : Fin 4) (x : OutfallVol) : (s.setOutfall c x).device b = s.device b := rfl
@[simp] theorem State.device_setCounts (s : State) (b : Fin 16) (c : Fin 4) (x : OutfallCounts) : (s.setCounts c x).device b = s.device b := rfl
@[simp] theorem State.device_setGauge (s : State) (b : Fin 16) (c : Fin 4) (x : GaugeVol) : (s.setGauge c x).device b = s.device b := rfl
@[simp] theorem State.device_setLast (s : State) (b : Fin 16) (c : Fin 16) (x : Option LastOutcome) : (s.setLast c x).device b = s.device b := rfl

@[simp] theorem State.last_withPending (s : State) (b : Fin 16) (x : List Instr) : (s.withPending x).last b = s.last b := rfl
@[simp] theorem State.last_withRun (s : State) (b : Fin 16) (x : Run) : (s.withRun x).last b = s.last b := rfl
@[simp] theorem State.last_withBackup (s : State) (b : Fin 16) (x : Bool) : (s.withBackup x).last b = s.last b := rfl
@[simp] theorem State.last_withClock (s : State) (b : Fin 16) (x : Clock) : (s.withClock x).last b = s.last b := rfl
@[simp] theorem State.last_withImage (s : State) (b : Fin 16) (x : Image) : (s.withImage x).last b = s.last b := rfl
@[simp] theorem State.last_withRet (s : State) (b : Fin 16) (x : Retained) : (s.withRet x).last b = s.last b := rfl
@[simp] theorem State.last_withMode (s : State) (b : Fin 16) (x : Mode) : (s.withMode x).last b = s.last b := rfl
@[simp] theorem State.last_withSnd (s : State) (b : Fin 16) (x : Sounding) : (s.withSnd x).last b = s.last b := rfl
@[simp] theorem State.last_withLvl (s : State) (b : Fin 16) (x : Levels) : (s.withLvl x).last b = s.last b := rfl
@[simp] theorem State.last_withRain (s : State) (b : Fin 16) (x : Rain) : (s.withRain x).last b = s.last b := rfl
@[simp] theorem State.last_withSpill (s : State) (b : Fin 16) (x : Tab 4 OutfallVol) : (s.withSpill x).last b = s.last b := rfl
@[simp] theorem State.last_withDrn (s : State) (b : Fin 16) (x : Drain) : (s.withDrn x).last b = s.last b := rfl
@[simp] theorem State.last_withInhibit (s : State) (b : Fin 16) (x : Tab 8 (Option InhibitCause)) : (s.withInhibit x).last b = s.last b := rfl
@[simp] theorem State.last_withTerm (s : State) (b : Fin 16) (x : Terminals) : (s.withTerm x).last b = s.last b := rfl
@[simp] theorem State.last_withPort (s : State) (b : Fin 16) (x : Port) : (s.withPort x).last b = s.last b := rfl
@[simp] theorem State.last_withFree (s : State) (b : Fin 16) (x : Free) : (s.withFree x).last b = s.last b := rfl
@[simp] theorem State.last_setBayRec (s : State) (b : Fin 16) (c : Fin 8) (x : BayRec) : (s.setBayRec c x).last b = s.last b := rfl
@[simp] theorem State.last_setLevel (s : State) (b : Fin 16) (c : Fin 8) (x : LevelRecord) : (s.setLevel c x).last b = s.last b := rfl
@[simp] theorem State.last_setOrder (s : State) (b : Fin 16) (c : Fin 8) (x : Option Order) : (s.setOrder c x).last b = s.last b := rfl
@[simp] theorem State.last_setFloat (s : State) (b : Fin 16) (c : Fin 8) (x : FloatState) : (s.setFloat c x).last b = s.last b := rfl
@[simp] theorem State.last_setOutfall (s : State) (b : Fin 16) (c : Fin 4) (x : OutfallVol) : (s.setOutfall c x).last b = s.last b := rfl
@[simp] theorem State.last_setCounts (s : State) (b : Fin 16) (c : Fin 4) (x : OutfallCounts) : (s.setCounts c x).last b = s.last b := rfl
@[simp] theorem State.last_setGauge (s : State) (b : Fin 16) (c : Fin 4) (x : GaugeVol) : (s.setGauge c x).last b = s.last b := rfl
@[simp] theorem State.last_setDevice (s : State) (b : Fin 16) (c : Fin 16) (x : DeviceVol) : (s.setDevice c x).last b = s.last b := rfl

@[simp] theorem State.spillState_withPending (s : State) (b : Fin 4) (x : List Instr) : (s.withPending x).spillState b = s.spillState b := rfl
@[simp] theorem State.spillState_withRun (s : State) (b : Fin 4) (x : Run) : (s.withRun x).spillState b = s.spillState b := rfl
@[simp] theorem State.spillState_withBackup (s : State) (b : Fin 4) (x : Bool) : (s.withBackup x).spillState b = s.spillState b := rfl
@[simp] theorem State.spillState_withClock (s : State) (b : Fin 4) (x : Clock) : (s.withClock x).spillState b = s.spillState b := rfl
@[simp] theorem State.spillState_withImage (s : State) (b : Fin 4) (x : Image) : (s.withImage x).spillState b = s.spillState b := rfl
@[simp] theorem State.spillState_withRet (s : State) (b : Fin 4) (x : Retained) : (s.withRet x).spillState b = s.spillState b := rfl
@[simp] theorem State.spillState_withMode (s : State) (b : Fin 4) (x : Mode) : (s.withMode x).spillState b = s.spillState b := rfl
@[simp] theorem State.spillState_withSnd (s : State) (b : Fin 4) (x : Sounding) : (s.withSnd x).spillState b = s.spillState b := rfl
@[simp] theorem State.spillState_withLvl (s : State) (b : Fin 4) (x : Levels) : (s.withLvl x).spillState b = s.spillState b := rfl
@[simp] theorem State.spillState_withRain (s : State) (b : Fin 4) (x : Rain) : (s.withRain x).spillState b = s.spillState b := rfl
@[simp] theorem State.spillState_withDrn (s : State) (b : Fin 4) (x : Drain) : (s.withDrn x).spillState b = s.spillState b := rfl
@[simp] theorem State.spillState_withInhibit (s : State) (b : Fin 4) (x : Tab 8 (Option InhibitCause)) : (s.withInhibit x).spillState b = s.spillState b := rfl
@[simp] theorem State.spillState_withAct (s : State) (b : Fin 4) (x : Actuator) : (s.withAct x).spillState b = s.spillState b := rfl
@[simp] theorem State.spillState_withTerm (s : State) (b : Fin 4) (x : Terminals) : (s.withTerm x).spillState b = s.spillState b := rfl
@[simp] theorem State.spillState_withPort (s : State) (b : Fin 4) (x : Port) : (s.withPort x).spillState b = s.spillState b := rfl
@[simp] theorem State.spillState_withFree (s : State) (b : Fin 4) (x : Free) : (s.withFree x).spillState b = s.spillState b := rfl
@[simp] theorem State.spillState_setBayRec (s : State) (b : Fin 4) (c : Fin 8) (x : BayRec) : (s.setBayRec c x).spillState b = s.spillState b := rfl
@[simp] theorem State.spillState_setLevel (s : State) (b : Fin 4) (c : Fin 8) (x : LevelRecord) : (s.setLevel c x).spillState b = s.spillState b := rfl
@[simp] theorem State.spillState_setOrder (s : State) (b : Fin 4) (c : Fin 8) (x : Option Order) : (s.setOrder c x).spillState b = s.spillState b := rfl
@[simp] theorem State.spillState_setDevice (s : State) (b : Fin 4) (c : Fin 16) (x : DeviceVol) : (s.setDevice c x).spillState b = s.spillState b := rfl
@[simp] theorem State.spillState_setLast (s : State) (b : Fin 4) (c : Fin 16) (x : Option LastOutcome) : (s.setLast c x).spillState b = s.spillState b := rfl
@[simp] theorem State.spillState_setFloat (s : State) (b : Fin 4) (c : Fin 8) (x : FloatState) : (s.setFloat c x).spillState b = s.spillState b := rfl
@[simp] theorem State.spillState_setCounts (s : State) (b : Fin 4) (c : Fin 4) (x : OutfallCounts) : (s.setCounts c x).spillState b = s.spillState b := rfl
@[simp] theorem State.spillState_setGauge (s : State) (b : Fin 4) (c : Fin 4) (x : GaugeVol) : (s.setGauge c x).spillState b = s.spillState b := rfl

end Sys2Proof.Machine
end

