-- ==== Sys2Proof/Laws/Collections.lean ====
section
/-! SUPPORT. The bounded collections under their own operations: notices, grants, both queues, the log, and the count of orders that hold slots. -/

namespace Sys2Proof.Machine

/-! ### Notices (R203, R204) -/

/-- A posting keeps the queue in its bound. -/
theorem addNotice_length_le (n : Notice) (p : Port) (h : p.notices.length ≤ Config.noticeCap) :
    (addNotice n p).notices.length ≤ Config.noticeCap := by
  unfold addNotice
  split
  · rename_i hl; simp; omega
  · split
    · rename_i hl ha
      obtain ⟨x, hx, hp⟩ := List.any_eq_true.mp ha
      have hlen := List.length_eraseP_of_mem (p := fun y => y.detail.informational) hx hp
      have hpos : 0 < p.notices.length := List.length_pos_of_mem hx
      simp only [List.length_append, List.length_singleton, hlen]
      omega
    · exact h

/-! ### Grants (R115, R117, R119) -/

/-- A grant joins the list: the list grows by it. -/
theorem insertGrant_perm (g : Grant) (l : List Grant) : (insertGrant g l).Perm (g :: l) := by
  induction l with
  | nil => exact List.Perm.refl _
  | cons h t ih =>
    unfold insertGrant; split
    · exact (List.Perm.cons h ih).trans (List.Perm.swap g h t)
    · exact List.Perm.refl _

/-- A grant takes its place in consumption order. -/
theorem insertGrant_sorted (g : Grant) (l : List Grant) (h : l.Pairwise fun a b => a.expiry ≤ b.expiry) :
    (insertGrant g l).Pairwise fun a b => a.expiry ≤ b.expiry := by
  induction l with
  | nil => simp [insertGrant]
  | cons x t ih =>
    rw [List.pairwise_cons] at h
    unfold insertGrant; split
    · rename_i hx
      refine List.pairwise_cons.mpr ⟨fun y hy => ?_, ih h.2⟩
      rcases List.mem_cons.mp ((insertGrant_perm g t).mem_iff.mp hy) with rfl | hy
      · exact hx
      · exact h.1 y hy
    · rename_i hx
      refine List.pairwise_cons.mpr ⟨fun y hy => ?_, List.pairwise_cons.mpr h⟩
      rcases List.mem_cons.mp hy with rfl | hy
      · omega
      · have := h.1 y hy; omega

/-- A GRANT keeps the list well-formed where it has room. -/
theorem grantsWf_insertGrant (g : Grant) (l : List Grant) (h : grantsWf l) (hroom : l.length < Config.grantCap)
    (hg : 1 ≤ g.count ∧ g.count ≤ 255) : grantsWf (insertGrant g l) := by
  refine ⟨?_, insertGrant_sorted g l h.2.1, fun x hx => ?_⟩
  · rw [(insertGrant_perm g l).length_eq]; simpa using hroom
  · rcases List.mem_cons.mp ((insertGrant_perm g l).mem_iff.mp hx) with rfl | hx
    · exact hg
    · exact h.2.2 x hx

/-- A consumption keeps the list well-formed. -/
theorem grantsWf_takeCredit (l : List Grant) (h : grantsWf l) : grantsWf (takeCredit l) := by
  obtain ⟨hl, hs, hc⟩ := h
  cases l with
  | nil => exact ⟨hl, hs, hc⟩
  | cons g t =>
    rw [List.pairwise_cons] at hs
    simp only [takeCredit]
    split
    · exact ⟨by simp at hl; omega, hs.2, fun x hx => hc x (List.mem_cons_of_mem _ hx)⟩
    · refine ⟨by simpa using hl, List.pairwise_cons.mpr ⟨hs.1, hs.2⟩, fun x hx => ?_⟩
      rcases List.mem_cons.mp hx with rfl | hx
      · have := hc g (List.mem_cons_self ..); simp only; omega
      · exact hc x (List.mem_cons_of_mem _ hx)

/-- The first grant leaves a well-formed list. -/
theorem grantsWf_tail (g : Grant) (t : List Grant) (h : grantsWf (g :: t)) : grantsWf t := by
  obtain ⟨hl, hs, hc⟩ := h
  exact ⟨by simp at hl; omega, (List.pairwise_cons.mp hs).2, fun x hx => hc x (List.mem_cons_of_mem _ hx)⟩

/-- A withdrawal leaves a list in which every grant stood before with its expiry, in the same order. -/
theorem removeCredits_spec (n : Nat) (l : List Grant) :
    (removeCredits n l).2.length ≤ l.length
      ∧ (∀ (R : Nat → Nat → Prop), (l.map Grant.expiry).Pairwise R → ((removeCredits n l).2.map Grant.expiry).Pairwise R)
      ∧ (∀ e ∈ (removeCredits n l).2.map Grant.expiry, e ∈ l.map Grant.expiry)
      ∧ ((∀ g ∈ l, 1 ≤ g.count ∧ g.count ≤ 255) → ∀ g ∈ (removeCredits n l).2, 1 ≤ g.count ∧ g.count ≤ 255) := by
  induction l generalizing n with
  | nil => simp [removeCredits]
  | cons g t ih =>
    unfold removeCredits; split
    · exact ⟨Nat.le_refl _, fun R h => h, fun e h => h, fun h => h⟩
    · split
      · refine ⟨by simp, fun R h => by simpa using h, fun e h => by simpa using h, fun h x hx => ?_⟩
        rcases List.mem_cons.mp hx with rfl | hx
        · have := h g (List.mem_cons_self ..); simp only; omega
        · exact h x (List.mem_cons_of_mem _ hx)
      · obtain ⟨h1, h2, h3, h4⟩ := ih (n - g.count)
        refine ⟨Nat.le_succ_of_le h1, fun R h => h2 R (List.pairwise_cons.mp h).2, fun e h => List.mem_cons_of_mem _ (h3 e h),
          fun h => h4 fun x hx => h x (List.mem_cons_of_mem _ hx)⟩

/-- A withdrawal keeps the list well-formed. -/
theorem grantsWf_withdraw (n : Nat) (l : List Grant) (h : grantsWf l) : grantsWf (removeCredits n l.reverse).2.reverse := by
  obtain ⟨hl, hs, hc⟩ := h
  obtain ⟨h1, h2, _, h4⟩ := removeCredits_spec n l.reverse
  refine ⟨by simpa using le_trans h1 (by simpa using hl), ?_, fun x hx => h4 (fun g hg => hc g (by simpa using hg)) x (by simpa using hx)⟩
  have := h2 (fun a b => b ≤ a) (by
    rw [List.map_reverse, List.pairwise_reverse, List.pairwise_map]; exact hs)
  rw [List.pairwise_reverse]
  exact List.pairwise_map.mp this

/-- A consumption takes one credit, where there is one. -/
theorem takeCredit_sum (l : List Grant) (h : grantsWf l) (hp : 0 < (l.map fun g => g.count).sum) :
    ((takeCredit l).map fun g => g.count).sum + 1 = (l.map fun g => g.count).sum := by
  cases l with
  | nil => simp at hp
  | cons g t =>
    have := (h.2.2 g (List.mem_cons_self ..)).1
    simp only [takeCredit]
    split <;> simp <;> omega

/-- A withdrawal counts what it removes. -/
theorem removeCredits_sum (n : Nat) (l : List Grant) :
    (removeCredits n l).1 + ((removeCredits n l).2.map fun g => g.count).sum = (l.map fun g => g.count).sum := by
  induction l generalizing n with
  | nil => simp [removeCredits]
  | cons g t ih =>
    unfold removeCredits; split
    · simp
    · split
      · simp; omega
      · have := ih (n - g.count); simp; omega

/-- Credits move from the list to one counter, none of which passes the granted counter. -/
theorem creditsWf_move {gs gs' : List Grant} {c c' : CreditCounters} (h : creditsWf gs c) (n : Nat)
    (hs : (gs'.map fun g => g.count).sum + n = (gs.map fun g => g.count).sum) (hg : c'.granted = c.granted)
    (hc : c.granted < Config.max32 → n ≤ (gs.map fun g => g.count).sum → c.consumed + c.expired + c.withdrawn + n < Config.max32 →
      c'.consumed + c'.expired + c'.withdrawn = c.consumed + c.expired + c.withdrawn + n) : creditsWf gs' c' := by
  intro hlt
  rw [hg] at hlt ⊢
  have h1 := h hlt
  have h2 := hc hlt (by omega) (by omega)
  omega

theorem creditsWf_consume {gs : List Grant} {c : CreditCounters} (h : creditsWf gs c) (hw : grantsWf gs)
    (hp : 0 < (gs.map fun g => g.count).sum) :
    creditsWf (takeCredit gs) { c with consumed := addHeld Config.max32 c.consumed 1 } :=
  creditsWf_move h 1 (takeCredit_sum gs hw hp) rfl fun _ _ h3 => by simp only [addHeld]; omega

theorem creditsWf_expire {g : Grant} {gs : List Grant} {c : CreditCounters} (h : creditsWf (g :: gs) c) :
    creditsWf gs { c with expired := addHeld Config.max32 c.expired g.count } :=
  creditsWf_move h g.count (by simp; omega) rfl fun _ _ h3 => by simp only [addHeld]; omega

theorem creditsWf_withdraw {gs : List Grant} {c : CreditCounters} (n : Nat) (h : creditsWf gs c) :
    creditsWf (removeCredits n gs.reverse).2.reverse
      { c with withdrawn := addHeld Config.max32 c.withdrawn (removeCredits n gs.reverse).1 } := by
  refine creditsWf_move h (removeCredits n gs.reverse).1 ?_ rfl fun _ _ h3 => by simp only [addHeld]; omega
  have := removeCredits_sum n gs.reverse
  simp only [List.map_reverse, List.sum_reverse] at this ⊢
  omega

theorem creditsWf_grant {gs : List Grant} {c : CreditCounters} (g : Grant) (h : creditsWf gs c) :
    creditsWf (insertGrant g gs) { c with granted := addHeld Config.max32 c.granted g.count } := by
  intro hlt
  have hp := ((insertGrant_perm g gs).map fun g => g.count).sum_eq
  simp only [addHeld, List.map_cons, List.sum_cons] at hlt hp ⊢
  have := h (by omega)
  omega

/-! ### The sounding queue (R34) -/

/-- An entry takes its place: the queue grows by it. -/
theorem insertEntry_perm (e : SoundingEntry) (q : List SoundingEntry) : (insertEntry e q).Perm (e :: q) := by
  induction q with
  | nil => exact List.Perm.refl _
  | cons h t ih =>
    unfold insertEntry; split
    · exact List.Perm.refl _
    · exact (List.Perm.cons h ih).trans (List.Perm.swap e h t)

theorem soundingQueueWf_withoutBay (b : Fin 8) (q : List SoundingEntry) (h : soundingQueueWf q) : soundingQueueWf (withoutBay b q) :=
  List.Nodup.sublist ((List.filter_sublist ..).map _) h

/-- An entry that replaces any other of its bay keeps the queue well-formed. -/
theorem soundingQueueWf_insert (e : SoundingEntry) (q : List SoundingEntry) (h : soundingQueueWf q) :
    soundingQueueWf (insertEntry e (withoutBay e.bay q)) := by
  have hp := ((insertEntry_perm e (withoutBay e.bay q)).map fun x => x.bay)
  refine (hp.nodup_iff).mpr (List.nodup_cons.mpr ⟨?_, soundingQueueWf_withoutBay _ _ h⟩)
  simp [withoutBay]

/-! ### The actuator line's queue (R161, R162) -/

theorem joinLine_perm (e : LineEntry) (q : List LineEntry) : (joinLine e q).Perm (e :: q) := by
  unfold joinLine
  refine List.perm_middle.trans (List.Perm.cons e ?_)
  have : (fun x : LineEntry => decide (e.command.rank < x.command.rank)) = fun x => !decide (x.command.rank ≤ e.command.rank) := by
    funext x; by_cases h : x.command.rank ≤ e.command.rank
    · simp [h]
    · simp [h]; omega
  rw [this]
  exact List.filter_append_perm _ q

theorem lineQueueWf_of_sublist {q r : List LineEntry} (h : lineQueueWf q) (hs : r.Sublist q) : lineQueueWf r :=
  fun d => ⟨le_trans (hs.countP_le) (h d).1, le_trans (hs.countP_le) (h d).2⟩

/-- An entry joins a queue in which no entry of its device and sort waits. -/
theorem lineQueueWf_join (e : LineEntry) (q : List LineEntry) (h : lineQueueWf q)
    (hd : e.command.isDrive = true → q.countP (LineEntry.isDriveOf e.device) = 0)
    (hq : e.command.isDrive = false → q.countP (LineEntry.isQueryOf e.device) = 0) : lineQueueWf (joinLine e q) := by
  intro d
  rw [(joinLine_perm e q).countP_eq, (joinLine_perm e q).countP_eq, List.countP_cons, List.countP_cons]
  have h1 := (h d).1
  have h2 := (h d).2
  by_cases hdev : e.device = d
  · subst hdev
    cases hc : e.command.isDrive
    · have := hq hc
      simp [LineEntry.isDriveOf, LineEntry.isQueryOf, hc, this] at *; exact h1
    · have := hd hc
      simp [LineEntry.isDriveOf, LineEntry.isQueryOf, hc, this] at *; exact h2
  · simp [LineEntry.isDriveOf, LineEntry.isQueryOf, hdev] at *; exact ⟨h1, h2⟩

theorem countP_zero_of_find_none {α : Type} (p : α → Bool) (l : List α) (h : l.find? p = none) : l.countP p = 0 := by
  rw [List.countP_eq_zero]; intro a ha hp
  exact (List.find?_eq_none.mp h) a ha hp

theorem countP_erase_of_find {α : Type} [DecidableEq α] (p : α → Bool) (l : List α) (w : α) (h : l.find? p = some w)
    (h1 : l.countP p ≤ 1) : (l.erase w).countP p = 0 := by
  have hw := List.find?_some h
  have hm := List.mem_of_find?_eq_some h
  rw [List.countP_erase]; simp [hw, hm]; omega

/-! ### Slots (R121) -/

/-- An order, where there is one, holds a slot. -/
def holds (o : Option Order) : Bool := match o with
  | some o => o.state.holdsSlot
  | none => false

theorem slotHolders_eq (s : State) : slotHolders s = allBays.filter fun b => holds (s.order b) := by
  unfold slotHolders holds; rfl

theorem slotHolders_congr {s t : State} (h : t.drn.orders = s.drn.orders) : slotHolders t = slotHolders s := by
  simp [slotHolders_eq, State.order, h]

/-- An order that holds no slot unless the bay's order held one does not raise the number of holders. -/
theorem slotHolders_setOrder_le (s : State) (b : Fin 8) (o : Option Order) (h : holds o = true → holds (s.order b) = true) :
    (slotHolders (s.setOrder b o)).length ≤ (slotHolders s).length := by
  rw [slotHolders_eq, slotHolders_eq, ← List.countP_eq_length_filter, ← List.countP_eq_length_filter]
  refine List.countP_mono_left fun c _ hc => ?_
  simp only [State.order_setOrder] at hc
  split at hc
  · rename_i hb; subst hb; exact h hc
  · exact hc

/-- Any order raises the number of holders by one at most. -/
theorem slotHolders_setOrder_succ (s : State) (b : Fin 8) (o : Option Order) :
    (slotHolders (s.setOrder b o)).length ≤ (slotHolders s).length + 1 := by
  rw [slotHolders_eq, slotHolders_eq, ← List.countP_eq_length_filter, ← List.countP_eq_length_filter]
  have h1 : List.countP (fun c => holds ((s.setOrder b o).order c)) allBays
      ≤ List.countP (fun c => decide (c = b) || holds (s.order c)) allBays := by
    refine List.countP_mono_left fun c _ hc => ?_
    simp only [State.order_setOrder] at hc
    split at hc
    · rename_i hb; simp [hb]
    · simp [hc]
  have h2 : ∀ (l : List (Fin 8)) (p q : Fin 8 → Bool), l.countP (fun c => p c || q c) ≤ l.countP p + l.countP q := by
    intro l p q
    induction l with
    | nil => simp
    | cons a t ih =>
      simp only [List.countP_cons]
      cases p a <;> cases q a <;> simp <;> omega
  have h3 : ∀ b : Fin 8, allBays.countP (fun c => decide (c = b)) ≤ 1 := by decide
  exact le_trans h1 (le_trans (h2 _ _ _) (by have := h3 b; omega))

/-! ### The log (R101, R102, R108, R110) -/

theorem logWf_sublist {l r : List LogEntry} {n : Option Nat} (h : logWf l n) (hs : r.Sublist l) : logWf r n :=
  ⟨le_trans hs.length_le h.1, h.2.1.sublist hs, fun m hm e he => h.2.2 m hm e (hs.subset he)⟩

/-- A change of records that keeps their ids keeps the log well-formed. -/
theorem logWf_map {l : List LogEntry} {n : Option Nat} (f : LogEntry → LogEntry) (hf : ∀ e, (f e).id = e.id) (h : logWf l n) :
    logWf (l.map f) n := by
  refine ⟨by simpa using h.1, ?_, ?_⟩
  · rw [List.pairwise_map]; simpa [hf] using h.2.1
  · intro m hm e he
    obtain ⟨x, hx, rfl⟩ := List.mem_map.mp he
    rw [hf]; exact h.2.2 m hm x hx

/-- A record enters a log that has room, with the next id. -/
theorem logWf_enter {l : List LogEntry} {id : Nat} (r : SpillRecord) (h : logWf l (some id)) (hroom : l.length < Config.logCap) :
    logWf (l ++ [{ id := id, record := r }]) (nextIdAfter id) := by
  have hlt : ∀ e ∈ l, e.id < id := fun e he => h.2.2 id rfl e he
  refine ⟨by simpa using hroom, ?_, ?_⟩
  · rw [List.pairwise_append]
    refine ⟨h.2.1, by simp, fun a ha b hb => ?_⟩
    simp at hb; subst hb; exact hlt a ha
  · intro n hn e he
    unfold nextIdAfter at hn
    split at hn
    · exact absurd hn (by simp)
    · simp at hn; subst hn
      rcases List.mem_append.mp he with he | he
      · exact Nat.lt_succ_of_lt (hlt e he)
      · simp at he; subst he; simp

end Sys2Proof.Machine
end

