-- ==== Sys2Proof/Laws/Kept.lean ====
section
/-! SUPPORT. What the reactions of the site model, the planner, the drain scheduler and the two queues leave alone: `kept`. -/

namespace Sys2Proof.Machine

/-! ### The setters -/

@[simp] theorem kept_withMode (s : State) (m : Mode) : kept (s.withMode m) = kept s := rfl
@[simp] theorem kept_withDrn (s : State) (d : Drain) : kept (s.withDrn d) = kept s := rfl
@[simp] theorem kept_withFree (s : State) (f : Free) : kept (s.withFree f) = kept s := rfl
@[simp] theorem kept_setOrder (s : State) (b : Fin 8) (o : Option Order) : kept (s.setOrder b o) = kept s := rfl
@[simp] theorem kept_withCounters (s : State) (c : CreditCounters) : kept (s.withCounters c) = kept s := rfl

@[simp] theorem kept_withSnd (s : State) (x : Sounding) (hc : x.channels = s.snd.channels) (hl : x.last = s.snd.last)
    (he : x.expiries = s.snd.expiries) : kept (s.withSnd x) = kept s := by
  simp [kept, hc, hl, he]

@[simp] theorem kept_withAct (s : State) (x : Actuator) (h : x.devices = s.act.devices) : kept (s.withAct x) = kept s := by
  simp [kept, h]

@[simp] theorem kept_withPort (s : State) (x : Port) (hr : x.receiver = s.port.receiver) (hs : x.slot = s.port.slot)
    (ha : x.answering = s.port.answering) (hf : x.frameLost = s.port.frameLost) : kept (s.withPort x) = kept s := by
  simp [kept, hr, hs, ha, hf]

/-- A fold of keeping steps keeps. -/
theorem kept_foldl {α : Type} (f : State → α → State) (h : ∀ s a, kept (f s a) = kept s) (l : List α) (s : State) :
    kept (l.foldl f s) = kept s := by
  induction l generalizing s with
  | nil => rfl
  | cons a t ih => rw [List.foldl_cons, ih, h]

/-! ### Notices and free orders -/

@[simp] theorem addNotice_fields (n : Notice) (p : Port) :
    (addNotice n p).receiver = p.receiver ∧ (addNotice n p).slot = p.slot ∧ (addNotice n p).answering = p.answering
      ∧ (addNotice n p).frameLost = p.frameLost ∧ (addNotice n p).nextNumber = p.nextNumber := by
  unfold addNotice; split
  · simp
  · split <;> simp

@[simp] theorem kept_postAt (t i : Nat) (d : NoticeDetail) (s : State) : kept (postAt t i d s) = kept s := by simp [postAt]
@[simp] theorem kept_post (i : Nat) (d : NoticeDetail) (s : State) : kept (post i d s) = kept s := by simp [post]
@[simp] theorem kept_dropChoice (s : State) : kept (dropChoice s) = kept s := by simp [dropChoice]

/-! ### The sounding queue and the drive supply -/

@[simp] theorem kept_queueEntry (e : SoundingEntry) (s : State) : kept (queueEntry e s) = kept s := by simp [queueEntry]
@[simp] theorem kept_supplyOn (s : State) : kept (supplyOn s) = kept s := by unfold supplyOn; split <;> simp
@[simp] theorem kept_supplyOff (s : State) : kept (supplyOff s) = kept s := by simp [supplyOff]
@[simp] theorem kept_setEngine (f : InFlight) (s : State) : kept (setEngine f s) = kept s := by simp [setEngine]

@[simp] theorem kept_supplyFollowsMode (s : State) : kept (supplyFollowsMode s) = kept s := by
  unfold supplyFollowsMode; split
  · simp
  · split <;> simp

@[simp] theorem kept_engineTake (s : State) : kept (engineTake s) = kept s := by
  unfold engineTake; split
  · dsimp only; split <;> simp
  · rfl

@[simp] theorem kept_engineIdle (s : State) : kept (engineIdle s) = kept s := by
  unfold engineIdle; dsimp only; split <;> simp

@[simp] theorem kept_reviseEntry (b : Fin 8) (s : State) : kept (reviseEntry b s) = kept s := by
  unfold reviseEntry; split <;> simp

@[simp] theorem kept_intervalChanged (b : Fin 8) (s : State) : kept (intervalChanged b s) = kept s := by simp [intervalChanged]

@[simp] theorem kept_intervalsChanged (s : State) : kept (intervalsChanged s) = kept s := by
  simp only [intervalsChanged, kept_engineTake]
  exact kept_foldl _ (fun s b => kept_reviseEntry b s) _ _

@[simp] theorem kept_refIntervalChanged (k : Fin 4) (s : State) : kept (refIntervalChanged k s) = kept s := by
  unfold refIntervalChanged; split <;> simp

/-! ### The actuator line's queue -/

@[simp] theorem kept_lineTake (s : State) : kept (lineTake s) = kept s := by unfold lineTake; split <;> simp
@[simp] theorem kept_lineIdle (s : State) : kept (lineIdle s) = kept s := by simp [lineIdle]
@[simp] theorem kept_reshutFailed (b : Fin 8) (f : Failure) (s : State) : kept (reshutFailed b f s) = kept s := by
  unfold reshutFailed; split <;> simp

@[simp] theorem kept_tellSuperseded (o : Originator) (c : LineCommand) (s : State) : kept (tellSuperseded o c s) = kept s := by
  unfold tellSuperseded; split
  · split
    · split <;> simp
    · rfl
  all_goals rfl

@[simp] theorem kept_setLast (s : State) (d : Fin 16) (x : Option LastOutcome) : kept (s.setLast d x) = kept s := rfl
@[simp] theorem kept_recordOutcome (d : Fin 16) (c : LineCommand) (o : Originator) (oc : LineOutcome) (s : State) :
    kept (recordOutcome d c o oc s) = kept s := rfl

@[simp] theorem kept_supersede (w : LineEntry) (s : State) : kept (supersede w s) = kept s := by
  unfold supersede; dsimp only; split <;> simp

@[simp] theorem kept_putDrive (d : Fin 16) (c : LineCommand) (o : Originator) (s : State) : kept (putDrive d c o s) = kept s := by
  unfold putDrive; split <;> simp

@[simp] theorem kept_putQuery (d : Fin 16) (o : Originator) (s : State) : kept (putQuery d o s) = kept s := by
  unfold putQuery; split <;> simp

@[simp] theorem kept_withdrawEngage (d : Fin 16) (b : Fin 8) (s : State) : kept (withdrawEngage d b s) = kept s := by
  simp [withdrawEngage]

@[simp] theorem kept_returnEntry (d : Fin 16) (c : LineCommand) (o : Originator) (t : Nat) (s : State) :
    kept (returnEntry d c o t s) = kept s := by
  unfold returnEntry; dsimp only; split <;> split <;> simp

@[simp] theorem kept_announce (d : Fin 16) (o n : DeviceState) (c : LineCommand) (s : State) : kept (announce d o n c s) = kept s := by
  unfold announce; split
  · simp
  · split <;> simp

/-! ### Credits and slots -/

@[simp] theorem kept_consume (s : State) : kept (consume s) = kept s := by simp [consume]

@[simp] theorem kept_forfeit (b : Fin 8) (s : State) : kept (forfeit b s) = kept s := by
  unfold forfeit; split
  · dsimp only; split <;> simp
  · rfl

@[simp] theorem kept_putForOrder (b : Fin 8) (c : LineCommand) (s : State) : kept (putForOrder b c s) = kept s := by
  unfold putForOrder; split <;> simp

@[simp] theorem kept_enterClosing (b : Fin 8) (c : ClosingCause) (s : State) : kept (enterClosing b c s) = kept s := by
  unfold enterClosing; split
  · dsimp only; split <;> simp
  · rfl

@[simp] theorem kept_overtake (b : Fin 8) (c : ClosingCause) (s : State) : kept (overtake b c s) = kept s := by simp [overtake]
@[simp] theorem kept_setFailure (b : Fin 8) (f : Failure) (s : State) : kept (setFailure b f s) = kept s := by
  unfold setFailure; split <;> simp
@[simp] theorem kept_enterRunning (b : Fin 8) (s : State) : kept (enterRunning b s) = kept s := by
  unfold enterRunning; split <;> simp
@[simp] theorem kept_enterOpening (b : Fin 8) (s : State) : kept (enterOpening b s) = kept s := by
  unfold enterOpening; split <;> simp

@[simp] theorem kept_creditsWanted (s : State) : kept (creditsWanted s) = kept s := by
  unfold creditsWanted; split
  · split <;> simp
  · rfl

@[simp] theorem kept_slotGrantRounds (n : Nat) (s : State) : kept (slotGrantRounds n s) = kept s := by
  induction n generalizing s with
  | zero => simp [slotGrantRounds]
  | succ n ih =>
    unfold slotGrantRounds; split
    · split <;> simp [ih]
    · simp

@[simp] theorem kept_slotGrant (s : State) : kept (slotGrant s) = kept s := by simp [slotGrant]

/-! ### The mode and the planner -/

@[simp] theorem kept_plannerBay (s : State) (b : Fin 8) : kept (plannerBay s b) = kept s := by
  unfold plannerBay; split <;> simp

@[simp] theorem kept_plannerEvaluation (s : State) : kept (plannerEvaluation s) = kept s :=
  kept_foldl _ kept_plannerBay _ _

@[simp] theorem kept_changeMode (m : Mode) (o : ModeOrigin) (s : State) : kept (changeMode m o s) = kept s := by simp [changeMode]

@[simp] theorem kept_evaluateMode (s : State) : kept (evaluateMode s) = kept s := by
  unfold evaluateMode; split <;> simp

@[simp] theorem kept_plannerTake (s : State) : kept (plannerTake s) = kept s := by
  unfold plannerTake; split <;> simp

@[simp] theorem kept_sitePlanner (s : State) : kept (sitePlanner s) = kept s := by
  unfold sitePlanner; split <;> simp

@[simp] theorem kept_dropOrder (b : Fin 8) (o : Order) (n : DrainDetail → NoticeDetail) (c : DrainCause) (f : Option Failure) (s : State) :
    kept (dropOrder b o n c f s) = kept s := by simp [dropOrder]

@[simp] theorem kept_retire (b : Fin 8) (n : DrainDetail → NoticeDetail) (c : DrainCause) (f : Option Failure) (s : State) :
    kept (retire b n c f s) = kept s := by
  unfold retire; split
  · dsimp only; split <;> simp
  · rfl

@[simp] theorem kept_retireDone (b : Fin 8) (s : State) : kept (retireDone b s) = kept s := by simp [retireDone]
@[simp] theorem kept_retireCancelled (b : Fin 8) (c : CancelCause) (s : State) : kept (retireCancelled b c s) = kept s := by
  simp [retireCancelled]

@[simp] theorem kept_testQueued (b : Fin 8) (s : State) : kept (testQueued b s) = kept s := by
  unfold testQueued; split <;> simp

/-! ### Drain orders -/

@[simp] theorem kept_lotBoundary (b : Fin 8) (v : Nat) (s : State) : kept (lotBoundary b v s) = kept s := by
  unfold lotBoundary; split
  · dsimp only; split <;> simp
  · simp

@[simp] theorem kept_lotProgress (b : Fin 8) (v w : Nat) (s : State) : kept (lotProgress b v w s) = kept s := by
  unfold lotProgress; split
  · split
    · dsimp only; split
      · simp
      · split
        · split <;> simp
        · simp
    · rfl
  · rfl

@[simp] theorem kept_changeHolds (b : Fin 8) (f : HoldCauses → HoldCauses) (s : State) : kept (changeHolds b f s) = kept s := by
  unfold changeHolds; split <;> simp

@[simp] theorem kept_drainAcceptance (b : Fin 8) (v w : Nat) (s : State) : kept (drainAcceptance b v w s) = kept s := by
  unfold drainAcceptance; dsimp only; split <;> simp

@[simp] theorem kept_gaugeLoss (b : Fin 8) (s : State) : kept (gaugeLoss b s) = kept s := by
  unfold gaugeLoss; dsimp only; split
  · split <;> simp
  · simp

@[simp] theorem kept_worksStopBay (s : State) (b : Fin 8) : kept (worksStopBay s b) = kept s := by
  unfold worksStopBay; split
  · split <;> simp
  · rfl

@[simp] theorem kept_handOvertakes (b : Fin 8) (s : State) : kept (handOvertakes b s) = kept s := by
  unfold handOvertakes; dsimp only; split
  · split <;> split <;> simp
  · simp

@[simp] theorem kept_handReported (b : Fin 8) (s : State) : kept (handReported b s) = kept s := by
  unfold handReported; dsimp only; split
  · split <;> simp
  · simp

@[simp] theorem kept_engageOutcome (b : Fin 8) (oc : LineOutcome) (s : State) : kept (engageOutcome b oc s) = kept s := by
  unfold engageOutcome; split <;> simp

@[simp] theorem kept_reshutOutcome (b : Fin 8) (oc : LineOutcome) (s : State) : kept (reshutOutcome b oc s) = kept s := by
  unfold reshutOutcome; split <;> simp

@[simp] theorem kept_handLeft (b : Fin 8) (s : State) : kept (handLeft b s) = kept s := by simp [handLeft]

@[simp] theorem kept_deviceFailedRunning (b : Fin 8) (f : Failure) (s : State) : kept (deviceFailedRunning b f s) = kept s := by
  unfold deviceFailedRunning; split <;> simp

@[simp] theorem kept_deviceChanged (b : Fin 8) (o n : DeviceState) (s : State) : kept (deviceChanged b o n s) = kept s := by
  unfold deviceChanged; split
  · rfl
  · dsimp only; split <;> split <;> simp

@[simp] theorem kept_handChange (d : Fin 16) (o n : DeviceState) (s : State) : kept (handChange d o n s) = kept s := by
  unfold handChange; split <;> simp

@[simp] theorem kept_cancel (b : Fin 8) (c : CancelCause) (s : State) : kept (cancel b c s) = kept s := by
  unfold cancel; split
  · split
    · simp
    · simp
    · simp
    · simp
    · split <;> simp
    · rfl
  · rfl

@[simp] theorem kept_cancelAuto (s : State) (b : Fin 8) : kept (cancelAuto s b) = kept s := by
  unfold cancelAuto; split
  · split <;> simp
  · rfl

@[simp] theorem kept_enterMaintenance (s : State) : kept (enterMaintenance s) = kept s := by
  simp only [enterMaintenance, kept_plannerEvaluation]
  rw [kept_foldl _ kept_cancelAuto]
  simp

/-- Works-stop reaches the orders; beside the kept part it changes works-stop itself. -/
@[simp] theorem kept_worksStopAsserted (s : State) : kept (worksStopAsserted s) = kept (s.withTerm { s.term with worksStop := true }) := by
  simp only [worksStopAsserted]
  rw [kept_foldl _ kept_worksStopBay, kept_foldl _ (fun s b => kept_changeHolds b _ s)]

@[simp] theorem kept_worksStopFrees (s : State) : kept (worksStopFrees s) = kept (s.withTerm { s.term with worksStop := false }) :=
  kept_foldl _ (fun s b => kept_changeHolds b _ s) _ _

@[simp] theorem kept_dropTested (s : State) (b : Fin 8) : kept (dropTested s b) = kept s := by
  unfold dropTested; split
  · split <;> simp
  · rfl

@[simp] theorem kept_worksStopReleased (s : State) : kept (worksStopReleased s) = kept (s.withTerm { s.term with worksStop := false }) := by
  simp only [worksStopReleased, kept_slotGrant]
  rw [kept_foldl _ (fun s _ => kept_sitePlanner s), kept_foldl _ kept_dropTested, kept_worksStopFrees]

/-! ### Auto-inhibit flags: what sets them keeps the rest -/

@[simp] theorem kept_setInhibit (b : Fin 8) (c : InhibitCause) (s : State) :
    kept (setInhibit b c s) = kept (s.withInhibit (s.inhibit.put b (some c))) := by
  simp [setInhibit, raiseInhibit]

end Sys2Proof.Machine
end

