-- ==== Sys2Proof/Laws/Fixed.lean ====
section
/-! SUPPORT. What no command but its own changes: every operation leaves the waiting commands, the backup supply and the levels at the pins alone. -/

namespace Sys2Proof.Machine

theorem fixed_of_kept {s t : State} (h : kept t = kept s) : fixed t = fixed s := by
  have h1 := congrArg Kept.pending h
  have h2 := congrArg Kept.backup h
  have h3 := congrArg (fun k => k.term.pins) h
  simp only [kept] at h1 h2 h3
  simp [fixed, h1, h2, h3]

/-! ### The setters -/

@[simp] theorem fixed_withRun (s : State) (x : Run) : fixed (s.withRun x) = fixed s := rfl
@[simp] theorem fixed_withClock (s : State) (x : Clock) : fixed (s.withClock x) = fixed s := rfl
@[simp] theorem fixed_withImage (s : State) (x : Image) : fixed (s.withImage x) = fixed s := rfl
@[simp] theorem fixed_withRet (s : State) (x : Retained) : fixed (s.withRet x) = fixed s := rfl
@[simp] theorem fixed_withMode (s : State) (x : Mode) : fixed (s.withMode x) = fixed s := rfl
@[simp] theorem fixed_withSnd (s : State) (x : Sounding) : fixed (s.withSnd x) = fixed s := rfl
@[simp] theorem fixed_withLvl (s : State) (x : Levels) : fixed (s.withLvl x) = fixed s := rfl
@[simp] theorem fixed_withRain (s : State) (x : Rain) : fixed (s.withRain x) = fixed s := rfl
@[simp] theorem fixed_withSpill (s : State) (x : Tab 4 OutfallVol) : fixed (s.withSpill x) = fixed s := rfl
@[simp] theorem fixed_withDrn (s : State) (x : Drain) : fixed (s.withDrn x) = fixed s := rfl
@[simp] theorem fixed_withInhibit (s : State) (x : Tab 8 (Option InhibitCause)) : fixed (s.withInhibit x) = fixed s := rfl
@[simp] theorem fixed_withAct (s : State) (x : Actuator) : fixed (s.withAct x) = fixed s := rfl
@[simp] theorem fixed_withPort (s : State) (x : Port) : fixed (s.withPort x) = fixed s := rfl
@[simp] theorem fixed_withFree (s : State) (x : Free) : fixed (s.withFree x) = fixed s := rfl
@[simp] theorem fixed_setBayRec (s : State) (b : Fin 8) (x : BayRec) : fixed (s.setBayRec b x) = fixed s := rfl
@[simp] theorem fixed_setLevel (s : State) (b : Fin 8) (x : LevelRecord) : fixed (s.setLevel b x) = fixed s := rfl
@[simp] theorem fixed_setFloat (s : State) (b : Fin 8) (x : FloatState) : fixed (s.setFloat b x) = fixed s := rfl
@[simp] theorem fixed_setOrder (s : State) (b : Fin 8) (x : Option Order) : fixed (s.setOrder b x) = fixed s := rfl
@[simp] theorem fixed_setDevice (s : State) (b : Fin 16) (x : DeviceVol) : fixed (s.setDevice b x) = fixed s := rfl
@[simp] theorem fixed_setLast (s : State) (b : Fin 16) (x : Option LastOutcome) : fixed (s.setLast b x) = fixed s := rfl
@[simp] theorem fixed_setOutfall (s : State) (b : Fin 4) (x : OutfallVol) : fixed (s.setOutfall b x) = fixed s := rfl
@[simp] theorem fixed_setCounts (s : State) (b : Fin 4) (x : OutfallCounts) : fixed (s.setCounts b x) = fixed s := rfl
@[simp] theorem fixed_setGauge (s : State) (b : Fin 4) (x : GaugeVol) : fixed (s.setGauge b x) = fixed s := rfl

/-- Other terminals with the same levels at the pins. -/
@[simp] theorem fixed_withTerm (s : State) (x : Terminals) (h : x.pins = s.term.pins) : fixed (s.withTerm x) = fixed s := by
  simp [fixed, h]

@[simp] theorem pins_of_fixed {s t : State} (h : fixed t = fixed s) : t.term.pins = s.term.pins := congrArg Fixed.pins h

/-- A fold of steps that leave the fixed part alone leaves it alone. -/
theorem fixed_foldl {α : Type} (f : State → α → State) (h : ∀ s a, fixed (f s a) = fixed s) (l : List α) (s : State) :
    fixed (l.foldl f s) = fixed s := by
  induction l generalizing s with
  | nil => rfl
  | cons a t ih => rw [List.foldl_cons, ih, h]

/-! ### Answers -/

theorem fixed_onFields {α : Type} (b : Body α) (s : State) (f : α → Answer) (hf : ∀ x, fixed (f x).state = fixed s) :
    fixed (onFields b s f).state = fixed s := by
  unfold onFields; split
  · rfl
  · exact hf _

theorem fixed_onBay (n : Nat) (s : State) (f : Fin 8 → Answer) (hf : ∀ x, fixed (f x).state = fixed s) :
    fixed (onBay n s f).state = fixed s := by
  unfold onBay refuse; repeat' split
  all_goals first | rfl | exact hf _

theorem fixed_onOutfall (n : Nat) (s : State) (f : Fin 4 → Answer) (hf : ∀ x, fixed (f x).state = fixed s) :
    fixed (onOutfall n s f).state = fixed s := by
  unfold onOutfall refuse; repeat' split
  all_goals first | rfl | exact hf _

theorem fixed_onDevice (n : Nat) (s : State) (f : Fin 16 → Answer) (hf : ∀ x, fixed (f x).state = fixed s) :
    fixed (onDevice n s f).state = fixed s := by
  unfold onDevice refuse; repeat' split
  all_goals first | rfl | exact hf _

theorem fixed_unlessRefused (cs : List (Bool × Result)) (s : State) (a : Answer) (ha : fixed a.state = fixed s) :
    fixed (unlessRefused cs s a).state = fixed s := by
  unfold unlessRefused refuse; split
  · rfl
  · exact ha

/-! ### Ops -/

@[simp] theorem fixed_advance (us : Nat) (s : State) : fixed (advance us s) = fixed s := by
  unfold advance
  repeat' split
  all_goals simp

@[simp] theorem fixed_reachSecond (t : Nat) (s : State) : fixed (reachSecond t s) = fixed s := by simp [reachSecond]

@[simp] theorem fixed_reachFast (t : Nat) (s : State) : fixed (reachFast t s) = fixed s := by simp [reachFast]

@[simp] theorem fixed_postAt (t subject : Nat) (d : NoticeDetail) (s : State) : fixed (postAt t subject d s) = fixed s :=
  fixed_of_kept (by simp)

@[simp] theorem fixed_post (subject : Nat) (d : NoticeDetail) (s : State) : fixed (post subject d s) = fixed s :=
  fixed_of_kept (by simp)

@[simp] theorem fixed_dropChoice (s : State) : fixed (dropChoice s) = fixed s :=
  fixed_of_kept (by simp)

/-! ### Flags -/

@[simp] theorem fixed_refreshAlarms (s : State) : fixed (refreshAlarms s) = fixed s := by simp [refreshAlarms]

/-! ### SpillLog -/

@[simp] theorem fixed_updateOpen (k : Fin 4) (f : SpillRecord → SpillRecord) (s : State) : fixed (updateOpen k f s) = fixed s := by simp [updateOpen]

@[simp] theorem fixed_enterLog (id : Nat) (r : SpillRecord) (s : State) : fixed (enterLog id r s) = fixed s := by
  unfold enterLog; dsimp only; split <;> simp

@[simp] theorem fixed_placeSpill_placeSlot (k : Fin 4) (start : Nat) (cls : SpillClass) (head : Nat) (s : State) :
    fixed (placeSpill.placeSlot k start cls head s) = fixed s := by simp [placeSpill.placeSlot]

@[simp] theorem fixed_placeSpill (k : Fin 4) (start : Nat) (cls : SpillClass) (head : Nat) (s : State) :
    fixed (placeSpill k start cls head s) = fixed s := by
  unfold placeSpill
  repeat' split
  all_goals simp

@[simp] theorem fixed_rewriteRecords (s : State) : fixed (rewriteRecords s) = fixed s := by simp [rewriteRecords]

theorem fixed_transferOne {s t : State} (h : transferOne s = some t) : fixed t = fixed s := by
  unfold transferOne at h
  split at h
  · split at h
    · rw [← Option.some.inj h]; simp
    · exact absurd h (by simp)
  · exact absurd h (by simp)

theorem fixed_transferLoop (fuel n : Nat) (s : State) : fixed (transferLoop fuel n s).1 = fixed s := by
  induction fuel generalizing n s with
  | zero => rfl
  | succ fuel ih =>
    unfold transferLoop; split
    · rfl
    · rename_i t ht; rw [ih, fixed_transferOne ht]

@[simp] theorem fixed_transferTest (s : State) : fixed (transferTest s).1 = fixed s := fixed_transferLoop 4 0 s

/-! ### Sounder -/

@[simp] theorem fixed_queueEntry (e : SoundingEntry) (s : State) : fixed (queueEntry e s) = fixed s :=
  fixed_of_kept (by simp)

@[simp] theorem fixed_supplyOn (s : State) : fixed (supplyOn s) = fixed s :=
  fixed_of_kept (by simp)

@[simp] theorem fixed_supplyOff (s : State) : fixed (supplyOff s) = fixed s :=
  fixed_of_kept (by simp)

@[simp] theorem fixed_supplyFollowsMode (s : State) : fixed (supplyFollowsMode s) = fixed s :=
  fixed_of_kept (by simp)

@[simp] theorem fixed_engineTake (s : State) : fixed (engineTake s) = fixed s :=
  fixed_of_kept (by simp)

@[simp] theorem fixed_engineIdle (s : State) : fixed (engineIdle s) = fixed s :=
  fixed_of_kept (by simp)

@[simp] theorem fixed_setEngine (f : InFlight) (s : State) : fixed (setEngine f s) = fixed s :=
  fixed_of_kept (by simp)

@[simp] theorem fixed_reviseEntry (b : Fin 8) (s : State) : fixed (reviseEntry b s) = fixed s :=
  fixed_of_kept (by simp)

@[simp] theorem fixed_intervalChanged (b : Fin 8) (s : State) : fixed (intervalChanged b s) = fixed s :=
  fixed_of_kept (by simp)

@[simp] theorem fixed_intervalsChanged (s : State) : fixed (intervalsChanged s) = fixed s :=
  fixed_of_kept (by simp)

@[simp] theorem fixed_refIntervalChanged (k : Fin 4) (s : State) : fixed (refIntervalChanged k s) = fixed s :=
  fixed_of_kept (by simp)

/-! ### Line -/

@[simp] theorem fixed_lineTake (s : State) : fixed (lineTake s) = fixed s :=
  fixed_of_kept (by simp)

@[simp] theorem fixed_lineIdle (s : State) : fixed (lineIdle s) = fixed s :=
  fixed_of_kept (by simp)

@[simp] theorem fixed_reshutFailed (b : Fin 8) (f : Failure) (s : State) : fixed (reshutFailed b f s) = fixed s :=
  fixed_of_kept (by simp)

@[simp] theorem fixed_tellSuperseded (orig : Originator) (c : LineCommand) (s : State) : fixed (tellSuperseded orig c s) = fixed s :=
  fixed_of_kept (by simp)

@[simp] theorem fixed_putDrive (d : Fin 16) (c : LineCommand) (orig : Originator) (s : State) : fixed (putDrive d c orig s) = fixed s :=
  fixed_of_kept (by simp)

@[simp] theorem fixed_putQuery (d : Fin 16) (orig : Originator) (s : State) : fixed (putQuery d orig s) = fixed s :=
  fixed_of_kept (by simp)

@[simp] theorem fixed_withdrawEngage (d : Fin 16) (b : Fin 8) (s : State) : fixed (withdrawEngage d b s) = fixed s :=
  fixed_of_kept (by simp)

@[simp] theorem fixed_recordOutcome (d : Fin 16) (c : LineCommand) (orig : Originator) (o : LineOutcome) (s : State) :
    fixed (recordOutcome d c orig o s) = fixed s := by simp [recordOutcome]

@[simp] theorem fixed_returnEntry (d : Fin 16) (c : LineCommand) (orig : Originator) (notBefore : Nat) (s : State) :
    fixed (returnEntry d c orig notBefore s) = fixed s := fixed_of_kept (by simp)

@[simp] theorem fixed_enterState (d : Fin 16) (st : DeviceState) (s : State) : fixed (enterState d st s) = fixed s := by simp [enterState]

@[simp] theorem fixed_announce (d : Fin 16) (old new : DeviceState) (c : LineCommand) (s : State) : fixed (announce d old new c s) = fixed s :=
  fixed_of_kept (by simp)

/-! ### Credits -/

@[simp] theorem fixed_consume (s : State) : fixed (consume s) = fixed s :=
  fixed_of_kept (by simp)

@[simp] theorem fixed_forfeit (b : Fin 8) (s : State) : fixed (forfeit b s) = fixed s :=
  fixed_of_kept (by simp)

@[simp] theorem fixed_putForOrder (b : Fin 8) (c : LineCommand) (s : State) : fixed (putForOrder b c s) = fixed s :=
  fixed_of_kept (by simp)

@[simp] theorem fixed_enterClosing (b : Fin 8) (cause : ClosingCause) (s : State) : fixed (enterClosing b cause s) = fixed s :=
  fixed_of_kept (by simp)

@[simp] theorem fixed_overtake (b : Fin 8) (cause : ClosingCause) (s : State) : fixed (overtake b cause s) = fixed s :=
  fixed_of_kept (by simp)

@[simp] theorem fixed_setFailure (b : Fin 8) (f : Failure) (s : State) : fixed (setFailure b f s) = fixed s :=
  fixed_of_kept (by simp)

@[simp] theorem fixed_enterRunning (b : Fin 8) (s : State) : fixed (enterRunning b s) = fixed s :=
  fixed_of_kept (by simp)

@[simp] theorem fixed_enterOpening (b : Fin 8) (s : State) : fixed (enterOpening b s) = fixed s :=
  fixed_of_kept (by simp)

@[simp] theorem fixed_creditsWanted (s : State) : fixed (creditsWanted s) = fixed s :=
  fixed_of_kept (by simp)

@[simp] theorem fixed_slotGrant (s : State) : fixed (slotGrant s) = fixed s :=
  fixed_of_kept (by simp)

/-! ### SiteMode -/

@[simp] theorem fixed_plannerBay (s : State) (b : Fin 8) : fixed (plannerBay s b) = fixed s :=
  fixed_of_kept (by simp)

@[simp] theorem fixed_plannerEvaluation (s : State) : fixed (plannerEvaluation s) = fixed s :=
  fixed_of_kept (by simp)

@[simp] theorem fixed_changeMode (m : Mode) (origin : ModeOrigin) (s : State) : fixed (changeMode m origin s) = fixed s :=
  fixed_of_kept (by simp)

@[simp] theorem fixed_evaluateMode (s : State) : fixed (evaluateMode s) = fixed s :=
  fixed_of_kept (by simp)

@[simp] theorem fixed_plannerTake (s : State) : fixed (plannerTake s) = fixed s :=
  fixed_of_kept (by simp)

@[simp] theorem fixed_sitePlanner (s : State) : fixed (sitePlanner s) = fixed s :=
  fixed_of_kept (by simp)

@[simp] theorem fixed_retire (b : Fin 8) (notice : DrainDetail → NoticeDetail) (cause : DrainCause) (failure : Option Failure) (s : State) :
    fixed (retire b notice cause failure s) = fixed s :=
  fixed_of_kept (by simp)

@[simp] theorem fixed_retireDone (b : Fin 8) (s : State) : fixed (retireDone b s) = fixed s :=
  fixed_of_kept (by simp)

@[simp] theorem fixed_retireCancelled (b : Fin 8) (c : CancelCause) (s : State) : fixed (retireCancelled b c s) = fixed s :=
  fixed_of_kept (by simp)

@[simp] theorem fixed_testQueued (b : Fin 8) (s : State) : fixed (testQueued b s) = fixed s :=
  fixed_of_kept (by simp)

@[simp] theorem fixed_raiseInhibit (b : Fin 8) (c : InhibitCause) (s : State) : fixed (raiseInhibit b c s) = fixed s := by simp [raiseInhibit]

@[simp] theorem fixed_setInhibit (b : Fin 8) (c : InhibitCause) (s : State) : fixed (setInhibit b c s) = fixed s := by simp [setInhibit]

/-! ### Drains -/

@[simp] theorem fixed_lotBoundary (b : Fin 8) (volume : Nat) (s : State) : fixed (lotBoundary b volume s) = fixed s :=
  fixed_of_kept (by simp)

@[simp] theorem fixed_lotProgress (b : Fin 8) (value volume : Nat) (s : State) : fixed (lotProgress b value volume s) = fixed s :=
  fixed_of_kept (by simp)

@[simp] theorem fixed_changeHolds (b : Fin 8) (f : HoldCauses → HoldCauses) (s : State) : fixed (changeHolds b f s) = fixed s :=
  fixed_of_kept (by simp)

@[simp] theorem fixed_drainAcceptance (b : Fin 8) (value volume : Nat) (s : State) : fixed (drainAcceptance b value volume s) = fixed s :=
  fixed_of_kept (by simp)

@[simp] theorem fixed_gaugeLoss (b : Fin 8) (s : State) : fixed (gaugeLoss b s) = fixed s :=
  fixed_of_kept (by simp)

@[simp] theorem fixed_worksStopBay (s : State) (b : Fin 8) : fixed (worksStopBay s b) = fixed s :=
  fixed_of_kept (by simp)

@[simp] theorem fixed_worksStopAsserted (s : State) : fixed (worksStopAsserted s) = fixed s := by
  unfold worksStopAsserted
  rw [fixed_foldl _ fixed_worksStopBay, fixed_foldl _ (fun s b => fixed_changeHolds b _ s)]; simp

@[simp] theorem fixed_worksStopReleased (s : State) : fixed (worksStopReleased s) = fixed s := by
  rw [fixed_of_kept (kept_worksStopReleased s)]; simp

@[simp] theorem fixed_confirmClose (b : Fin 8) (s : State) : fixed (confirmClose b s) = fixed s := by
  unfold confirmClose
  repeat' split
  all_goals simp

@[simp] theorem fixed_enterSuspect (b : Fin 8) (f : Failure) (s : State) : fixed (enterSuspect b f s) = fixed s := by
  unfold enterSuspect; split <;> simp

@[simp] theorem fixed_handOvertakes (b : Fin 8) (s : State) : fixed (handOvertakes b s) = fixed s :=
  fixed_of_kept (by simp)

@[simp] theorem fixed_handReported (b : Fin 8) (s : State) : fixed (handReported b s) = fixed s :=
  fixed_of_kept (by simp)

@[simp] theorem fixed_engageOutcome (b : Fin 8) (oc : LineOutcome) (s : State) : fixed (engageOutcome b oc s) = fixed s :=
  fixed_of_kept (by simp)

@[simp] theorem fixed_releaseOutcome (b : Fin 8) (oc : LineOutcome) (s : State) : fixed (releaseOutcome b oc s) = fixed s := by
  unfold releaseOutcome; split <;> simp

@[simp] theorem fixed_reshutOutcome (b : Fin 8) (oc : LineOutcome) (s : State) : fixed (reshutOutcome b oc s) = fixed s :=
  fixed_of_kept (by simp)

@[simp] theorem fixed_tell (orig : Originator) (c : LineCommand) (oc : LineOutcome) (s : State) : fixed (tell orig c oc s) = fixed s := by
  unfold tell
  repeat' split
  all_goals simp

@[simp] theorem fixed_handLeft (b : Fin 8) (s : State) : fixed (handLeft b s) = fixed s :=
  fixed_of_kept (by simp)

@[simp] theorem fixed_deviceFailedRunning (b : Fin 8) (f : Failure) (s : State) : fixed (deviceFailedRunning b f s) = fixed s :=
  fixed_of_kept (by simp)

@[simp] theorem fixed_deviceChanged (b : Fin 8) (old new : DeviceState) (s : State) : fixed (deviceChanged b old new s) = fixed s :=
  fixed_of_kept (by simp)

@[simp] theorem fixed_handChange (d : Fin 16) (old new : DeviceState) (s : State) : fixed (handChange d old new s) = fixed s :=
  fixed_of_kept (by simp)

@[simp] theorem fixed_cancel (b : Fin 8) (c : CancelCause) (s : State) : fixed (cancel b c s) = fixed s :=
  fixed_of_kept (by simp)

@[simp] theorem fixed_cancelAuto (s : State) (b : Fin 8) : fixed (cancelAuto s b) = fixed s :=
  fixed_of_kept (by simp)

@[simp] theorem fixed_enterMaintenance (s : State) : fixed (enterMaintenance s) = fixed s :=
  fixed_of_kept (by simp)

/-! ### RainWatch -/

@[simp] theorem fixed_startStuckDeadline (g : Fin 4) (s : State) : fixed (startStuckDeadline g s) = fixed s := by
  unfold startStuckDeadline; split <;> simp

@[simp] theorem fixed_recomputeAlert (cause : AlertCause) (index : Nat) (s : State) : fixed (recomputeAlert cause index s) = fixed s := by
  unfold recomputeAlert; dsimp only; split <;> simp

@[simp] theorem fixed_enterRule (r : Fin 8) (v : RuleVol) (s : State) : fixed (enterRule r v s) = fixed s := by simp [enterRule]

@[simp] theorem fixed_raiseRule (r : Fin 8) (s : State) : fixed (raiseRule r s) = fixed s := by simp [raiseRule]

@[simp] theorem fixed_evaluateRaising (g : Fin 4) (s : State) (r : Fin 8) : fixed (evaluateRaising g s r) = fixed s := by
  unfold evaluateRaising; dsimp only
  repeat' split
  all_goals simp

@[simp] theorem fixed_evaluateDepth (r : Fin 8) (d : Nat) (s : State) : fixed (evaluateDepth r d s) = fixed s := by
  unfold evaluateDepth; dsimp only
  repeat' split
  all_goals simp

@[simp] theorem fixed_evaluateFull (s : State) (r : Fin 8) : fixed (evaluateFull s r) = fixed s := by
  unfold evaluateFull
  repeat' split
  all_goals simp

@[simp] theorem fixed_takeTip (g : Fin 4) (s : State) : fixed (takeTip g s) = fixed s := by
  unfold takeTip
  rw [fixed_foldl _ (fixed_evaluateRaising g)]; simp

@[simp] theorem fixed_gaugeActiveEdge (g : Fin 4) (s : State) : fixed (gaugeActiveEdge g s) = fixed s := by
  unfold gaugeActiveEdge; split <;> simp

@[simp] theorem fixed_gaugeInactiveEdge (g : Fin 4) (s : State) : fixed (gaugeInactiveEdge g s) = fixed s := by simp [gaugeInactiveEdge]

@[simp] theorem fixed_rollHistories (second : Nat) (s : State) : fixed (rollHistories second s) = fixed s := fixed_foldl _ (fun _ _ => by simp [apply_ite fixed]) _ _

@[simp] theorem fixed_minuteRoll (s : State) : fixed (minuteRoll s) = fixed s := by
  unfold minuteRoll
  rw [fixed_foldl _ fixed_evaluateFull]; simp

/-! ### Spills -/

@[simp] theorem fixed_enterSpillState (k : Fin 4) (st : SpillState) (s : State) : fixed (enterSpillState k st s) = fixed s := by simp [enterSpillState]

@[simp] theorem fixed_creditPeriod (k : Fin 4) (f : PeriodSet → PeriodSet) (s : State) : fixed (creditPeriod k f s) = fixed s := by simp [creditPeriod]

@[simp] theorem fixed_accrue (k : Fin 4) (head : Int) (interval : Nat) (s : State) : fixed (accrue k head interval s) = fixed s := by simp [accrue]

@[simp] theorem fixed_openBlock (k : Fin 4) (start : Nat) (s : State) : fixed (openBlock k start s) = fixed s := by simp [openBlock]

@[simp] theorem fixed_carryBlock (k : Fin 4) (start : Nat) (s : State) : fixed (carryBlock k start s) = fixed s := by simp [carryBlock]

@[simp] theorem fixed_outfallChanged (k : Fin 4) (s : State) : fixed (outfallChanged k s) = fixed s := by simp [outfallChanged]

@[simp] theorem fixed_startSpill (k : Fin 4) (head : Int) (time : Nat) (s : State) : fixed (startSpill k head time s) = fixed s := by
  unfold startSpill; dsimp only
  repeat' split
  all_goals simp

@[simp] theorem fixed_beginTail (k : Fin 4) (time : Nat) (s : State) : fixed (beginTail k time s) = fixed s := by simp [beginTail]

@[simp] theorem fixed_spillTransition (k : Fin 4) (head : Int) (time : Nat) (s : State) : fixed (spillTransition k head time s) = fixed s := by
  unfold spillTransition; dsimp only
  repeat' split
  all_goals simp

@[simp] theorem fixed_accrueAndPeak (k : Fin 4) (head : Int) (time : Nat) (previous : Option Nat) (s : State) :
    fixed (accrueAndPeak k head time previous s) = fixed s := by
  unfold accrueAndPeak; split <;> simp

@[simp] theorem fixed_spillAcceptance (b : Fin 8) (value time : Nat) (previous : Option Nat) (s : State) :
    fixed (spillAcceptance b value time previous s) = fixed s := by
  unfold spillAcceptance
  repeat' split
  all_goals simp

@[simp] theorem fixed_spillLoss (b : Fin 8) (s : State) : fixed (spillLoss b s) = fixed s := by
  unfold spillLoss
  repeat' split
  all_goals simp

@[simp] theorem fixed_closeFigures (k : Fin 4) (finish : Nat) (cause : EndCause) (o : OpenSpill) (s : State) :
    fixed (closeFigures k finish cause o s) = fixed s := by simp [closeFigures]

@[simp] theorem fixed_closeSpill (k : Fin 4) (finish : Nat) (cause : EndCause) (atStart : Bool) (s : State) :
    fixed (closeSpill k finish cause atStart s) = fixed s := by
  unfold closeSpill
  split
  · split
    · dsimp only
      rw [fixed_postAt, fixed_setOutfall]
      split <;> simp
    · rfl
  · rfl

@[simp] theorem fixed_tailEnds (k : Fin 4) (s : State) : fixed (tailEnds k s) = fixed s := by
  unfold tailEnds; split <;> simp

@[simp] theorem fixed_blockEndReached (k : Fin 4) (s : State) : fixed (blockEndReached k s) = fixed s := by
  unfold blockEndReached; split <;> simp

/-! ### LevelKeeper -/

@[simp] theorem fixed_takeLevelEvent (b : Fin 8) (ev : LevelEvent) (s : State) (t : LevelTaker) : fixed (takeLevelEvent b ev s t) = fixed s := by
  unfold takeLevelEvent
  repeat' split
  all_goals simp

@[simp] theorem fixed_handLevelEvent (b : Fin 8) (ev : LevelEvent) (s : State) : fixed (handLevelEvent b ev s) = fixed s := by
  unfold handLevelEvent
  rw [fixed_foldl _ (fixed_takeLevelEvent b ev)]; simp

@[simp] theorem fixed_handQualityChange (b : Fin 8) (before : Quality) (s : State) : fixed (handQualityChange b before s) = fixed s := by
  unfold handQualityChange; split <;> simp

@[simp] theorem fixed_testDisagreement (b : Fin 8) (s : State) : fixed (testDisagreement b s) = fixed s := by
  unfold testDisagreement; split <;> simp

@[simp] theorem fixed_acceptReading (b : Fin 8) (level time : Nat) (s : State) : fixed (acceptReading b level time s) = fixed s := by simp [acceptReading]

@[simp] theorem fixed_withoutAcceptance (b : Fin 8) (r : LevelRecord) (s : State) : fixed (withoutAcceptance b r s) = fixed s := by
  unfold withoutAcceptance; dsimp only; split <;> simp

@[simp] theorem fixed_levelCompletion (b : Fin 8) (level : Option Nat) (time : Nat) (failedNow : Bool) (s : State) :
    fixed (levelCompletion b level time failedNow s) = fixed s := by
  unfold levelCompletion
  repeat' split
  all_goals simp

@[simp] theorem fixed_floatActivated (b : Fin 8) (s : State) : fixed (floatActivated b s) = fixed s := by
  unfold floatActivated; dsimp only; split <;> simp

@[simp] theorem fixed_floatReleased (b : Fin 8) (after : FloatState) (s : State) : fixed (floatReleased b after s) = fixed s := by
  unfold floatReleased; dsimp only; split <;> simp

/-! ### SoundingEnd -/

@[simp] theorem fixed_setChannel (b : Fin 8) (c : Channel) (s : State) : fixed (setChannel b c s) = fixed s := by simp [setChannel]

@[simp] theorem fixed_channelGood (b : Fin 8) (s : State) : fixed (channelGood b s) = fixed s := by
  unfold channelGood; dsimp only; split <;> simp

@[simp] theorem fixed_channelBad (b : Fin 8) (result : ReadingResult) (fault : Option DriveFault) (s : State) :
    fixed (channelBad b result fault s) = fixed s := by
  unfold channelBad; dsimp only; split <;> simp

@[simp] theorem fixed_channelTakes (r : Reading) (s : State) : fixed (channelTakes r s) = fixed s := by
  unfold channelTakes; split <;> simp

@[simp] theorem fixed_endDiscarded (f : InFlight) (s : State) : fixed (endDiscarded f s) = fixed s := by
  unfold endDiscarded; split <;> simp

@[simp] theorem fixed_finishWith (f : InFlight) (r : Reading) (s : State) : fixed (finishWith f r s) = fixed s := by simp [finishWith]

@[simp] theorem fixed_finish (f : InFlight) (result : ReadingResult) (level : Option Nat) (fault : Option DriveFault) (nanos : Option Nat) (s : State) :
    fixed (finish f result level fault nanos s) = fixed s := by
  unfold finish; split <;> simp

@[simp] theorem fixed_gatePassed (f : InFlight) (nanos : Nat) (s : State) : fixed (gatePassed f nanos s) = fixed s := by
  unfold gatePassed; split <;> simp

@[simp] theorem fixed_gateFailed (f : InFlight) (s : State) : fixed (gateFailed f s) = fixed s := by
  unfold gateFailed
  repeat' split
  all_goals simp

/-! ### LineEvents -/

@[simp] theorem fixed_tellEnd (e : Option EntryEnd) (s : State) : fixed (tellEnd e s) = fixed s := by
  unfold tellEnd; split <;> simp

@[simp] theorem fixed_recordEnd (d : Fin 16) (entry watch : Option EntryEnd) (s : State) : fixed (recordEnd d entry watch s) = fixed s := by
  unfold recordEnd; split <;> simp

@[simp] theorem fixed_concludeEvent (d : Fin 16) (old : DeviceState) (watch entry : Option EntryEnd) (c : LineCommand) (s : State) :
    fixed (concludeEvent d old watch entry c s) = fixed s := by simp [concludeEvent]

@[simp] theorem fixed_endInFault (t : Transaction) (st : DeviceState) (oc : LineOutcome) (s : State) :
    fixed (endInFault t st oc s) = fixed s := by simp [endInFault]

@[simp] theorem fixed_loseStep (d : Fin 16) (s : State) : fixed (loseStep d s) = fixed s := by simp [loseStep]

@[simp] theorem fixed_setNaks (d : Fin 16) (n : Nat) (s : State) : fixed (setNaks d n s) = fixed s := by simp [setNaks]

@[simp] theorem fixed_resend (t : Transaction) (s : State) : fixed (resend t s) = fixed s := by simp [resend]

@[simp] theorem fixed_attemptFailed (t : Transaction) (cause : LostCause) (s : State) : fixed (attemptFailed t cause s) = fixed s := by
  unfold attemptFailed
  repeat' split
  all_goals simp

@[simp] theorem fixed_takeNak (t : Transaction) (s : State) : fixed (takeNak t s) = fixed s := by
  unfold takeNak; dsimp only; split <;> simp

@[simp] theorem fixed_takePosition (d : Fin 16) (c : LineCommand) (p : LinePosition) (s : State) : fixed (takePosition d c p s) = fixed s := by
  unfold takePosition; split <;> simp

@[simp] theorem fixed_ackOpening (t : Transaction) (p : LinePosition) (s : State) : fixed (ackOpening t p s) = fixed s := by simp [ackOpening]

@[simp] theorem fixed_ackDrive (t : Transaction) (p : LinePosition) (s : State) : fixed (ackDrive t p s) = fixed s := by
  unfold ackDrive; dsimp only; split <;> simp

@[simp] theorem fixed_ackQuery (t : Transaction) (p : LinePosition) (s : State) : fixed (ackQuery t p s) = fixed s := by
  unfold ackQuery; dsimp only
  repeat' split
  all_goals simp

@[simp] theorem fixed_takeAck (t : Transaction) (p : LinePosition) (s : State) : fixed (takeAck t p s) = fixed s := by
  unfold takeAck; split <;> simp

@[simp] theorem fixed_takeReply (t : Transaction) (st : LineStatus) (p : LinePosition) (s : State) : fixed (takeReply t st p s) = fixed s := by
  unfold takeReply
  repeat' split
  all_goals simp

@[simp] theorem fixed_judgeFrame (t : Transaction) (r : DeviceRec) (frame : List Byte) (s : State) :
    fixed (judgeFrame t r frame s) = fixed s := by
  unfold judgeFrame; split <;> simp

@[simp] theorem fixed_frameArrives (bytes : List Byte) (s : State) : fixed (frameArrives bytes s) = fixed s := by
  unfold frameArrives
  repeat' split
  all_goals simp

@[simp] theorem fixed_movementTimesOut (d : Fin 16) (c : LineCommand) (s : State) : fixed (movementTimesOut d c s) = fixed s := by simp [movementTimesOut]

/-! ### HostConfig -/

@[simp] theorem fixed_writeImage (i : Image) (s : State) : fixed (writeImage i s) = fixed s := by simp [writeImage]

@[simp] theorem fixed_handleParamsSounding (b : Body SoundingParams) (s : State) : fixed (handleParamsSounding b s).state = fixed s := by
  unfold handleParamsSounding onFields unlessRefused
  dsimp only
  repeat' split
  all_goals simp [answerOk, refuse]

@[simp] theorem fixed_handleParamsLevel (b : Body Nat) (s : State) : fixed (handleParamsLevel b s).state = fixed s := by
  unfold handleParamsLevel onFields unlessRefused
  dsimp only
  repeat' split
  all_goals simp [answerOk, refuse]

@[simp] theorem fixed_handleParamsRain (b : Body Nat) (s : State) : fixed (handleParamsRain b s).state = fixed s := by
  unfold handleParamsRain onFields unlessRefused
  dsimp only
  repeat' split
  all_goals simp [answerOk, refuse]

@[simp] theorem fixed_handleParamsDrain (b : Body DrainParams) (s : State) : fixed (handleParamsDrain b s).state = fixed s := by
  unfold handleParamsDrain onFields unlessRefused
  dsimp only
  repeat' split
  all_goals simp [answerOk, refuse]

@[simp] theorem fixed_handleParamsPlanner (b : Body Nat) (s : State) : fixed (handleParamsPlanner b s).state = fixed s := by
  unfold handleParamsPlanner onFields unlessRefused
  dsimp only
  repeat' split
  all_goals simp [answerOk, refuse]

@[simp] theorem fixed_handleParamsActuator (b : Body ActuatorParams) (s : State) : fixed (handleParamsActuator b s).state = fixed s := by
  unfold handleParamsActuator onFields unlessRefused
  dsimp only
  repeat' split
  all_goals simp [answerOk, refuse]

@[simp] theorem fixed_discardInFlight (b : Fin 8) (s : State) : fixed (discardInFlight b s) = fixed s := by
  unfold discardInFlight
  repeat' split
  all_goals simp

@[simp] theorem fixed_joinFresh (b : Fin 8) (s : State) : fixed (joinFresh b s) = fixed s := by
  unfold joinFresh; split <;> simp

@[simp] theorem fixed_applyBay (b : Fin 8) (r : BayRec) (s : State) : fixed (applyBay b r s) = fixed s := by simp [applyBay]

@[simp] theorem fixed_handleSetBay (b : Body BayFields) (s : State) : fixed (handleSetBay b s).state = fixed s := by
  unfold handleSetBay onFields unlessRefused
  dsimp only
  repeat' split
  all_goals simp [answerOk, refuse]

@[simp] theorem fixed_handleSetOutfall (b : Body OutfallFields) (s : State) : fixed (handleSetOutfall b s).state = fixed s := by
  unfold handleSetOutfall onFields unlessRefused
  dsimp only
  repeat' split
  all_goals simp [answerOk, refuse]

@[simp] theorem fixed_gaugeEnableChanged (g : Fin 4) (was is : Bool) (s : State) : fixed (gaugeEnableChanged g was is s) = fixed s := by
  unfold gaugeEnableChanged; dsimp only
  repeat' split
  all_goals simp

@[simp] theorem fixed_handleSetGauge (b : Body GaugeFields) (s : State) : fixed (handleSetGauge b s).state = fixed s := by
  unfold handleSetGauge onFields unlessRefused
  dsimp only
  repeat' split
  all_goals simp [answerOk, refuse]

@[simp] theorem fixed_applyRule (r : Fin 8) (v : RuleRec) (s : State) : fixed (applyRule r v s) = fixed s := by simp [applyRule]

@[simp] theorem fixed_handleSetRule (b : Body RuleFields) (s : State) : fixed (handleSetRule b s).state = fixed s := by
  unfold handleSetRule onFields unlessRefused
  dsimp only
  repeat' split
  all_goals simp [answerOk, refuse]

@[simp] theorem fixed_applyDevice (d : Fin 16) (r : Option DeviceRec) (s : State) : fixed (applyDevice d r s) = fixed s := by
  unfold applyDevice; split <;> simp

@[simp] theorem fixed_handleSetDevice (b : Body DeviceFields) (s : State) : fixed (handleSetDevice b s).state = fixed s := by
  unfold handleSetDevice onFields unlessRefused
  dsimp only
  repeat' split
  all_goals simp [answerOk, refuse]

@[simp] theorem fixed_setTerminalRec (t : Fin 12) (r : TerminalRec) (s : State) : fixed (setTerminalRec t r s) = fixed s := by simp [setTerminalRec]

@[simp] theorem fixed_departFunction (t : Fin 12) (s : State) : fixed (departFunction t s) = fixed s := by
  unfold departFunction; dsimp only
  repeat' split
  all_goals simp

@[simp] theorem fixed_takeRawLevel (t : Fin 12) (s : State) : fixed (takeRawLevel t s) = fixed s := by simp [takeRawLevel]

@[simp] theorem fixed_arriveFunction (t : Fin 12) (r : TerminalRec) (s : State) : fixed (arriveFunction t r s) = fixed s := by
  unfold arriveFunction; dsimp only
  repeat' split
  all_goals simp

@[simp] theorem fixed_handleSetTerminal (b : Body TerminalFields) (s : State) : fixed (handleSetTerminal b s).state = fixed s := by
  unfold handleSetTerminal onFields unlessRefused
  dsimp only
  repeat' split
  all_goals simp [answerOk, refuse]

@[simp] theorem fixed_handleSetAlarmLine (b : Body AlarmFields) (s : State) : fixed (handleSetAlarmLine b s).state = fixed s := by
  unfold handleSetAlarmLine onFields unlessRefused
  dsimp only
  repeat' split
  all_goals simp [answerOk, refuse]

/-! ### HostReports -/

@[simp] theorem fixed_reportEmpty (b : Body Unit) (s : State) (body : ReplyBody) : fixed (reportEmpty b s body).state = fixed s := by
  unfold reportEmpty onFields
  repeat' split
  all_goals simp [answerOk, refuse]

@[simp] theorem fixed_handleGetStatus (b : Body Unit) (s : State) : fixed (handleGetStatus b s).state = fixed s := by
  cases b <;> simp [handleGetStatus]

@[simp] theorem fixed_handleGetClock (b : Body Unit) (s : State) : fixed (handleGetClock b s).state = fixed s := by
  cases b <;> simp [handleGetClock]

@[simp] theorem fixed_handleGetSounding (b : Body Unit) (s : State) : fixed (handleGetSounding b s).state = fixed s := by
  cases b <;> simp [handleGetSounding]

@[simp] theorem fixed_handleGetBay (b : Body Nat) (s : State) : fixed (handleGetBay b s).state = fixed s :=
  fixed_onFields _ _ _ fun _ => fixed_onBay _ _ _ fun _ => rfl

@[simp] theorem fixed_handleGetRain (b : Body Unit) (s : State) : fixed (handleGetRain b s).state = fixed s := by
  cases b <;> simp [handleGetRain]

@[simp] theorem fixed_handleReadRainMinutes (b : Body Nat) (s : State) : fixed (handleReadRainMinutes b s).state = fixed s :=
  fixed_onFields _ _ _ fun _ => by
    split
    · rfl
    · dsimp only; split <;> rfl

@[simp] theorem fixed_handleGetOutfall (b : Body Nat) (s : State) : fixed (handleGetOutfall b s).state = fixed s :=
  fixed_onFields _ _ _ fun _ => fixed_onOutfall _ _ _ fun _ => rfl

@[simp] theorem fixed_handleReadSpills (b : Body ReadSpillsFields) (s : State) : fixed (handleReadSpills b s).state = fixed s := by
  unfold handleReadSpills onFields unlessRefused
  dsimp only
  repeat' split
  all_goals simp [answerOk, refuse]

@[simp] theorem fixed_handleGetCredits (b : Body Unit) (s : State) : fixed (handleGetCredits b s).state = fixed s := by
  cases b <;> simp [handleGetCredits]

@[simp] theorem fixed_handleGetPlanner (b : Body Unit) (s : State) : fixed (handleGetPlanner b s).state = fixed s := by
  cases b <;> simp [handleGetPlanner]

@[simp] theorem fixed_handleGetDevice (b : Body Nat) (s : State) : fixed (handleGetDevice b s).state = fixed s :=
  fixed_onFields _ _ _ fun _ => by split <;> rfl

@[simp] theorem fixed_handleGetTerminals (b : Body Unit) (s : State) : fixed (handleGetTerminals b s).state = fixed s := by
  cases b <;> simp [handleGetTerminals]

/-! ### HostOrders -/

@[simp] theorem fixed_handleFetchNotices (b : Body Nat) (s : State) : fixed (handleFetchNotices b s).state = fixed s := by
  unfold handleFetchNotices onFields unlessRefused
  dsimp only
  repeat' split
  all_goals simp [answerOk, refuse]

@[simp] theorem fixed_setOffset (time : Nat) (s : State) : fixed (setOffset time s) = fixed s := by
  unfold setOffset; split <;> simp

@[simp] theorem fixed_handleSetClock (b : Body Nat) (s : State) : fixed (handleSetClock b s).state = fixed s := by
  unfold handleSetClock onFields unlessRefused
  dsimp only
  repeat' split
  all_goals simp [answerOk, refuse]

@[simp] theorem fixed_handleRestart (b : Body Unit) (s : State) : fixed (handleRestart b s).state = fixed s :=
  fixed_onFields _ _ _ fun _ => rfl

@[simp] theorem fixed_handleMaintenance (s : State) : fixed (handleMaintenance s).state = fixed s := by
  unfold handleMaintenance
  repeat' split
  all_goals simp [answerOk]

@[simp] theorem fixed_handleAutomatic (s : State) : fixed (handleAutomatic s).state = fixed s := by
  unfold handleAutomatic
  repeat' split
  all_goals simp [answerOk]

@[simp] theorem fixed_handleSetMode (b : Body Nat) (s : State) : fixed (handleSetMode b s).state = fixed s :=
  fixed_onFields _ _ _ fun _ => by
    repeat' split
    all_goals simp [refuse]

@[simp] theorem fixed_markUrgent (e : SoundingEntry) (s : State) : fixed (markUrgent e s) = fixed s := by simp [markUrgent]

@[simp] theorem fixed_soundBay_soundWaiting (w : Option SoundingEntry) (s : State) : fixed (soundBay.soundWaiting w s).state = fixed s := by
  unfold soundBay.soundWaiting
  repeat' split
  all_goals simp [answerAccepted]

@[simp] theorem fixed_soundBay (b : Fin 8) (s : State) : fixed (soundBay b s).state = fixed s := by
  unfold soundBay
  repeat' split
  all_goals simp [answerAccepted]

@[simp] theorem fixed_handleSound (b : Body Nat) (s : State) : fixed (handleSound b s).state = fixed s :=
  fixed_onFields _ _ _ fun _ => fixed_onBay _ _ _ fun _ => by simp

@[simp] theorem fixed_applyForecast (i : Fin 4) (f : ForecastSlot) (s : State) : fixed (applyForecast i f s) = fixed s := by simp [applyForecast]

@[simp] theorem fixed_handleForecast (b : Body ForecastFields) (s : State) : fixed (handleForecast b s).state = fixed s := by
  unfold handleForecast onFields unlessRefused
  dsimp only
  repeat' split
  all_goals simp [answerOk, refuse]

@[simp] theorem fixed_handleClosePeriod (b : Body Nat) (s : State) : fixed (handleClosePeriod b s).state = fixed s :=
  fixed_onFields _ _ _ fun _ => fixed_onOutfall _ _ _ fun _ => by simp [answerOk]

@[simp] theorem fixed_handleReleaseSpills (b : Body Nat) (s : State) : fixed (handleReleaseSpills b s).state = fixed s :=
  fixed_onFields _ _ _ fun _ => by simp [answerOk]

@[simp] theorem fixed_applyGrant (count lifetime : Nat) (s : State) : fixed (applyGrant count lifetime s) = fixed s := by simp [applyGrant]

@[simp] theorem fixed_handleGrant (b : Body GrantFields) (s : State) : fixed (handleGrant b s).state = fixed s := by
  unfold handleGrant onFields unlessRefused
  dsimp only
  repeat' split
  all_goals simp [answerOk, refuse]

@[simp] theorem fixed_applyWithdraw (count : Nat) (s : State) : fixed (applyWithdraw count s) = fixed s := by simp [applyWithdraw]

@[simp] theorem fixed_handleWithdraw (b : Body Nat) (s : State) : fixed (handleWithdraw b s).state = fixed s := by
  unfold handleWithdraw onFields unlessRefused
  dsimp only
  repeat' split
  all_goals simp [answerOk, refuse]

@[simp] theorem fixed_afterOrderChange (b : Fin 8) (s : State) : fixed (afterOrderChange b s) = fixed s := by simp [afterOrderChange]

@[simp] theorem fixed_createOrder (b : Fin 8) (lots target : Nat) (s : State) : fixed (createOrder b lots target s) = fixed s := by simp [createOrder]

@[simp] theorem fixed_updateOrder (b : Fin 8) (o : Order) (lots target : Nat) (s : State) : fixed (updateOrder b o lots target s) = fixed s := by simp [updateOrder]

@[simp] theorem fixed_drainBay (b : Fin 8) (lots target : Nat) (s : State) : fixed (drainBay b lots target s).state = fixed s := by
  unfold drainBay
  repeat' split
  all_goals simp [answerOk, answerAccepted, refuse]

@[simp] theorem fixed_handleDrain (b : Body DrainFields) (s : State) : fixed (handleDrain b s).state = fixed s :=
  fixed_onFields _ _ _ fun _ => by
    split
    · rfl
    · exact fixed_unlessRefused _ _ _ (by simp)

@[simp] theorem fixed_handleStopDrain (b : Body Nat) (s : State) : fixed (handleStopDrain b s).state = fixed s :=
  fixed_onFields _ _ _ fun _ => fixed_onBay _ _ _ fun _ => by
    repeat' split
    all_goals simp [refuse]

@[simp] theorem fixed_handleReshut (b : Body Nat) (s : State) : fixed (handleReshut b s).state = fixed s :=
  fixed_onFields _ _ _ fun _ => fixed_onBay _ _ _ fun _ => by
    repeat' split
    all_goals simp [answerAccepted, refuse]

@[simp] theorem fixed_inhibitAnswer (b : Fin 8) (before after : State) : fixed (inhibitAnswer b before after).state = fixed after := rfl

@[simp] theorem fixed_inhibitBay (b : Fin 8) (on : Bool) (s : State) : fixed (inhibitBay b on s).state = fixed s := by simp [inhibitBay, inhibitAnswer, answerOk, apply_ite fixed]

@[simp] theorem fixed_handleInhibit (b : Body InhibitFields) (s : State) : fixed (handleInhibit b s).state = fixed s :=
  fixed_onFields _ _ _ fun _ => by
    split
    · exact fixed_onBay _ _ _ fun _ => by simp [inhibitBay, inhibitAnswer, answerOk, apply_ite fixed]
    · rfl

@[simp] theorem fixed_handleClearDevice (b : Body Nat) (s : State) : fixed (handleClearDevice b s).state = fixed s :=
  fixed_onFields _ _ _ fun _ => fixed_onDevice _ _ _ fun _ => by split <;> simp [answerAccepted, refuse]

@[simp] theorem fixed_handlePollDevice (b : Body Nat) (s : State) : fixed (handlePollDevice b s).state = fixed s :=
  fixed_onFields _ _ _ fun _ => fixed_onDevice _ _ _ fun _ => by simp [answerAccepted]

/-! ### Starts -/

@[simp] theorem fixed_startTerminals (s : State) : fixed (startTerminals s) = fixed s := by simp [startTerminals]

@[simp] theorem fixed_startLevels (s : State) : fixed (startLevels s) = fixed s := by simp [startLevels]

@[simp] theorem fixed_startRain (s : State) : fixed (startRain s) = fixed s := by simp [startRain]

@[simp] theorem fixed_startValues (s : State) : fixed (startValues s) = fixed s := by simp [startValues]

@[simp] theorem fixed_startRetention (s : State) : fixed (startRetention s) = fixed s := by
  unfold startRetention; dsimp only; split <;> simp

@[simp] theorem fixed_postStarted (s : State) : fixed (postStarted s) = fixed s := by simp [postStarted]

@[simp] theorem fixed_closeOpenSpills_closeFirst (n : Nat) (s : State) (cause : EndCause) (finish : Nat) (ks : List (Fin 4)) :
    fixed (closeOpenSpills.closeFirst n s cause finish ks) = fixed s := by
  unfold closeOpenSpills.closeFirst
  rw [fixed_transferLoop, fixed_foldl _ (fun s k => fixed_closeSpill k finish cause true s)]

@[simp] theorem fixed_closeOpenSpills (n : Nat) (s : State) : fixed (closeOpenSpills n s) = fixed s := by
  unfold closeOpenSpills; split <;> simp

@[simp] theorem fixed_startSweep (s : State) : fixed (startSweep s) = fixed s := by simp [startSweep]

@[simp] theorem fixed_startEntries (s : State) : fixed (startEntries s) = fixed s := fixed_foldl _ (fun _ _ => by simp) _ _

@[simp] theorem fixed_makeStart (s : State) : fixed (makeStart s) = fixed s := by simp [makeStart]

@[simp] theorem fixed_loseVolatile (s : State) : fixed (loseVolatile s) = fixed s := by simp [loseVolatile]

@[simp] theorem fixed_losePower (s : State) : fixed (losePower s) = fixed s := by simp [losePower]

@[simp] theorem fixed_startWrites (n : Nat) (s : State) : fixed (startWrites n s) = fixed s := by
  unfold startWrites; split <;> simp

@[simp] theorem fixed_startFails (f : StartFall) (s : State) : fixed (startFails f s) = fixed s := by simp [startFails]

/-! ### HostPort -/

@[simp] theorem fixed_handleRequest (r : Request) (s : State) : fixed (handleRequest r s).state = fixed s := by
  unfold handleRequest
  repeat' split
  all_goals simp [refuse]

@[simp] theorem fixed_takeRequest (msg : HostMessage) (s : State) : fixed (takeRequest msg s) = fixed s := by simp [takeRequest]

@[simp] theorem fixed_loseFrame (s : State) : fixed (loseFrame s) = fixed s := by simp [loseFrame]

@[simp] theorem fixed_offer (msg : HostMessage) (s : State) : fixed (offer msg s) = fixed s := by
  unfold offer; split <;> simp

@[simp] theorem fixed_replySent (s : State) : fixed (replySent s) = fixed s := by
  unfold replySent; dsimp only
  repeat' split
  all_goals simp

@[simp] theorem fixed_setReceiver (r : Receiver) (s : State) : fixed (setReceiver r s) = fixed s := by simp [setReceiver]

@[simp] theorem fixed_frameComplete (got : List Byte) (s : State) : fixed (frameComplete got s) = fixed s := by
  unfold frameComplete
  repeat' split
  all_goals simp

@[simp] theorem fixed_collect (got : List Byte) (s : State) : fixed (collect got s) = fixed s := by
  unfold collect
  repeat' split
  all_goals simp

@[simp] theorem fixed_receiveByte (s : State) (b : Byte) : fixed (receiveByte s b) = fixed s := by
  unfold receiveByte
  repeat' split
  all_goals simp

@[simp] theorem fixed_receiveBytes (bs : List Byte) (s : State) : fixed (receiveBytes bs s) = fixed s := fixed_foldl _ fixed_receiveByte _ _

@[simp] theorem fixed_discardPartial (s : State) : fixed (discardPartial s) = fixed s := by
  unfold discardPartial; split <;> simp

/-! ### SoundingCommands -/

@[simp] theorem fixed_dueReached (b : Fin 8) (s : State) : fixed (dueReached b s) = fixed s := by
  unfold dueReached; split <;> simp

@[simp] theorem fixed_backoffPassed (b : Fin 8) (s : State) : fixed (backoffPassed b s) = fixed s := by
  unfold backoffPassed
  repeat' split
  all_goals simp

@[simp] theorem fixed_beginBurst (f : InFlight) (s : State) : fixed (beginBurst f s) = fixed s := by simp [beginBurst]

@[simp] theorem fixed_supplyReports (s : State) : fixed (supplyReports s) = fixed s := by
  unfold supplyReports; dsimp only
  repeat' split
  all_goals simp

@[simp] theorem fixed_chargeExpires (f : InFlight) (s : State) : fixed (chargeExpires f s) = fixed s := by
  unfold chargeExpires; dsimp only; split <;> simp

@[simp] theorem fixed_burstEnds (pulses : Nat) (f : InFlight) (s : State) : fixed (burstEnds pulses f s) = fixed s := by
  unfold burstEnds; split <;> simp

@[simp] theorem fixed_echoCrosses (tof : Nat) (f : InFlight) (s : State) : fixed (echoCrosses tof f s) = fixed s := by
  unfold echoCrosses; split <;> simp

@[simp] theorem fixed_gateCompletes (nanos : Nat) (f : InFlight) (s : State) : fixed (gateCompletes nanos f s) = fixed s := by
  unfold gateCompletes; split <;> simp

/-! ### StationCommands -/

@[simp] theorem fixed_tailDeadlineReached (k : Fin 4) (s : State) : fixed (tailDeadlineReached k s) = fixed s := by
  unfold tailDeadlineReached; split <;> simp

@[simp] theorem fixed_takeEdge (f : TerminalFunction) (active : Bool) (s : State) : fixed (takeEdge f active s) = fixed s := by
  unfold takeEdge; split <;> simp

@[simp] theorem fixed_debounced (t : Fin 12) (s : State) : fixed (debounced t s) = fixed s := by
  unfold debounced
  repeat' split
  all_goals simp

@[simp] theorem fixed_becomeStuck (g : Fin 4) (n : Nat) (s : State) : fixed (becomeStuck g n s) = fixed s := by
  unfold becomeStuck; split <;> simp

@[simp] theorem fixed_stuckDeadlineReached (g : Fin 4) (s : State) : fixed (stuckDeadlineReached g s) = fixed s := by
  unfold stuckDeadlineReached; split <;> simp

@[simp] theorem fixed_slotStarts (i : Fin 4) (s : State) : fixed (slotStarts i s) = fixed s := by
  unfold slotStarts; split <;> simp

@[simp] theorem fixed_slotEnds (i : Fin 4) (s : State) : fixed (slotEnds i s) = fixed s := by
  unfold slotEnds; split <;> simp

@[simp] theorem fixed_expireGrant (g : Grant) (rest : List Grant) (s : State) : fixed (expireGrant g rest s) = fixed s := by simp [expireGrant]

@[simp] theorem fixed_expiryReached (s : State) : fixed (expiryReached s) = fixed s := by
  unfold expiryReached; split <;> simp

@[simp] theorem fixed_lotDeadlineReached (b : Fin 8) (s : State) : fixed (lotDeadlineReached b s) = fixed s := by
  unfold lotDeadlineReached
  repeat' split
  all_goals simp

/-! ### ActuatorCommands -/

@[simp] theorem fixed_responseTimesOut (s : State) : fixed (responseTimesOut s) = fixed s := by
  unfold responseTimesOut; split <;> simp

@[simp] theorem fixed_nakBackoffPassed (d : Fin 16) (s : State) : fixed (nakBackoffPassed d s) = fixed s := by
  unfold nakBackoffPassed; split <;> simp

@[simp] theorem fixed_pollDue (d : Fin 16) (t : Nat) (s : State) : fixed (pollDue d t s) = fixed s := by simp [pollDue]

@[simp] theorem fixed_pollReached (d : Fin 16) (s : State) : fixed (pollReached d s) = fixed s := by
  unfold pollReached; split <;> simp

@[simp] theorem fixed_movementDeadlineReached (d : Fin 16) (s : State) : fixed (movementDeadlineReached d s) = fixed s := by
  unfold movementDeadlineReached; split <;> simp

/-! ### PowerCommands -/

@[simp] theorem fixed_mainFalls (s : State) : fixed (mainFalls s) = fixed s := by
  unfold mainFalls; split <;> simp

@[simp] theorem fixed_startWhereDue (f : Option StartFall) (s : State) : fixed (startWhereDue f s) = fixed s := by
  unfold startWhereDue; split
  · rfl
  · split <;> simp

/-! ### The moment of a command -/

/-- A moment leaves the waiting commands and the backup supply alone, and the levels at the pins become its own. -/
theorem fixed_arrive (m : Moment) (s : State) : fixed (arrive m s) = { fixed s with pins := m.pins } := by
  have h := fixed_advance m.elapsed s
  have h1 := congrArg Fixed.pending h
  have h2 := congrArg Fixed.backup h
  simp only [fixed] at h1 h2
  simp [arrive, fixed, h1, h2]

/-- A command whose effect leaves the fixed part alone leaves it as its moment finds it. -/
theorem fixed_whileRunning (m : Moment) (f : State → State) (s t : State) (hf : ∀ s, fixed (f s) = fixed s)
    (h : whileRunning m f s = .next t) : fixed t = { fixed s with pins := m.pins } := by
  unfold whileRunning at h; dsimp only at h
  rw [← Host.Outcome.next.inj h, ← fixed_arrive]
  split
  · rw [fixed_refreshAlarms, hf]
  · rfl

end Sys2Proof.Machine
end

