-- ==== Sys2Proof/Laws/Invariant.lean ====
section
/-! SUPPORT. The invariant of the bounded collections under the shared operations, up to the drain scheduler. -/

namespace Sys2Proof.Machine

/-! ### The setters -/

/-- A state that agrees with another in what the invariant reads has it with the other. -/
theorem State.Inv.congr {s t : State} (h : s.Inv) (hp : t.port = s.port) (hl : t.ret.log = s.ret.log) (hn : t.ret.nextId = s.ret.nextId)
    (hg : t.drn.grants = s.drn.grants) (hc : t.drn.counters = s.drn.counters) (ho : t.drn.orders = s.drn.orders) (hq : t.snd.queue = s.snd.queue)
    (ha : t.act.queue = s.act.queue) (hi : t.image.drain.slots = s.image.drain.slots) (hr : t.run = s.run) : t.Inv where
  port := hp ▸ h.port
  log := by rw [hl, hn]; exact h.log
  grants := hg ▸ h.grants
  credits := by rw [hg, hc]; exact h.credits
  sounding := hq ▸ h.sounding
  line := ha ▸ h.line
  slots := by unfold slotsWf; rw [slotHolders_congr ho, hi]; exact h.slots
  receive := by unfold receiveSlotWf; rw [hp, hr]; exact h.receive

theorem inv_withMode {s : State} (h : s.Inv) (m : Mode) : (s.withMode m).Inv := by apply h.congr <;> simp
theorem inv_withFree {s : State} (h : s.Inv) (f : Free) : (s.withFree f).Inv := by apply h.congr <;> simp
theorem inv_withLvl {s : State} (h : s.Inv) (x : Levels) : (s.withLvl x).Inv := by apply h.congr <;> simp
theorem inv_withRain {s : State} (h : s.Inv) (x : Rain) : (s.withRain x).Inv := by apply h.congr <;> simp
theorem inv_withSpill {s : State} (h : s.Inv) (x : Tab 4 OutfallVol) : (s.withSpill x).Inv := by apply h.congr <;> simp
theorem inv_withInhibit {s : State} (h : s.Inv) (x : Tab 8 (Option InhibitCause)) : (s.withInhibit x).Inv := by
  apply h.congr <;> simp
theorem inv_withTerm {s : State} (h : s.Inv) (x : Terminals) : (s.withTerm x).Inv := by apply h.congr <;> simp
theorem inv_withPending {s : State} (h : s.Inv) (x : List Instr) : (s.withPending x).Inv := by apply h.congr <;> simp
theorem inv_withBackup {s : State} (h : s.Inv) (x : Bool) : (s.withBackup x).Inv := by apply h.congr <;> simp
theorem inv_withClock {s : State} (h : s.Inv) (x : Clock) : (s.withClock x).Inv := by apply h.congr <;> simp
theorem inv_setLevel {s : State} (h : s.Inv) (b : Fin 8) (x : LevelRecord) : (s.setLevel b x).Inv := by apply h.congr <;> simp
theorem inv_setFloat {s : State} (h : s.Inv) (b : Fin 8) (x : FloatState) : (s.setFloat b x).Inv := by apply h.congr <;> simp
theorem inv_setGauge {s : State} (h : s.Inv) (g : Fin 4) (x : GaugeVol) : (s.setGauge g x).Inv := by apply h.congr <;> simp
theorem inv_setOutfall {s : State} (h : s.Inv) (k : Fin 4) (x : OutfallVol) : (s.setOutfall k x).Inv := by apply h.congr <;> simp
theorem inv_setLast {s : State} (h : s.Inv) (d : Fin 16) (x : Option LastOutcome) : (s.setLast d x).Inv := by
  apply h.congr <;> simp
theorem inv_setDevice {s : State} (h : s.Inv) (d : Fin 16) (x : DeviceVol) : (s.setDevice d x).Inv := by
  apply h.congr <;> rfl
theorem inv_setCounts {s : State} (h : s.Inv) (k : Fin 4) (x : OutfallCounts) : (s.setCounts k x).Inv := by
  apply h.congr <;> rfl
theorem inv_setBayRec {s : State} (h : s.Inv) (b : Fin 8) (x : BayRec) : (s.setBayRec b x).Inv := by
  apply h.congr <;> rfl

/-- Another image keeps the invariant where its return slots suffice. -/
theorem inv_withImage {s : State} (h : s.Inv) (x : Image) (hx : (slotHolders s).length ≤ x.drain.slots) : (s.withImage x).Inv where
  port := by simpa using h.port
  log := by simpa using h.log
  grants := by simpa using h.grants
  credits := by simpa using h.credits
  sounding := by simpa using h.sounding
  line := by simpa using h.line
  slots := by unfold slotsWf; rw [slotHolders_congr (s := s) (by simp)]; simpa using hx
  receive := by simpa [receiveSlotWf] using h.receive

/-- Other retained contents keep the invariant where their log is well-formed. -/
theorem inv_withRet {s : State} (h : s.Inv) (x : Retained) (hx : logWf x.log x.nextId) : (s.withRet x).Inv where
  port := by simpa using h.port
  log := by simpa using hx
  grants := by simpa using h.grants
  credits := by simpa using h.credits
  sounding := by simpa using h.sounding
  line := by simpa using h.line
  slots := by have := h.slots; unfold slotsWf at this ⊢; rw [slotHolders_congr (s := s) (by simp)]; simpa using this
  receive := by simpa [receiveSlotWf] using h.receive

theorem inv_withSnd {s : State} (h : s.Inv) (x : Sounding) (hx : soundingQueueWf x.queue) : (s.withSnd x).Inv where
  port := by simpa using h.port
  log := by simpa using h.log
  grants := by simpa using h.grants
  credits := by simpa using h.credits
  sounding := by simpa using hx
  line := by simpa using h.line
  slots := by have := h.slots; unfold slotsWf at this ⊢; rw [slotHolders_congr (s := s) (by simp)]; simpa using this
  receive := by simpa [receiveSlotWf] using h.receive

theorem inv_withAct {s : State} (h : s.Inv) (x : Actuator) (hx : lineQueueWf x.queue) : (s.withAct x).Inv where
  port := by simpa using h.port
  log := by simpa using h.log
  grants := by simpa using h.grants
  credits := by simpa using h.credits
  sounding := by simpa using h.sounding
  line := by simpa using hx
  slots := by have := h.slots; unfold slotsWf at this ⊢; rw [slotHolders_congr (s := s) (by simp)]; simpa using this
  receive := by simpa [receiveSlotWf] using h.receive

/-- Another port keeps the invariant where it is in its bounds and no frame waits without a request being answered. -/
theorem inv_withPort {s : State} (h : s.Inv) (x : Port) (hx : x.Wf)
    (hr : s.run = .running → x.slot.isSome = true → x.answering.isSome = true) : (s.withPort x).Inv where
  port := by simpa using hx
  log := by simpa using h.log
  grants := by simpa using h.grants
  credits := by simpa using h.credits
  sounding := by simpa using h.sounding
  line := by simpa using h.line
  slots := by have := h.slots; unfold slotsWf at this ⊢; rw [slotHolders_congr (s := s) (by simp)]; simpa using this
  receive := by simpa [receiveSlotWf] using hr

/-- Another drain scheduler with the same orders keeps the invariant where its grants are well-formed. -/
theorem inv_withDrn {s : State} (h : s.Inv) (x : Drain) (hx : grantsWf x.grants)
    (hc : creditsWf x.grants x.counters) (ho : x.orders = s.drn.orders) : (s.withDrn x).Inv where
  port := by simpa using h.port
  log := by simpa using h.log
  grants := by simpa using hx
  credits := by simpa using hc
  sounding := by simpa using h.sounding
  line := by simpa using h.line
  slots := by have := h.slots; unfold slotsWf at this ⊢; rw [slotHolders_congr (s := s) (by simp [ho])]; simpa using this
  receive := by simpa [receiveSlotWf] using h.receive

/-- Another forfeited counter keeps the invariant. -/
theorem inv_withForfeited {s : State} (h : s.Inv) (n : Nat) : (s.withCounters { s.drn.counters with forfeited := n }).Inv :=
  inv_withDrn h _ h.grants (by exact fun hl => h.credits hl) rfl

/-- An order that holds no slot unless the bay's order held one keeps the invariant. -/
theorem inv_setOrder {s : State} (h : s.Inv) (b : Fin 8) (o : Option Order) (ho : holds o = true → holds (s.order b) = true) :
    (s.setOrder b o).Inv where
  port := by simpa using h.port
  log := by simpa using h.log
  grants := h.grants
  credits := h.credits
  sounding := by simpa using h.sounding
  line := by simpa using h.line
  slots := by
    have := slotHolders_setOrder_le s b o ho
    have h2 := h.slots
    unfold slotsWf at *; simp only [State.setOrder_fields]; omega
  receive := by simpa [receiveSlotWf] using h.receive

/-- Any order keeps the invariant while a slot is free. -/
theorem inv_setOrder_free {s : State} (h : s.Inv) (b : Fin 8) (o : Option Order) (hf : 0 < freeSlots s) : (s.setOrder b o).Inv where
  port := by simpa using h.port
  log := by simpa using h.log
  grants := h.grants
  credits := h.credits
  sounding := by simpa using h.sounding
  line := by simpa using h.line
  slots := by
    have := slotHolders_setOrder_succ s b o
    unfold freeSlots at hf
    unfold slotsWf; simp only [State.setOrder_fields]; omega
  receive := by simpa [receiveSlotWf] using h.receive

/-- A fold of steps that keep the invariant keeps it. -/
theorem inv_foldl {α : Type} (f : State → α → State) (hf : ∀ s a, s.Inv → (f s a).Inv) (l : List α) {s : State} (h : s.Inv) :
    (l.foldl f s).Inv := by
  induction l generalizing s with
  | nil => exact h
  | cons a t ih => exact ih (hf s a h)

/-! ### Notices and free orders -/

theorem inv_postAt {s : State} (h : s.Inv) (t i : Nat) (d : NoticeDetail) : (postAt t i d s).Inv := by
  refine inv_withPort h _ ⟨addNotice_length_le _ _ h.port.1, ?_⟩ ?_
  · simp only [addNotice_fields]; omega
  · have := h.receive; unfold receiveSlotWf at this; simpa using this

theorem inv_post {s : State} (h : s.Inv) (i : Nat) (d : NoticeDetail) : (post i d s).Inv := inv_postAt h _ _ _

theorem inv_dropChoice {s : State} (h : s.Inv) : (dropChoice s).Inv := inv_withFree h _

/-! ### The sounding queue -/

theorem inv_queueEntry {s : State} (h : s.Inv) (e : SoundingEntry) : (queueEntry e s).Inv :=
  inv_withSnd h _ (soundingQueueWf_insert e _ h.sounding)

theorem inv_supplyOn {s : State} (h : s.Inv) : (supplyOn s).Inv := by
  unfold supplyOn; split
  · exact h
  · exact inv_withSnd h _ h.sounding

theorem inv_supplyOff {s : State} (h : s.Inv) : (supplyOff s).Inv := inv_withSnd h _ h.sounding

theorem inv_setEngine {s : State} (h : s.Inv) (f : InFlight) : (setEngine f s).Inv := inv_withSnd h _ h.sounding

theorem inv_supplyFollowsMode {s : State} (h : s.Inv) : (supplyFollowsMode s).Inv := by
  unfold supplyFollowsMode; split
  · exact inv_supplyOn h
  · split
    · exact inv_supplyOff h
    · exact h

theorem inv_engineTake {s : State} (h : s.Inv) : (engineTake s).Inv := by
  unfold engineTake; split
  · rename_i e _ he
    dsimp only
    have h1 := inv_withSnd h { s.snd with queue := withoutBay e.bay s.snd.queue } (soundingQueueWf_withoutBay _ _ h.sounding)
    split
    · exact inv_withSnd h1 _ h1.sounding
    · exact inv_withSnd (inv_supplyOn h1) _ (inv_supplyOn h1).sounding
  · exact h

theorem inv_engineIdle {s : State} (h : s.Inv) : (engineIdle s).Inv := by
  unfold engineIdle; dsimp only
  have h1 := inv_withSnd h { s.snd with engine := none } h.sounding
  split
  · exact inv_engineTake h1
  · exact inv_engineTake (inv_supplyOff h1)

theorem inv_reviseEntry {s : State} (h : s.Inv) (b : Fin 8) : (reviseEntry b s).Inv := by
  unfold reviseEntry; split
  · exact inv_queueEntry h _
  · exact h

theorem inv_intervalChanged {s : State} (h : s.Inv) (b : Fin 8) : (intervalChanged b s).Inv := inv_engineTake (inv_reviseEntry h b)

theorem inv_intervalsChanged {s : State} (h : s.Inv) : (intervalsChanged s).Inv :=
  inv_engineTake (inv_foldl _ (fun _ b h => inv_reviseEntry h b) _ h)

theorem inv_refIntervalChanged {s : State} (h : s.Inv) (k : Fin 4) : (refIntervalChanged k s).Inv := by
  unfold refIntervalChanged; split
  · exact inv_intervalChanged h _
  · exact h

/-! ### The actuator line's queue -/

theorem inv_lineTake {s : State} (h : s.Inv) : (lineTake s).Inv := by
  unfold lineTake; split
  · exact inv_withAct h _ (lineQueueWf_of_sublist h.line List.erase_sublist)
  · exact h

theorem inv_lineIdle {s : State} (h : s.Inv) : (lineIdle s).Inv := inv_lineTake (inv_withAct h _ h.line)

theorem inv_reshutFailed {s : State} (h : s.Inv) (b : Fin 8) (f : Failure) : (reshutFailed b f s).Inv := by
  unfold reshutFailed; split
  · rename_i o ho
    exact inv_post (inv_setOrder h _ _ (by simp [holds, ho])) _ _
  · exact h

theorem inv_tellSuperseded {s : State} (h : s.Inv) (o : Originator) (c : LineCommand) : (tellSuperseded o c s).Inv := by
  unfold tellSuperseded; split
  · split
    · split
      · exact inv_reshutFailed h _ _
      · exact h
    · exact h
  all_goals exact h

@[simp] theorem tellSuperseded_queue (o : Originator) (c : LineCommand) (s : State) : (tellSuperseded o c s).act = s.act := by
  unfold tellSuperseded reshutFailed post postAt
  repeat' split
  all_goals simp

theorem inv_recordOutcome {s : State} (h : s.Inv) (d : Fin 16) (c : LineCommand) (o : Originator) (oc : LineOutcome) :
    (recordOutcome d c o oc s).Inv := inv_setLast h _ _

@[simp] theorem supersede_queue (w : LineEntry) (s : State) : (supersede w s).act.queue = s.act.queue := by
  unfold supersede recordOutcome; dsimp only; split <;> simp

theorem inv_supersede {s : State} (h : s.Inv) (w : LineEntry) : (supersede w s).Inv := by
  unfold supersede; dsimp only; split
  · exact inv_recordOutcome (inv_tellSuperseded h _ _) _ _ _ _
  · exact inv_tellSuperseded h _ _

/-- A drive command is put. -/
theorem inv_putDrive {s : State} (h : s.Inv) (d : Fin 16) (c : LineCommand) (o : Originator) (hc : c.isDrive = true) :
    (putDrive d c o s).Inv := by
  unfold putDrive; split
  · rename_i hw
    refine inv_lineTake (inv_withAct h _ (lineQueueWf_join _ _ h.line (fun _ => countP_zero_of_find_none _ _ hw) ?_))
    simp [hc]
  · rename_i w hw
    have h1 := inv_withAct h { s.act with queue := s.act.queue.erase w } (lineQueueWf_of_sublist h.line List.erase_sublist)
    refine inv_lineTake (inv_withAct (inv_supersede h1 _) _ (lineQueueWf_join _ _ (inv_supersede h1 _).line ?_ ?_))
    · intro _
      simp only [supersede_queue, State.withAct_fields]
      exact countP_erase_of_find _ _ _ hw (h.line d).1
    · simp [hc]

/-- A query is put. -/
theorem inv_putQuery {s : State} (h : s.Inv) (d : Fin 16) (o : Originator) : (putQuery d o s).Inv := by
  unfold putQuery; split
  · exact h
  · rename_i hw
    refine inv_lineTake (inv_withAct h _ (lineQueueWf_join _ _ h.line ?_ (fun _ => countP_zero_of_find_none _ _ hw)))
    simp [LineCommand.isDrive]

theorem inv_withdrawEngage {s : State} (h : s.Inv) (d : Fin 16) (b : Fin 8) : (withdrawEngage d b s).Inv :=
  inv_withAct h _ (lineQueueWf_of_sublist h.line (List.filter_sublist ..))

theorem inv_returnEntry {s : State} (h : s.Inv) (d : Fin 16) (c : LineCommand) (o : Originator) (t : Nat) : (returnEntry d c o t s).Inv := by
  unfold returnEntry; dsimp only; split
  · rename_i hc
    split
    · exact inv_supersede h _
    · rename_i hw
      refine inv_withAct h _ (lineQueueWf_join _ _ h.line (fun _ => countP_zero_of_find_none _ _ hw) ?_)
      simp [hc]
  · rename_i hc
    split
    · exact h
    · rename_i hw
      refine inv_withAct h _ (lineQueueWf_join _ _ h.line ?_ (fun _ => countP_zero_of_find_none _ _ hw))
      simp [hc]

theorem inv_enterState {s : State} (h : s.Inv) (d : Fin 16) (st : DeviceState) : (enterState d st s).Inv := inv_setDevice h _ _

theorem inv_announce {s : State} (h : s.Inv) (d : Fin 16) (o n : DeviceState) (c : LineCommand) : (announce d o n c s).Inv := by
  unfold announce; split
  · exact inv_post h _ _
  · split
    · exact inv_post h _ _
    · exact h

/-! ### Credits and slots -/

/-- A consumption keeps the invariant where the pool holds a credit. -/
theorem inv_consume {s : State} (h : s.Inv) (hp : 0 < pool s) : (consume s).Inv :=
  inv_withDrn h _ (grantsWf_takeCredit _ h.grants) (creditsWf_consume h.credits h.grants hp) rfl

@[simp] theorem order_withCounters (s : State) (c : CreditCounters) (b : Fin 8) : (s.withCounters c).order b = s.order b := rfl
@[simp] theorem order_consume (s : State) (b : Fin 8) : (consume s).order b = s.order b := rfl
@[simp] theorem creditDrained_state (o : Order) : o.creditDrained.state = o.state := by unfold Order.creditDrained; split <;> rfl

/-- A forfeit leaves every order's claim on a slot as it was. -/
theorem holds_forfeit (b c : Fin 8) (s : State) : holds ((forfeit b s).order c) = holds (s.order c) := by
  unfold forfeit; split
  · rename_i o ho
    dsimp only; split
    · simp only [State.order_setOrder, order_withCounters]
      split
      · rename_i hb; subst hb; simp [holds, ho]
      · rfl
    · rfl
  · rfl

theorem inv_forfeit {s : State} (h : s.Inv) (b : Fin 8) : (forfeit b s).Inv := by
  unfold forfeit; split
  · rename_i o ho
    dsimp only; split
    · exact inv_setOrder (inv_withForfeited h _) _ _ (by simp [holds, ho])
    · exact h
  · exact h

theorem inv_putForOrder {s : State} (h : s.Inv) (b : Fin 8) (c : LineCommand) (hc : c.isDrive = true) : (putForOrder b c s).Inv := by
  unfold putForOrder; split
  · exact inv_putDrive h _ _ _ hc
  · exact h

/-- An order that holds a slot enters CLOSING. -/
theorem inv_enterClosing {s : State} (h : s.Inv) (b : Fin 8) (c : ClosingCause) (hh : holds (s.order b) = true) :
    (enterClosing b c s).Inv := by
  unfold enterClosing; split
  · rename_i o _
    have h1 := inv_putForOrder
      (inv_setOrder h b (some { o with state := .closing, closing := some c, lot := none }) (fun _ => hh)) b .release rfl
    dsimp only; split
    · exact inv_intervalChanged h1 _
    · exact h1
  · exact h

theorem inv_overtake {s : State} (h : s.Inv) (b : Fin 8) (c : ClosingCause) (hh : holds (s.order b) = true) : (overtake b c s).Inv :=
  inv_enterClosing (inv_forfeit h b) b c (by rw [holds_forfeit]; exact hh)

theorem holds_setFailure (b c : Fin 8) (f : Failure) (s : State) : holds ((setFailure b f s).order c) = holds (s.order c) := by
  unfold setFailure; split
  · rename_i o ho
    simp only [State.order_setOrder]
    split
    · rename_i hb; subst hb; simp [holds, ho]
    · rfl
  · rfl

theorem inv_setFailure {s : State} (h : s.Inv) (b : Fin 8) (f : Failure) : (setFailure b f s).Inv := by
  unfold setFailure; split
  · rename_i o ho
    exact inv_setOrder h _ _ (by simp [holds, ho])
  · exact h

/-- An order that holds a slot enters RUNNING. -/
theorem inv_enterRunning {s : State} (h : s.Inv) (b : Fin 8) (hh : holds (s.order b) = true) : (enterRunning b s).Inv := by
  unfold enterRunning; split
  · exact inv_intervalChanged (inv_setOrder h b (some _) (fun _ => hh)) _
  · exact h

@[simp] theorem freeSlots_consume (s : State) : freeSlots (consume s) = freeSlots s := by
  unfold freeSlots; rw [slotHolders_congr (s := s) rfl]; rfl

/-- While a slot is free, an order enters OPENING. -/
theorem inv_enterOpening {s : State} (h : s.Inv) (b : Fin 8) (hf : 0 < freeSlots s) (hp : 0 < pool s) :
    (enterOpening b s).Inv := by
  unfold enterOpening; split
  · exact inv_putForOrder (inv_setOrder_free (inv_consume h hp) _ _ (by simpa using hf)) _ _ rfl
  · exact h

theorem inv_creditsWanted {s : State} (h : s.Inv) : (creditsWanted s).Inv := by
  unfold creditsWanted; split
  · split
    · exact inv_post (inv_withDrn h { s.drn with armed := false } h.grants h.credits rfl) _ _
    · exact h
  · exact h

theorem inv_slotGrantRounds (n : Nat) {s : State} (h : s.Inv) : (slotGrantRounds n s).Inv := by
  induction n generalizing s with
  | zero => exact inv_creditsWanted h
  | succ n ih =>
    unfold slotGrantRounds; split
    · rename_i hf
      split
      · exact ih (inv_enterOpening h _ hf.1 hf.2)
      · exact h
    · exact inv_creditsWanted h

theorem inv_slotGrant {s : State} (h : s.Inv) : (slotGrant s).Inv := inv_slotGrantRounds 8 h

/-! ### The mode and the planner -/

theorem holds_waitingState (h : HoldCauses) : (waitingState h).holdsSlot = false := by
  unfold waitingState; split <;> rfl

theorem inv_plannerBay {s : State} (h : s.Inv) (b : Fin 8) : (plannerBay s b).Inv := by
  unfold plannerBay; split
  · exact inv_slotGrant (inv_setOrder h _ _ (by simp [holds, newOrder, holds_waitingState]))
  · exact h

theorem inv_plannerEvaluation {s : State} (h : s.Inv) : (plannerEvaluation s).Inv := inv_foldl _ (fun _ b h => inv_plannerBay h b) _ h

theorem inv_changeMode {s : State} (h : s.Inv) (m : Mode) (o : ModeOrigin) : (changeMode m o s).Inv :=
  inv_plannerEvaluation (inv_intervalsChanged (inv_supplyFollowsMode (inv_withMode (inv_post h _ _) _)))

theorem inv_evaluateMode {s : State} (h : s.Inv) : (evaluateMode s).Inv := by
  unfold evaluateMode; split
  · exact h
  · exact inv_changeMode h _ _

theorem inv_plannerTake {s : State} (h : s.Inv) : (plannerTake s).Inv := by
  unfold plannerTake; split
  · exact inv_evaluateMode (inv_plannerEvaluation h)
  · exact inv_plannerEvaluation h

theorem inv_sitePlanner {s : State} (h : s.Inv) : (sitePlanner s).Inv := by
  unfold sitePlanner; split
  · exact inv_plannerTake (inv_evaluateMode (inv_dropChoice h))
  · exact inv_evaluateMode (inv_plannerTake (inv_dropChoice h))

theorem inv_dropOrder {s : State} (h : s.Inv) (b : Fin 8) (o : Order) (n : DrainDetail → NoticeDetail) (c : DrainCause) (f : Option Failure) :
    (dropOrder b o n c f s).Inv := inv_post (inv_setOrder h b none (by simp [holds])) _ _

theorem inv_retire {s : State} (h : s.Inv) (b : Fin 8) (n : DrainDetail → NoticeDetail) (c : DrainCause) (f : Option Failure) :
    (retire b n c f s).Inv := by
  unfold retire; split
  · rename_i o _
    dsimp only
    have h1 := inv_sitePlanner (inv_dropOrder h b o n c f)
    split
    · exact inv_slotGrant h1
    · exact h1
  · exact h

theorem inv_retireDone {s : State} (h : s.Inv) (b : Fin 8) : (retireDone b s).Inv := inv_retire h _ _ _ _
theorem inv_retireCancelled {s : State} (h : s.Inv) (b : Fin 8) (c : CancelCause) : (retireCancelled b c s).Inv := inv_retire h _ _ _ _

theorem inv_testQueued {s : State} (h : s.Inv) (b : Fin 8) : (testQueued b s).Inv := by
  unfold testQueued; split
  · exact inv_retireDone h _
  · exact h

theorem inv_setInhibit {s : State} (h : s.Inv) (b : Fin 8) (c : InhibitCause) : (setInhibit b c s).Inv :=
  inv_plannerTake (inv_withInhibit h _)

/-! ### Drain orders -/

theorem holds_withHolds (o : Order) (f : HoldCauses) : (o.withHolds f).state.holdsSlot = o.state.holdsSlot := by
  unfold Order.withHolds; cases h : o.state <;> simp [holds_waitingState] <;> rfl

/-- A hold cause leaves every order's claim on a slot as it was. -/
theorem holds_changeHolds (b c : Fin 8) (f : HoldCauses → HoldCauses) (s : State) :
    holds ((changeHolds b f s).order c) = holds (s.order c) := by
  unfold changeHolds; split
  · rename_i o ho
    simp only [State.order_setOrder]
    split
    · rename_i hb; subst hb; simp [holds, ho, holds_withHolds]
    · rfl
  · rfl

theorem inv_changeHolds {s : State} (h : s.Inv) (b : Fin 8) (f : HoldCauses → HoldCauses) : (changeHolds b f s).Inv := by
  unfold changeHolds; split
  · rename_i o ho
    exact inv_setOrder h _ _ (by simp [holds, ho, holds_withHolds])
  · exact h

theorem inv_lotBoundary {s : State} (h : s.Inv) (b : Fin 8) (v : Nat) (hh : holds (s.order b) = true) : (lotBoundary b v s).Inv := by
  unfold lotBoundary; split
  · rename_i hm
    have hp : 0 < pool s := by simp [mayContinue] at hm; exact hm.1
    dsimp only; split
    · rename_i o ho
      exact inv_setOrder (inv_consume h hp) _ _ (by simp only [order_consume]; exact fun _ => hh)
    · exact inv_consume h hp
  · exact inv_enterClosing h _ _ hh

theorem inv_lotProgress {s : State} (h : s.Inv) (b : Fin 8) (v w : Nat) (hh : holds (s.order b) = true) : (lotProgress b v w s).Inv := by
  unfold lotProgress; split
  · rename_i o ho
    have hs : o.state.holdsSlot = true := by simpa [holds, ho] using hh
    have key : ∀ o' : Order, o'.state = o.state →
        (s.setOrder b (some o')).Inv ∧ holds ((s.setOrder b (some o')).order b) = true := by
      intro o' he
      exact ⟨inv_setOrder h _ _ (fun _ => hh), by simp [holds, he, hs]⟩
    split
    · rename_i l _
      generalize hd : (l.startVolume : Int) - (w : Int) = d
      dsimp only; split
      · have := key (if decide ((s.image.drain.lotVolume : Int) ≤ d) then
            { ({ o with lot := some { l with drained := d } } : Order).creditDrained with
              done := addHeld Config.max16 o.done 1, credit := false }
          else { ({ o with lot := some { l with drained := d } } : Order).creditDrained with credit := false }) (by split <;> rfl)
        refine cast (congrArg (fun o' => (enterClosing b .done (s.setOrder b (some o'))).Inv) ?_) (inv_enterClosing this.1 _ _ this.2)
        split <;> rfl
      · split
        · have := key { ({ o with lot := some { l with drained := d } } : Order).creditDrained with
              done := addHeld Config.max16 o.done 1, credit := false } rfl
          split
          · exact inv_enterClosing this.1 _ _ this.2
          · exact inv_lotBoundary this.1 _ _ this.2
        · exact (key { o with lot := some { l with drained := d } } rfl).1
    · exact h
  · exact h

/-- A bay's running order holds a slot. -/
theorem holds_of_bayRunning {s : State} {b : Fin 8} (h : bayRunning s b = true) : holds (s.order b) = true := by
  cases ho : s.order b with
  | none => simp [bayRunning, ho] at h
  | some o =>
    have hr : o.state = .running := by simpa [bayRunning, ho] using h
    simp [holds, hr, OrderState.holdsSlot]

theorem inv_drainAcceptance {s : State} (h : s.Inv) (b : Fin 8) (v w : Nat) : (drainAcceptance b v w s).Inv := by
  unfold drainAcceptance; dsimp only
  have h1 := inv_changeHolds h b fun x => { x with gauge := false }
  split
  · rename_i hr; exact inv_slotGrant (inv_lotProgress h1 _ _ _ (holds_of_bayRunning hr))
  · exact inv_slotGrant (inv_testQueued h1 _)

theorem inv_gaugeLoss {s : State} (h : s.Inv) (b : Fin 8) : (gaugeLoss b s).Inv := by
  unfold gaugeLoss; dsimp only
  have h1 := inv_changeHolds h b fun x => { x with gauge := true }
  split
  · rename_i o ho
    split
    · rename_i hs; exact inv_overtake h1 _ _ (by simp [holds, ho, hs, OrderState.holdsSlot])
    · rename_i hs; exact inv_overtake h1 _ _ (by simp [holds, ho, hs, OrderState.holdsSlot])
    all_goals exact h1
  · exact h1

theorem inv_worksStopBay {s : State} (h : s.Inv) (b : Fin 8) : (worksStopBay s b).Inv := by
  unfold worksStopBay; split
  · rename_i o ho
    split
    · rename_i hs; exact inv_overtake h _ _ (by simp [holds, ho, hs, OrderState.holdsSlot])
    · rename_i hs; exact inv_overtake h _ _ (by simp [holds, ho, hs, OrderState.holdsSlot])
    all_goals exact h
  · exact h

theorem inv_worksStopAsserted {s : State} (h : s.Inv) : (worksStopAsserted s).Inv :=
  inv_foldl _ (fun _ b h => inv_worksStopBay h b) _ (inv_foldl _ (fun _ b h => inv_changeHolds h b _) _ (inv_withTerm h _))

theorem inv_worksStopFrees {s : State} (h : s.Inv) : (worksStopFrees s).Inv :=
  inv_foldl _ (fun _ b h => inv_changeHolds h b _) _ (inv_withTerm h _)

theorem inv_dropTested {s : State} (h : s.Inv) (b : Fin 8) : (dropTested s b).Inv := by
  unfold dropTested; split
  · split
    · exact inv_dropOrder h _ _ _ _ _
    · exact h
  · exact h

theorem inv_worksStopReleased {s : State} (h : s.Inv) : (worksStopReleased s).Inv :=
  inv_slotGrant (inv_foldl _ (fun _ _ h => inv_sitePlanner h) _ (inv_foldl _ (fun _ b h => inv_dropTested h b) _ (inv_worksStopFrees h)))

theorem inv_confirmClose {s : State} (h : s.Inv) (b : Fin 8) : (confirmClose b s).Inv := by
  unfold confirmClose; split
  · split
    · exact inv_retireDone h _
    · exact inv_retireCancelled h _ _
    · exact inv_plannerTake (inv_retire (inv_withInhibit h _) _ _ _ _)
    · exact inv_retire h _ _ _ _
    · exact inv_retire h _ _ _ _
    all_goals exact inv_slotGrant (inv_testQueued (inv_setOrder h _ _ (by simp [holds, holds_waitingState])) _)
  · exact h

/-- An order that holds a slot enters SUSPECT. -/
theorem inv_enterSuspect {s : State} (h : s.Inv) (b : Fin 8) (f : Failure) (hh : holds (s.order b) = true) : (enterSuspect b f s).Inv := by
  unfold enterSuspect; split
  · exact inv_setInhibit (inv_post (inv_setOrder h _ _ (fun _ => hh)) _ _) _ _
  · exact h

theorem inv_handOvertakes {s : State} (h : s.Inv) (b : Fin 8) : (handOvertakes b s).Inv := by
  unfold handOvertakes; dsimp only
  have h1 := inv_forfeit h b
  split
  · have h2 := fun o : Order => inv_setOrder h1 b (some { o with state := .held, lot := none }) (by simp [holds, OrderState.holdsSlot])
    split <;> split
    · exact inv_slotGrant (inv_intervalChanged (inv_withdrawEngage (h2 _) _ _) _)
    · exact inv_slotGrant (inv_intervalChanged (h2 _) _)
    · exact inv_slotGrant (inv_withdrawEngage (h2 _) _ _)
    · exact inv_slotGrant (h2 _)
  · exact h1

theorem inv_handReported {s : State} (h : s.Inv) (b : Fin 8) : (handReported b s).Inv := by
  unfold handReported; dsimp only
  have h1 := inv_changeHolds h b fun x => { x with hand := true }
  split
  · split
    · exact inv_handOvertakes h1 _
    · exact inv_handOvertakes h1 _
    all_goals exact h1
  · exact h1

theorem inv_engageOutcome {s : State} (h : s.Inv) (b : Fin 8) (oc : LineOutcome) (hh : holds (s.order b) = true) :
    (engageOutcome b oc s).Inv := by
  unfold engageOutcome; split
  · exact inv_enterRunning h _ hh
  · exact inv_handReported h _
  · exact inv_overtake (inv_setFailure h _ _) _ _ (by rw [holds_setFailure]; exact hh)
  · exact inv_overtake (inv_setFailure h _ _) _ _ (by rw [holds_setFailure]; exact hh)
  · exact h

theorem inv_releaseOutcome {s : State} (h : s.Inv) (b : Fin 8) (oc : LineOutcome) (hh : holds (s.order b) = true) :
    (releaseOutcome b oc s).Inv := by
  unfold releaseOutcome; split
  · exact inv_confirmClose h _
  · exact inv_enterSuspect h _ _ hh
  · exact inv_enterSuspect h _ _ hh
  · exact inv_enterSuspect h _ _ hh
  · exact h

theorem inv_reshutOutcome {s : State} (h : s.Inv) (b : Fin 8) (oc : LineOutcome) : (reshutOutcome b oc s).Inv := by
  unfold reshutOutcome; split
  · exact inv_retire h _ _ _ _
  all_goals exact inv_reshutFailed h _ _

/-- An originator is told an outcome. -/
theorem inv_tell {s : State} (h : s.Inv) (o : Originator) (c : LineCommand) (oc : LineOutcome) : (tell o c oc s).Inv := by
  unfold tell; split
  · split
    · rename_i o ho
      split
      · rename_i hs; exact inv_engageOutcome h _ _ (by simp [holds, ho, hs, OrderState.holdsSlot])
      · rename_i hs; exact inv_releaseOutcome h _ _ (by simp [holds, ho, hs, OrderState.holdsSlot])
      · split
        · exact inv_reshutOutcome h _ _
        · exact h
      · exact h
    · exact h
  all_goals exact h

theorem inv_handLeft {s : State} (h : s.Inv) (b : Fin 8) : (handLeft b s).Inv := inv_testQueued (inv_changeHolds h _ _) _

theorem inv_deviceFailedRunning {s : State} (h : s.Inv) (b : Fin 8) (f : Failure) : (deviceFailedRunning b f s).Inv := by
  unfold deviceFailedRunning; split
  · rename_i hr
    exact inv_overtake (inv_setFailure h _ _) _ _ (by rw [holds_setFailure]; exact holds_of_bayRunning hr)
  · exact h

theorem inv_deviceChanged {s : State} (h : s.Inv) (b : Fin 8) (o n : DeviceState) : (deviceChanged b o n s).Inv := by
  unfold deviceChanged; split
  · exact h
  · dsimp only
    have h1 : ∀ {t : State}, t.Inv → (if o.name = .hand then handLeft b t else t).Inv := by
      intro t ht; split
      · exact inv_handLeft ht _
      · exact ht
    split
    · exact inv_slotGrant (inv_handReported (h1 h) _)
    · exact inv_slotGrant (inv_deviceFailedRunning (h1 h) _ _)
    · exact inv_slotGrant (inv_deviceFailedRunning (h1 h) _ _)
    all_goals exact inv_slotGrant (h1 h)

theorem inv_handChange {s : State} (h : s.Inv) (d : Fin 16) (o n : DeviceState) : (handChange d o n s).Inv := by
  unfold handChange; split
  · exact inv_deviceChanged h _ _ _
  · exact h

theorem inv_cancel {s : State} (h : s.Inv) (b : Fin 8) (c : CancelCause) : (cancel b c s).Inv := by
  unfold cancel; split
  · rename_i o ho
    split
    · exact inv_retireCancelled h _ _
    · exact inv_retireCancelled h _ _
    · rename_i hs
      exact inv_overtake (inv_setOrder h _ _ (by simp [holds, ho])) _ _ (by simp [holds, hs, OrderState.holdsSlot])
    · rename_i hs
      exact inv_overtake (inv_setOrder h _ _ (by simp [holds, ho])) _ _ (by simp [holds, hs, OrderState.holdsSlot])
    · split
      all_goals first | exact h | exact inv_setOrder h _ _ (by simp [holds, ho])
    · exact h
  · exact h

theorem inv_cancelAuto {s : State} (h : s.Inv) (b : Fin 8) : (cancelAuto s b).Inv := by
  unfold cancelAuto; split
  · split
    · exact inv_cancel h _ _
    · exact h
  · exact h

theorem inv_enterMaintenance {s : State} (h : s.Inv) : (enterMaintenance s).Inv :=
  inv_plannerEvaluation (inv_foldl _ (fun _ b h => inv_cancelAuto h b) _
    (inv_intervalsChanged (inv_supplyFollowsMode (inv_withMode (inv_post h _ _) _))))

end Sys2Proof.Machine
end

