-- ==== Sys2Proof/Laws/InvariantStation.lean ====
section
/-! SUPPORT. The invariant of the bounded collections under the operations of the rain watch, the spill accountant and its log, the level keeper, the ranging engine and the actuator line. -/

namespace Sys2Proof.Machine

/-! ### Time -/

theorem inv_advance {s : State} (h : s.Inv) (us : Nat) : (advance us s).Inv := by
  unfold advance; dsimp only
  have h1 : (if s.run = .stopped ∧ s.backup = false then s
      else s.withRet { s.ret with seconds := s.ret.seconds + (s.ret.micros + us) / 1000000
                                  micros := (s.ret.micros + us) % 1000000 }).Inv := by
    split
    · exact h
    · exact inv_withRet h _ h.log
  split
  · exact inv_withClock h1 _
  · exact h1

theorem inv_arrive {s : State} (h : s.Inv) (m : Moment) : (arrive m s).Inv := inv_withTerm (inv_advance h _) _
theorem inv_reachSecond {s : State} (h : s.Inv) (t : Nat) : (reachSecond t s).Inv := inv_advance h _
theorem inv_reachFast {s : State} (h : s.Inv) (t : Nat) : (reachFast t s).Inv := inv_advance h _
theorem inv_refreshAlarms {s : State} (h : s.Inv) : (refreshAlarms s).Inv := inv_withTerm h _

/-! ### Rain watch -/

theorem inv_recomputeAlert {s : State} (h : s.Inv) (c : AlertCause) (i : Nat) : (recomputeAlert c i s).Inv := by
  unfold recomputeAlert; dsimp only; split
  · exact h
  · exact inv_sitePlanner (inv_withRain (inv_post h _ _) _)

theorem inv_enterRule {s : State} (h : s.Inv) (r : Fin 8) (v : RuleVol) : (enterRule r v s).Inv :=
  inv_recomputeAlert (inv_withRain h _) _ _

theorem inv_raiseRule {s : State} (h : s.Inv) (r : Fin 8) : (raiseRule r s).Inv := inv_enterRule h _ _

theorem inv_evaluateRaising {s : State} (h : s.Inv) (g : Fin 4) (r : Fin 8) : (evaluateRaising g s r).Inv := by
  unfold evaluateRaising; dsimp only
  repeat' split
  all_goals first | with_reducible exact h | with_reducible exact inv_raiseRule h _

theorem inv_evaluateDepth {s : State} (h : s.Inv) (r : Fin 8) (d : Nat) : (evaluateDepth r d s).Inv := by
  unfold evaluateDepth; dsimp only
  repeat' split
  all_goals first | with_reducible exact h | with_reducible exact inv_raiseRule h _ | with_reducible exact inv_enterRule h _ _

theorem inv_evaluateFull {s : State} (h : s.Inv) (r : Fin 8) : (evaluateFull s r).Inv := by
  unfold evaluateFull
  repeat' split
  all_goals first | with_reducible exact h | with_reducible exact inv_evaluateDepth h _ _

theorem inv_startStuckDeadline {s : State} (h : s.Inv) (g : Fin 4) : (startStuckDeadline g s).Inv := by
  unfold startStuckDeadline; split
  · exact inv_setGauge h _ _
  · exact h

theorem inv_takeTip {s : State} (h : s.Inv) (g : Fin 4) : (takeTip g s).Inv := by
  have h1 := fun v => inv_setGauge h g v
  exact inv_foldl _ (fun _ r h => inv_evaluateRaising h g r) _ (inv_withRet (h1 _) _ (h1 _).log)

theorem inv_gaugeActiveEdge {s : State} (h : s.Inv) (g : Fin 4) : (gaugeActiveEdge g s).Inv := by
  unfold gaugeActiveEdge; dsimp only; split
  · exact inv_startStuckDeadline (inv_takeTip h _) _
  · exact inv_startStuckDeadline h _

theorem inv_gaugeInactiveEdge {s : State} (h : s.Inv) (g : Fin 4) : (gaugeInactiveEdge g s).Inv := inv_setGauge h _ _

theorem inv_rollHistories {s : State} (h : s.Inv) (t : Nat) : (rollHistories t s).Inv := by
  refine inv_foldl _ (fun s g h => ?_) _ h
  split
  · exact inv_setGauge h _ _
  · exact h

theorem inv_minuteRoll {s : State} (h : s.Inv) : (minuteRoll s).Inv :=
  inv_foldl _ (fun _ r h => inv_evaluateFull h r) _ (inv_withRain (inv_rollHistories h _) _)

/-! ### Spill log -/

theorem inv_updateOpen {s : State} (h : s.Inv) (k : Fin 4) (f : SpillRecord → SpillRecord) : (updateOpen k f s).Inv :=
  inv_withRet h _ (logWf_map _ (fun e => by split <;> rfl) h.log)

theorem inv_enterLog {s : State} (h : s.Inv) (id : Nat) (r : SpillRecord) (hid : s.ret.nextId = some id)
    (hroom : s.ret.log.length < Config.logCap) : (enterLog id r s).Inv := by
  have hl := h.log
  rw [hid] at hl
  have h1 := inv_withRet h { s.ret with log := s.ret.log ++ [{ id := id, record := r }], nextId := nextIdAfter id }
    (logWf_enter r hl hroom)
  unfold enterLog; dsimp only; split
  · exact inv_post h1 _ _
  · exact h1

theorem inv_placeSlot {s : State} (h : s.Inv) (k : Fin 4) (t : Nat) (c : SpillClass) (d : Nat) : (placeSpill.placeSlot k t c d s).Inv :=
  inv_withRet h _ h.log

theorem inv_placeSpill {s : State} (h : s.Inv) (k : Fin 4) (t : Nat) (c : SpillClass) (d : Nat) : (placeSpill k t c d s).Inv := by
  unfold placeSpill; split
  · rename_i id hid
    split
    · rename_i hroom; exact inv_enterLog h _ _ hid hroom
    · exact inv_placeSlot h _ _ _ _
  · exact inv_placeSlot h _ _ _ _

theorem inv_transferOne {s t : State} (h : s.Inv) (ht : transferOne s = some t) : t.Inv := by
  unfold transferOne at ht
  split at ht
  · rename_i hroom
    split at ht
    · rename_i id k r hid hk
      rw [← Option.some.inj ht]
      exact inv_enterLog (inv_withRet h { s.ret with slots := s.ret.slots.put k none } h.log) _ _ hid hroom
    · exact absurd ht (by simp)
  · exact absurd ht (by simp)

theorem inv_transferLoop (fuel n : Nat) {s : State} (h : s.Inv) : (transferLoop fuel n s).1.Inv := by
  induction fuel generalizing n s with
  | zero => exact h
  | succ fuel ih =>
    unfold transferLoop; split
    · exact h
    · rename_i t ht; exact ih _ (inv_transferOne h ht)

theorem inv_transferTest {s : State} (h : s.Inv) : (transferTest s).1.Inv := inv_transferLoop 4 0 h

theorem inv_rewriteRecords {s : State} (h : s.Inv) : (rewriteRecords s).Inv :=
  inv_withRet h _ (logWf_map _ (fun _ => rfl) h.log)

/-! ### Spill accountant -/

theorem inv_enterSpillState {s : State} (h : s.Inv) (k : Fin 4) (st : SpillState) : (enterSpillState k st s).Inv := inv_setOutfall h _ _
theorem inv_creditPeriod {s : State} (h : s.Inv) (k : Fin 4) (f : PeriodSet → PeriodSet) : (creditPeriod k f s).Inv := inv_setCounts h _ _

theorem inv_accrue {s : State} (h : s.Inv) (k : Fin 4) (x : Int) (n : Nat) : (accrue k x n s).Inv :=
  inv_setOutfall (inv_updateOpen h _ _) _ _

theorem inv_openBlock {s : State} (h : s.Inv) (k : Fin 4) (t : Nat) : (openBlock k t s).Inv :=
  inv_updateOpen (inv_creditPeriod (inv_setCounts h _ _) _ _) _ _

theorem inv_carryBlock {s : State} (h : s.Inv) (k : Fin 4) (t : Nat) : (carryBlock k t s).Inv := inv_postAt (inv_openBlock h _ _) _ _ _

theorem inv_outfallChanged {s : State} (h : s.Inv) (k : Fin 4) : (outfallChanged k s).Inv := inv_evaluateMode (inv_refIntervalChanged h _)

theorem inv_startSpill {s : State} (h : s.Inv) (k : Fin 4) (x : Int) (t : Nat) : (startSpill k x t s).Inv := by
  unfold startSpill; dsimp only
  generalize (if rainAttributed s = true then SpillClass.rain else SpillClass.dry) = c
  have h3 := inv_creditPeriod (inv_placeSpill (inv_setOutfall h k { s.spill.at_ k with remainder := 0 }) k t c x.toNat) k
    fun p => { p with events := addHeld Config.max32 p.events 1 }
  refine inv_outfallChanged (inv_postAt (inv_enterSpillState ?_ _ _) _ _ _) _
  generalize creditPeriod k _ _ = u at h3
  split
  · exact h3
  · exact inv_openBlock h3 _ _

theorem inv_beginTail {s : State} (h : s.Inv) (k : Fin 4) (t : Nat) : (beginTail k t s).Inv := inv_enterSpillState h _ _

theorem inv_spillTransition {s : State} (h : s.Inv) (k : Fin 4) (x : Int) (t : Nat) : (spillTransition k x t s).Inv := by
  unfold spillTransition; dsimp only
  repeat' split
  all_goals first
    | with_reducible exact h
    | with_reducible exact inv_startSpill h _ _ _
    | with_reducible exact inv_beginTail h _ _
    | with_reducible exact inv_enterSpillState h _ _
    | with_reducible exact inv_carryBlock (inv_enterSpillState h _ _) _ _

theorem inv_accrueAndPeak {s : State} (h : s.Inv) (k : Fin 4) (x : Int) (t : Nat) (p : Option Nat) : (accrueAndPeak k x t p s).Inv := by
  unfold accrueAndPeak; split
  · exact h
  · exact inv_updateOpen (inv_accrue h _ _ _) _ _
  · exact inv_updateOpen (inv_accrue h _ _ _) _ _
  · exact inv_updateOpen h _ _

theorem inv_spillAcceptance {s : State} (h : s.Inv) (b : Fin 8) (v t : Nat) (p : Option Nat) : (spillAcceptance b v t p s).Inv := by
  unfold spillAcceptance; dsimp only; split
  · split
    · exact inv_spillTransition (inv_accrueAndPeak h _ _ _ _) _ _ _
    · exact h
  · exact h

theorem inv_spillLoss {s : State} (h : s.Inv) (b : Fin 8) : (spillLoss b s).Inv := by
  unfold spillLoss; split
  · split
    · exact inv_updateOpen (inv_enterSpillState h _ _) _ _
    · exact inv_updateOpen (inv_enterSpillState h _ _) _ _
    all_goals exact h
  · exact h

theorem inv_closeFigures {s : State} (h : s.Inv) (k : Fin 4) (t : Nat) (c : EndCause) (o : OpenSpill) : (closeFigures k t c o s).Inv :=
  inv_updateOpen (inv_creditPeriod h _ _) _ _

theorem inv_closeSpill {s : State} (h : s.Inv) (k : Fin 4) (t : Nat) (c : EndCause) (a : Bool) : (closeSpill k t c a s).Inv := by
  unfold closeSpill; split
  · split
    · rename_i o _
      dsimp only
      refine inv_postAt (inv_setOutfall ?_ _ _) _ _ _
      split
      · exact inv_transferTest (inv_closeFigures h _ _ _ _)
      · exact inv_closeFigures h _ _ _ _
    · exact h
  · exact h

theorem inv_tailEnds {s : State} (h : s.Inv) (k : Fin 4) : (tailEnds k s).Inv := by
  unfold tailEnds; split
  · exact inv_outfallChanged (inv_closeSpill h _ _ _ _) _
  all_goals exact h

theorem inv_blockEndReached {s : State} (h : s.Inv) (k : Fin 4) : (blockEndReached k s).Inv := by
  unfold blockEndReached; split
  · exact inv_carryBlock h _ _
  · exact inv_carryBlock h _ _
  all_goals exact h

/-! ### Level keeper -/

theorem inv_takeLevelEvent {s : State} (h : s.Inv) (b : Fin 8) (ev : LevelEvent) (t : LevelTaker) : (takeLevelEvent b ev s t).Inv := by
  unfold takeLevelEvent
  repeat' split
  all_goals first
    | with_reducible exact h
    | with_reducible exact inv_evaluateMode h
    | with_reducible exact inv_plannerTake h
    | with_reducible exact inv_spillAcceptance h _ _ _ _
    | with_reducible exact inv_spillLoss h _
    | with_reducible exact inv_drainAcceptance h _ _ _
    | with_reducible exact inv_gaugeLoss h _

theorem inv_handLevelEvent {s : State} (h : s.Inv) (b : Fin 8) (ev : LevelEvent) : (handLevelEvent b ev s).Inv :=
  inv_foldl _ (fun _ t h => inv_takeLevelEvent h b ev t) _ (inv_dropChoice h)

theorem inv_handQualityChange {s : State} (h : s.Inv) (b : Fin 8) (q : Quality) : (handQualityChange b q s).Inv := by
  unfold handQualityChange; split
  · exact h
  · exact inv_handLevelEvent h _ _

theorem inv_testDisagreement {s : State} (h : s.Inv) (b : Fin 8) : (testDisagreement b s).Inv := by
  unfold testDisagreement; split
  · exact inv_post (inv_setLevel h _ _) _ _
  · exact h

theorem inv_acceptReading {s : State} (h : s.Inv) (b : Fin 8) (l t : Nat) : (acceptReading b l t s).Inv :=
  inv_handLevelEvent (inv_testDisagreement (inv_setLevel h _ _) _) _ _

theorem inv_withoutAcceptance {s : State} (h : s.Inv) (b : Fin 8) (r : LevelRecord) : (withoutAcceptance b r s).Inv := by
  unfold withoutAcceptance; dsimp only; split
  · exact inv_handQualityChange (inv_testDisagreement (inv_setLevel h _ _) _) _ _
  · exact inv_handQualityChange (inv_setLevel h _ _) _ _

theorem inv_levelCompletion {s : State} (h : s.Inv) (b : Fin 8) (l : Option Nat) (t : Nat) (f : Bool) : (levelCompletion b l t f s).Inv := by
  unfold levelCompletion
  repeat' split
  all_goals first | with_reducible exact inv_acceptReading h _ _ _ | with_reducible exact inv_withoutAcceptance h _ _

theorem inv_floatActivated {s : State} (h : s.Inv) (b : Fin 8) : (floatActivated b s).Inv := by
  unfold floatActivated; dsimp only; split
  · exact inv_handQualityChange (inv_testDisagreement (inv_setLevel (inv_setFloat h _ _) _ _) _) _ _
  · exact inv_setFloat h _ _

theorem inv_floatReleased {s : State} (h : s.Inv) (b : Fin 8) (f : FloatState) : (floatReleased b f s).Inv := by
  unfold floatReleased; dsimp only; split
  · exact inv_handQualityChange (inv_setLevel (inv_setFloat h _ _) _ _) _ _
  · exact inv_setFloat h _ _

/-! ### Ranging engine -/

theorem inv_setChannel {s : State} (h : s.Inv) (b : Fin 8) (c : Channel) : (setChannel b c s).Inv := inv_withSnd h _ h.sounding

theorem inv_channelTakes {s : State} (h : s.Inv) (r : Reading) : (channelTakes r s).Inv := by
  unfold channelTakes channelGood channelBad; dsimp only
  repeat' split
  all_goals first | with_reducible exact inv_post (inv_setChannel h _ _) _ _ | with_reducible exact inv_setChannel h _ _

theorem inv_endDiscarded {s : State} (h : s.Inv) (f : InFlight) : (endDiscarded f s).Inv := by
  unfold endDiscarded; split
  · exact inv_engineIdle (inv_queueEntry h _)
  · exact inv_engineIdle h

theorem inv_finishWith {s : State} (h : s.Inv) (f : InFlight) (r : Reading) : (finishWith f r s).Inv := by
  unfold finishWith; dsimp only
  have h2 := inv_channelTakes (inv_withSnd h { s.snd with last := s.snd.last.put f.bay (some r) } h.sounding) r
  generalize channelTakes r _ = u at h2 ⊢
  exact inv_engineIdle (inv_queueEntry (inv_levelCompletion h2 _ _ _ _) _)

theorem inv_finish {s : State} (h : s.Inv) (f : InFlight) (r : ReadingResult) (l : Option Nat) (d : Option DriveFault)
    (n : Option Nat) : (finish f r l d n s).Inv := by
  unfold finish; split
  · exact inv_endDiscarded h _
  · exact inv_finishWith h _ _

theorem inv_gatePassed {s : State} (h : s.Inv) (f : InFlight) (n : Nat) : (gatePassed f n s).Inv := by
  unfold gatePassed; split <;> exact inv_finish h _ _ _ _ _

theorem inv_gateFailed {s : State} (h : s.Inv) (f : InFlight) : (gateFailed f s).Inv := by
  unfold gateFailed; split
  · exact inv_endDiscarded h _
  · split
    · exact inv_engineIdle (inv_withFree (inv_queueEntry h _) _)
    · exact inv_finish h _ _ _ _ _

/-! ### Actuator line -/

theorem inv_tellEnd {s : State} (h : s.Inv) (e : Option EntryEnd) : (tellEnd e s).Inv := by
  unfold tellEnd; split
  · exact inv_tell h _ _ _
  · exact h

theorem inv_recordEnd {s : State} (h : s.Inv) (d : Fin 16) (e w : Option EntryEnd) : (recordEnd d e w s).Inv := by
  unfold recordEnd; split
  · exact inv_recordOutcome h _ _ _ _
  · exact inv_recordOutcome h _ _ _ _
  · exact h

theorem inv_concludeEvent {s : State} (h : s.Inv) (d : Fin 16) (o : DeviceState) (w e : Option EntryEnd) (c : LineCommand) :
    (concludeEvent d o w e c s).Inv :=
  inv_announce (inv_handChange (inv_recordEnd (inv_tellEnd (inv_tellEnd h _) _) _ _ _) _ _ _) _ _ _ _

theorem inv_endInFault {s : State} (h : s.Inv) (t : Transaction) (st : DeviceState) (oc : LineOutcome) : (endInFault t st oc s).Inv :=
  inv_lineIdle (inv_concludeEvent (inv_enterState h _ _) _ _ _ _ _)

theorem inv_loseStep {s : State} (h : s.Inv) (d : Fin 16) : (loseStep d s).Inv := inv_setDevice h _ _
theorem inv_setNaks {s : State} (h : s.Inv) (d : Fin 16) (n : Nat) : (setNaks d n s).Inv := inv_setDevice h _ _
theorem inv_resend {s : State} (h : s.Inv) (t : Transaction) : (resend t s).Inv := inv_withAct h _ h.line

theorem inv_attemptFailed {s : State} (h : s.Inv) (t : Transaction) (c : LostCause) : (attemptFailed t c s).Inv := by
  unfold attemptFailed; split
  · exact inv_resend h _
  · split
    · exact inv_endInFault (inv_loseStep h _) _ _ _
    · exact inv_endInFault h _ _ _

theorem inv_takeNak {s : State} (h : s.Inv) (t : Transaction) : (takeNak t s).Inv := by
  unfold takeNak; dsimp only; split
  · exact inv_lineIdle (inv_returnEntry (inv_setNaks h _ _) _ _ _ _)
  · exact inv_endInFault (inv_setNaks h _ _) _ _ _

theorem inv_takePosition {s : State} (h : s.Inv) (d : Fin 16) (c : LineCommand) (p : LinePosition) : (takePosition d c p s).Inv := by
  unfold takePosition; split
  · exact inv_setDevice (inv_enterState h _ _) _ _
  · exact inv_enterState h _ _
  · exact h

theorem inv_ackOpening {s : State} (h : s.Inv) (t : Transaction) (p : LinePosition) : (ackOpening t p s).Inv := by
  unfold ackOpening; dsimp only
  have h2 := inv_concludeEvent (inv_takePosition (inv_setDevice h t.device
    { (s.device t.device).acknowledged .reset with watch := none }) t.device t.command p) t.device (s.device t.device).state
    (watchEnd s t.device .superseded) none t.command
  exact inv_withAct h2 _ h2.line

theorem inv_ackDrive {s : State} (h : s.Inv) (t : Transaction) (p : LinePosition) : (ackDrive t p s).Inv := by
  unfold ackDrive; dsimp only; split
  · exact inv_lineIdle (inv_concludeEvent (inv_enterState (inv_setDevice h _ _) _ _) _ _ _ _ _)
  · exact inv_lineIdle (inv_concludeEvent (inv_setDevice (inv_enterState (inv_setDevice h _ _) _ _) _ _) _ _ _ _ _)

theorem inv_ackQuery {s : State} (h : s.Inv) (t : Transaction) (p : LinePosition) : (ackQuery t p s).Inv := by
  unfold ackQuery; dsimp only; split
  · split
    · exact inv_lineIdle (inv_concludeEvent (inv_enterState h _ _) _ _ _ _ _)
    · exact inv_lineIdle h
  · exact inv_lineIdle (inv_concludeEvent (inv_takePosition h _ _ _) _ _ _ _ _)

theorem inv_takeAck {s : State} (h : s.Inv) (t : Transaction) (p : LinePosition) : (takeAck t p s).Inv := by
  unfold takeAck; split
  · exact inv_ackQuery h _ _
  · exact inv_ackOpening h _ _
  · exact inv_ackDrive h _ _

theorem inv_takeReply {s : State} (h : s.Inv) (t : Transaction) (st : LineStatus) (p : LinePosition) : (takeReply t st p s).Inv := by
  unfold takeReply
  repeat' split
  all_goals first
    | with_reducible exact inv_endInFault (inv_setNaks h _ _) _ _ _
    | with_reducible exact inv_takeNak h _
    | with_reducible exact inv_takeAck (inv_setNaks h _ _) _ _

theorem inv_frameArrives {s : State} (h : s.Inv) (bs : List Byte) : (frameArrives bs s).Inv := by
  unfold frameArrives judgeFrame
  repeat' split
  all_goals first
    | with_reducible exact h
    | with_reducible exact inv_takeReply h _ _ _
    | with_reducible exact inv_attemptFailed h _ _

theorem inv_movementTimesOut {s : State} (h : s.Inv) (d : Fin 16) (c : LineCommand) : (movementTimesOut d c s).Inv :=
  inv_concludeEvent (inv_enterState h _ _) _ _ _ _ _

end Sys2Proof.Machine
end

