-- ==== Sys2Proof/Laws/InvariantHost.lean ====
section
/-! SUPPORT. The invariant of the bounded collections under the host's requests, the host line port, the starts and the falls of power. -/

namespace Sys2Proof.Machine

/-! ### Answers -/

theorem inv_onFields {α : Type} {s : State} (h : s.Inv) (b : Body α) (f : α → Answer) (hf : ∀ x, (f x).state.Inv) :
    (onFields b s f).state.Inv := by
  unfold onFields; split
  · exact h
  · exact hf _

/-- A check that does not refuse is known to fail. -/
theorem inv_unlessRefused {s : State} (h : s.Inv) (cs : List (Bool × Result)) (a : Answer) (ha : firstRefusal cs = none → a.state.Inv) :
    (unlessRefused cs s a).state.Inv := by
  unfold unlessRefused; split
  · exact h
  · rename_i hn; exact ha hn

/-- No check refuses: the first does not apply, and none of the rest refuses. -/
theorem firstRefusal_none (c : Bool) (r : Result) (cs : List (Bool × Result)) :
    firstRefusal ((c, r) :: cs) = none ↔ c = false ∧ firstRefusal cs = none := by
  cases c <;> simp [firstRefusal]

theorem inv_answerOk {s : State} (h : s.Inv) (b : ReplyBody) : (answerOk b s).state.Inv := h
theorem inv_answerAccepted {s : State} (h : s.Inv) (b : ReplyBody) : (answerAccepted b s).state.Inv := h

theorem inv_onBay {s : State} (h : s.Inv) (n : Nat) (f : Fin 8 → Answer) (hf : ∀ b, (f b).state.Inv) : (onBay n s f).state.Inv := by
  unfold onBay; split
  · exact h
  · split
    · exact hf _
    · exact h

theorem inv_onOutfall {s : State} (h : s.Inv) (n : Nat) (f : Fin 4 → Answer) (hf : ∀ b, (f b).state.Inv) : (onOutfall n s f).state.Inv := by
  unfold onOutfall; split
  · exact h
  · split
    · exact hf _
    · exact h

theorem inv_onDevice {s : State} (h : s.Inv) (n : Nat) (f : Fin 16 → Answer) (hf : ∀ b, (f b).state.Inv) : (onDevice n s f).state.Inv := by
  unfold onDevice; split
  · exact h
  · split
    · exact hf _
    · exact h

/-- Another image that keeps the DRAIN group is written. -/
theorem inv_writeImage {s : State} (h : s.Inv) (i : Image) (hi : i.drain = s.image.drain) : (writeImage i s).Inv :=
  inv_withRet (inv_withImage h i (by rw [hi]; exact h.slots)) _ h.log

/-! ### Reports -/

theorem reportEmpty_state (b : Body Unit) (s : State) (r : ReplyBody) : (reportEmpty b s r).state = s := by
  unfold reportEmpty onFields; split <;> rfl

theorem inv_reportEmpty {s : State} (h : s.Inv) (b : Body Unit) (r : ReplyBody) : (reportEmpty b s r).state.Inv := by
  rw [reportEmpty_state]; exact h

/-! ### Configuration -/

theorem inv_handleParamsSounding {s : State} (h : s.Inv) (b : Body SoundingParams) : (handleParamsSounding b s).state.Inv :=
  inv_onFields h _ _ fun _ => inv_unlessRefused h _ _ fun _ => inv_answerOk (inv_intervalsChanged (inv_writeImage h _ (by rfl))) _

theorem inv_handleParamsLevel {s : State} (h : s.Inv) (b : Body Nat) : (handleParamsLevel b s).state.Inv :=
  inv_onFields h _ _ fun _ => inv_unlessRefused h _ _ fun _ => inv_writeImage h _ (by rfl)

theorem inv_handleParamsRain {s : State} (h : s.Inv) (b : Body Nat) : (handleParamsRain b s).state.Inv :=
  inv_onFields h _ _ fun _ => inv_unlessRefused h _ _ fun _ => inv_writeImage h _ (by rfl)

theorem inv_handleParamsDrain {s : State} (h : s.Inv) (b : Body DrainParams) : (handleParamsDrain b s).state.Inv := by
  refine inv_onFields h _ _ fun p => inv_unlessRefused h _ _ fun hn => inv_slotGrant (inv_withRet (inv_withImage h _ ?_) _ h.log)
  rw [firstRefusal_none, firstRefusal_none] at hn
  have h1 := hn.2.1
  simp only [Bool.and_eq_false_iff, bne_eq_false_iff_eq, Bool.not_eq_false', List.isEmpty_iff] at h1
  have h2 := h.slots
  unfold slotsWf at h2
  rcases h1 with h1 | h1
  · simp only [h1]; exact h2
  · rw [h1]; exact Nat.zero_le _

theorem inv_handleParamsPlanner {s : State} (h : s.Inv) (b : Body Nat) : (handleParamsPlanner b s).state.Inv :=
  inv_onFields h _ _ fun _ => inv_unlessRefused h _ _ fun _ => inv_plannerTake (inv_writeImage h _ (by rfl))

theorem inv_handleParamsActuator {s : State} (h : s.Inv) (b : Body ActuatorParams) : (handleParamsActuator b s).state.Inv :=
  inv_onFields h _ _ fun _ => inv_unlessRefused h _ _ fun _ => inv_writeImage h _ (by rfl)

theorem inv_discardInFlight {s : State} (h : s.Inv) (b : Fin 8) : (discardInFlight b s).Inv := by
  unfold discardInFlight
  repeat' split
  all_goals first | with_reducible exact h | with_reducible exact inv_setEngine h _

theorem inv_joinFresh {s : State} (h : s.Inv) (b : Fin 8) : (joinFresh b s).Inv := by
  unfold joinFresh; split
  · exact inv_engineTake (inv_queueEntry h _)
  · exact h

theorem inv_applyBay {s : State} (h : s.Inv) (b : Fin 8) (r : BayRec) : (applyBay b r s).Inv := by
  unfold applyBay; dsimp only
  have h2 := inv_setChannel (inv_setLevel (inv_writeImage h { s.image with bays := s.image.bays.put b r } rfl) b
    (levelAfterSetBay (writeImage { s.image with bays := s.image.bays.put b r } s) b)) b { health := .ok, bad := 0 }
  exact inv_joinFresh (inv_evaluateMode (inv_handQualityChange (inv_discardInFlight
    (inv_withSnd h2 _ (soundingQueueWf_withoutBay _ _ h2.sounding)) _) _ _)) _

theorem inv_handleSetBay {s : State} (h : s.Inv) (b : Body BayFields) : (handleSetBay b s).state.Inv := by
  refine inv_onFields h _ _ fun f => ?_
  split
  · exact h
  · exact inv_unlessRefused h _ _ fun _ => inv_applyBay h _ _

theorem inv_handleSetOutfall {s : State} (h : s.Inv) (b : Body OutfallFields) : (handleSetOutfall b s).state.Inv := by
  refine inv_onFields h _ _ fun f => ?_
  split
  · exact h
  · exact inv_unlessRefused h _ _ fun _ => inv_writeImage h _ (by rfl)

theorem inv_gaugeEnableChanged {s : State} (h : s.Inv) (g : Fin 4) (x y : Bool) : (gaugeEnableChanged g x y s).Inv := by
  unfold gaugeEnableChanged; split
  · dsimp only; split
    · exact inv_startStuckDeadline (inv_setGauge h _ _) _
    · exact inv_setGauge h _ _
  · exact inv_setGauge h _ _
  all_goals exact h

theorem inv_handleSetGauge {s : State} (h : s.Inv) (b : Body GaugeFields) : (handleSetGauge b s).state.Inv := by
  refine inv_onFields h _ _ fun f => ?_
  split
  · exact h
  · exact inv_unlessRefused h _ _ fun _ => inv_answerOk (inv_gaugeEnableChanged (inv_writeImage h _ (by rfl)) _ _ _) _

theorem inv_applyRule {s : State} (h : s.Inv) (r : Fin 8) (v : RuleRec) : (applyRule r v s).Inv := by
  unfold applyRule
  exact inv_enterRule (inv_writeImage h _ (by rfl)) _ _

theorem inv_handleSetRule {s : State} (h : s.Inv) (b : Body RuleFields) : (handleSetRule b s).state.Inv := by
  refine inv_onFields h _ _ fun f => ?_
  split
  · exact inv_applyRule h _ _
  · exact inv_unlessRefused h _ _ fun _ => inv_applyRule h _ _
  · exact h

theorem inv_applyDevice {s : State} (h : s.Inv) (d : Fin 16) (r : Option DeviceRec) : (applyDevice d r s).Inv := by
  unfold applyDevice; dsimp only
  have h2 := inv_handChange (inv_tellEnd (inv_setLast (inv_setDevice (inv_writeImage h { s.image with devices := s.image.devices.put d r } rfl)
    d DeviceVol.start) d none) (watchEnd s d .superseded)) d (s.device d).state .unknown
  split
  · exact inv_putDrive h2 _ _ _ rfl
  · exact h2

theorem inv_handleSetDevice {s : State} (h : s.Inv) (b : Body DeviceFields) : (handleSetDevice b s).state.Inv := by
  refine inv_onFields h _ _ fun f => ?_
  split
  · exact h
  · split
    · exact inv_unlessRefused h _ _ fun _ => inv_answerOk (inv_applyDevice h _ _) _
    · split
      · exact h
      · exact inv_unlessRefused h _ _ fun _ => inv_answerOk (inv_applyDevice h _ _) _

theorem inv_setTerminalRec {s : State} (h : s.Inv) (t : Fin 12) (r : TerminalRec) : (setTerminalRec t r s).Inv :=
  inv_withImage h _ h.slots

theorem inv_departFunction {s : State} (h : s.Inv) (t : Fin 12) : (departFunction t s).Inv := by
  unfold departFunction; dsimp only
  have h1 := inv_setTerminalRec h t { s.image.terminals.at_ t with function := .unused }
  repeat' split
  all_goals first
    | with_reducible exact h1
    | with_reducible exact inv_floatReleased h1 _ _
    | with_reducible exact inv_setFloat h1 _ _
    | with_reducible exact inv_gaugeInactiveEdge h1 _
    | with_reducible exact inv_worksStopReleased h1

theorem inv_takeRawLevel {s : State} (h : s.Inv) (t : Fin 12) : (takeRawLevel t s).Inv := inv_withTerm h _

theorem inv_arriveFunction {s : State} (h : s.Inv) (t : Fin 12) (r : TerminalRec) : (arriveFunction t r s).Inv := by
  unfold arriveFunction; dsimp only
  have h1 := inv_setTerminalRec h t r
  have h2 := inv_takeRawLevel h1 t
  repeat' split
  all_goals first
    | with_reducible exact h1
    | with_reducible exact h2
    | with_reducible exact inv_floatActivated h2 _
    | with_reducible exact inv_setFloat h2 _ _
    | with_reducible exact inv_startStuckDeadline h2 _
    | with_reducible exact inv_worksStopAsserted h2

theorem inv_handleSetTerminal {s : State} (h : s.Inv) (b : Body TerminalFields) : (handleSetTerminal b s).state.Inv := by
  refine inv_onFields h _ _ fun f => ?_
  split
  · exact inv_unlessRefused h _ _ fun _ => inv_arriveFunction (inv_departFunction (inv_writeImage h _ (by rfl)) _) _ _
  · exact h

theorem inv_handleSetAlarmLine {s : State} (h : s.Inv) (b : Body AlarmFields) : (handleSetAlarmLine b s).state.Inv := by
  refine inv_onFields h _ _ fun f => ?_
  split
  · exact inv_unlessRefused h _ _ fun _ => inv_writeImage h _ (by rfl)
  · exact h

/-! ### Acting requests -/

theorem inv_handleFetchNotices {s : State} (h : s.Inv) (b : Body Nat) : (handleFetchNotices b s).state.Inv := by
  refine inv_onFields h _ _ fun n => inv_unlessRefused h _ _ fun _ => inv_withPort h _ ⟨?_, h.port.2⟩ h.receive
  exact le_trans (by simp) h.port.1

theorem inv_handleSetClock {s : State} (h : s.Inv) (b : Body Nat) : (handleSetClock b s).state.Inv := by
  refine inv_onFields h _ _ fun n => inv_unlessRefused h _ _ fun _ => ?_
  have h1 := inv_withRet h { s.ret with offset := n - s.now, clockSet := true } h.log
  unfold answerOk setOffset; dsimp only; split
  · exact h1
  · exact inv_rewriteRecords h1

theorem inv_handleSetMode {s : State} (h : s.Inv) (b : Body Nat) : (handleSetMode b s).state.Inv := by
  refine inv_onFields h _ _ fun n => ?_
  split
  · unfold handleAutomatic answerOk; dsimp only; split
    · exact inv_changeMode h _ _
    · exact h
  · split
    · unfold handleMaintenance answerOk; dsimp only; split
      · exact h
      · exact inv_enterMaintenance h
    · exact h

theorem inv_markUrgent {s : State} (h : s.Inv) (e : SoundingEntry) : (markUrgent e s).Inv := by
  have h1 := inv_queueEntry h { e with urgent := some s.snd.urgentNext }
  exact inv_engineTake (inv_withSnd h1 _ h1.sounding)

theorem inv_soundWaiting {s : State} (h : s.Inv) (w : Option SoundingEntry) : (soundBay.soundWaiting w s).state.Inv := by
  unfold soundBay.soundWaiting; split
  · split
    · exact h
    · exact inv_markUrgent h _
  · exact h

theorem inv_handleSound {s : State} (h : s.Inv) (b : Body Nat) : (handleSound b s).state.Inv := by
  refine inv_onFields h _ _ fun n => inv_onBay h _ _ fun i => ?_
  unfold soundBay; split
  · split
    · exact inv_setEngine h _
    · exact inv_soundWaiting h _
  · exact inv_soundWaiting h _

theorem inv_applyForecast {s : State} (h : s.Inv) (i : Fin 4) (f : ForecastSlot) : (applyForecast i f s).Inv :=
  inv_recomputeAlert (inv_withRain h _) _ _

theorem inv_handleForecast {s : State} (h : s.Inv) (b : Body ForecastFields) : (handleForecast b s).state.Inv := by
  refine inv_onFields h _ _ fun f => ?_
  split
  · exact inv_applyForecast h _ _
  · exact inv_unlessRefused h _ _ fun _ => inv_applyForecast h _ _
  · exact h

theorem inv_handleClosePeriod {s : State} (h : s.Inv) (b : Body Nat) : (handleClosePeriod b s).state.Inv :=
  inv_onFields h _ _ fun _ => inv_onOutfall h _ _ fun _ => inv_setCounts h _ _

theorem inv_handleReleaseSpills {s : State} (h : s.Inv) (b : Body Nat) : (handleReleaseSpills b s).state.Inv :=
  inv_onFields h _ _ fun upTo => inv_transferTest
    (inv_withRet h { s.ret with log := s.ret.log.dropWhile (releasable upTo) } (logWf_sublist h.log (List.dropWhile_sublist _)))

theorem inv_handleGrant {s : State} (h : s.Inv) (b : Body GrantFields) : (handleGrant b s).state.Inv := by
  refine inv_onFields h _ _ fun f => inv_unlessRefused h _ _ fun hn => inv_slotGrant (inv_withDrn h _ ?_ (creditsWf_grant _ h.credits) rfl)
  rw [firstRefusal_none, firstRefusal_none] at hn
  simp only [inRange, Bool.not_eq_false', Bool.and_eq_true, decide_eq_true_eq, decide_eq_false_iff_not] at hn
  exact grantsWf_insertGrant _ _ h.grants (by omega) ⟨hn.1.1.1, hn.1.1.2⟩

theorem inv_handleWithdraw {s : State} (h : s.Inv) (b : Body Nat) : (handleWithdraw b s).state.Inv :=
  inv_onFields h _ _ fun _ => inv_unlessRefused h _ _ fun _ => inv_withDrn h _ (grantsWf_withdraw _ _ h.grants) (creditsWf_withdraw _ h.credits) rfl

theorem inv_afterOrderChange {s : State} (h : s.Inv) (b : Fin 8) : (afterOrderChange b s).Inv := inv_slotGrant (inv_testQueued h _)

theorem inv_drainBay {s : State} (h : s.Inv) (b : Fin 8) (n t : Nat) : (drainBay b n t s).state.Inv := by
  unfold drainBay; split
  · refine inv_afterOrderChange (inv_sitePlanner (inv_setOrder h _ _ ?_)) _
    simp [holds, newOrder, holds_waitingState]
  · rename_i o ho
    have key : (afterOrderChange b (updateOrder b o n t s)).Inv := inv_afterOrderChange (inv_setOrder h _ _ (by simp [holds, ho])) _
    split <;> first | with_reducible exact inv_answerOk key _ | exact h

theorem inv_handleDrain {s : State} (h : s.Inv) (b : Body DrainFields) : (handleDrain b s).state.Inv := by
  refine inv_onFields h _ _ fun f => ?_
  split
  · exact h
  · exact inv_unlessRefused h _ _ fun _ => inv_drainBay h _ _ _

theorem inv_handleStopDrain {s : State} (h : s.Inv) (b : Body Nat) : (handleStopDrain b s).state.Inv := by
  refine inv_onFields h _ _ fun n => inv_onBay h _ _ fun i => ?_
  split
  · exact h
  · split
    · exact h
    · exact inv_plannerTake (inv_cancel (inv_withInhibit h _) _ _)

theorem inv_handleReshut {s : State} (h : s.Inv) (b : Body Nat) : (handleReshut b s).state.Inv := by
  refine inv_onFields h _ _ fun n => inv_onBay h _ _ fun i => ?_
  split
  · exact h
  · rename_i o ho
    split
    · exact inv_putForOrder (inv_setOrder h i (some { o with reshut := true }) (by simp [holds, ho])) _ _ rfl
    · exact h

theorem inv_handleInhibit {s : State} (h : s.Inv) (b : Body InhibitFields) : (handleInhibit b s).state.Inv := by
  refine inv_onFields h _ _ fun f => ?_
  split
  · refine inv_onBay h _ _ fun i => ?_
    unfold inhibitBay inhibitAnswer answerOk; dsimp only; split
    · exact inv_setInhibit h _ _
    · exact inv_plannerTake (inv_withInhibit h _)
  · exact h

theorem inv_handleClearDevice {s : State} (h : s.Inv) (b : Body Nat) : (handleClearDevice b s).state.Inv := by
  refine inv_onFields h _ _ fun n => inv_onDevice h _ _ fun d => ?_
  split
  · exact h
  · exact inv_putDrive h _ _ _ rfl

theorem inv_handlePollDevice {s : State} (h : s.Inv) (b : Body Nat) : (handlePollDevice b s).state.Inv :=
  inv_onFields h _ _ fun _ => inv_onDevice h _ _ fun _ => inv_putQuery h _ _

/-! ### The host line port -/

/-- A request keeps the invariant. -/
theorem inv_handleRequest {s : State} (h : s.Inv) (r : Request) : (handleRequest r s).state.Inv := by
  cases r <;> unfold handleRequest
  case getStatus b => exact inv_reportEmpty h b _
  case fetchNotices b => exact inv_handleFetchNotices h b
  case getClock b => exact inv_reportEmpty h b _
  case setClock b => exact inv_handleSetClock h b
  case restart b => exact inv_onFields h _ _ fun _ => h
  case setParamsSounding b => exact inv_handleParamsSounding h b
  case setParamsLevel b => exact inv_handleParamsLevel h b
  case setParamsRain b => exact inv_handleParamsRain h b
  case setParamsDrain b => exact inv_handleParamsDrain h b
  case setParamsPlanner b => exact inv_handleParamsPlanner h b
  case setParamsActuator b => exact inv_handleParamsActuator h b
  case setParamsEmpty => exact h
  case setParamsNoGroup => exact h
  case setBay b => exact inv_handleSetBay h b
  case setOutfall b => exact inv_handleSetOutfall h b
  case setMode b => exact inv_handleSetMode h b
  case sound b => exact inv_handleSound h b
  case getSounding b => exact inv_reportEmpty h b _
  case getBay b => exact inv_onFields h _ _ fun _ => inv_onBay h _ _ fun _ => h
  case setGauge b => exact inv_handleSetGauge h b
  case setRule b => exact inv_handleSetRule h b
  case forecast b => exact inv_handleForecast h b
  case getRain b => exact inv_reportEmpty h b _
  case readRainMinutes b =>
    refine inv_onFields h _ _ fun n => ?_
    split
    · exact h
    · dsimp only; split
      · exact h
      · exact h
  case getOutfall b => exact inv_onFields h _ _ fun _ => inv_onOutfall h _ _ fun _ => h
  case closePeriod b => exact inv_handleClosePeriod h b
  case readSpills b => exact inv_onFields h _ _ fun _ => inv_unlessRefused h _ _ fun _ => h
  case releaseSpills b => exact inv_handleReleaseSpills h b
  case grant b => exact inv_handleGrant h b
  case withdraw b => exact inv_handleWithdraw h b
  case drain b => exact inv_handleDrain h b
  case stopDrain b => exact inv_handleStopDrain h b
  case reshut b => exact inv_handleReshut h b
  case getCredits b => exact inv_reportEmpty h b _
  case inhibitAuto b => exact inv_handleInhibit h b
  case getPlanner b => exact inv_reportEmpty h b _
  case setDevice b => exact inv_handleSetDevice h b
  case clearDevice b => exact inv_handleClearDevice h b
  case pollDevice b => exact inv_handlePollDevice h b
  case getDevice b =>
    refine inv_onFields h _ _ fun n => ?_
    split
    · exact h
    · exact h
  case setTerminal b => exact inv_handleSetTerminal h b
  case setAlarmLine b => exact inv_handleSetAlarmLine h b
  case getTerminals b => exact inv_reportEmpty h b _
  case unknownKind k => exact h

theorem inv_takeRequest {s : State} (h : s.Inv) (m : HostMessage) : (takeRequest m s).Inv := by
  have h1 := inv_handleRequest h m.request
  exact inv_withPort h1 _ h1.port fun _ _ => rfl

theorem inv_loseFrame {s : State} (h : s.Inv) : (loseFrame s).Inv := inv_withPort h _ h.port h.receive
theorem inv_setReceiver {s : State} (h : s.Inv) (r : Receiver) : (setReceiver r s).Inv := inv_withPort h _ h.port h.receive

theorem inv_offer {s : State} (h : s.Inv) (m : HostMessage) : (offer m s).Inv := by
  unfold offer; split
  · exact inv_takeRequest h _
  · rename_i r ha _
    exact inv_withPort h _ h.port fun _ _ => by simp [ha]
  · exact inv_loseFrame h

theorem inv_replySent {s : State} (h : s.Inv) : (replySent s).Inv := by
  unfold replySent; split
  · exact h
  · dsimp only; split
    · exact { port := h.port, log := h.log, grants := h.grants, credits := h.credits, sounding := h.sounding, line := h.line, slots := h.slots
              receive := fun hr => absurd hr (by simp) }
    · split
      · rename_i hs; exact inv_withPort h _ h.port fun _ hx => by simp at hs hx; simp [hs] at hx
      · refine inv_takeRequest ?_ _
        exact inv_withPort h { s.port with answering := none, slot := none } h.port fun _ hx => by simp at hx

theorem inv_frameComplete {s : State} (h : s.Inv) (g : List Byte) : (frameComplete g s).Inv := by
  unfold frameComplete
  repeat' split
  all_goals first | with_reducible exact inv_offer h _ | with_reducible exact inv_loseFrame h

theorem inv_receiveByte {s : State} (h : s.Inv) (b : Byte) : (receiveByte s b).Inv := by
  unfold receiveByte collect
  repeat' split
  all_goals first
    | with_reducible exact h
    | with_reducible exact inv_setReceiver h _
    | with_reducible exact inv_loseFrame (inv_setReceiver h _)
    | with_reducible exact inv_frameComplete (inv_setReceiver h _) _

theorem inv_receiveBytes {s : State} (h : s.Inv) (bs : List Byte) : (receiveBytes bs s).Inv :=
  inv_foldl _ (fun _ b h => inv_receiveByte h b) _ h

theorem inv_discardPartial {s : State} (h : s.Inv) : (discardPartial s).Inv := by
  unfold discardPartial; split
  · exact h
  · exact inv_loseFrame (inv_setReceiver h _)

/-! ### Starts and falls of power -/

/-- Start values of every volatile collection: only the log and the image are as they were. -/
theorem slotHolders_start (s : State) (h : s.drn = Drain.start) : slotHolders s = [] := by
  have : ∀ b, s.order b = none := fun b => by simp [State.order, h, Drain.start]
  simp [slotHolders_eq, this, holds]

theorem inv_startValues {s : State} (h : logWf s.ret.log s.ret.nextId) : (startValues s).Inv where
  port := ⟨Nat.zero_le _, Nat.zero_lt_succ _⟩
  log := h
  credits := fun _ => rfl
  grants := ⟨Nat.zero_le _, List.Pairwise.nil, fun _ hg => absurd hg (by simp [startValues, Drain.start])⟩
  sounding := List.nodup_nil
  line := fun _ => ⟨Nat.zero_le _, Nat.zero_le _⟩
  slots := by unfold slotsWf; rw [slotHolders_start _ rfl]; exact Nat.zero_le _
  receive := fun _ hs => absurd hs (by simp [startValues, Port.start])

theorem log_startRetention (s : State) (h : logWf s.ret.log s.ret.nextId) :
    logWf (startRetention s).ret.log (startRetention s).ret.nextId := by
  unfold startRetention; dsimp only; split
  · exact ⟨Nat.zero_le _, List.Pairwise.nil, fun _ _ e he => absurd he (by simp [Retained.afterCold])⟩
  · exact h

theorem inv_closeFirst {s : State} (h : s.Inv) (n : Nat) (c : EndCause) (t : Nat) (ks : List (Fin 4)) :
    (closeOpenSpills.closeFirst n s c t ks).Inv :=
  inv_transferLoop _ _ (inv_foldl _ (fun _ _ h => inv_closeSpill h _ _ _ _) _ h)

theorem inv_closeOpenSpills {s : State} (h : s.Inv) (n : Nat) : (closeOpenSpills n s).Inv := by
  unfold closeOpenSpills; split
  · exact h
  · exact inv_closeFirst h _ _ _ _
  · exact inv_closeFirst h _ _ _ _

theorem inv_startSweep {s : State} (h : s.Inv) : (startSweep s).Inv := by
  refine inv_withAct h _ fun d => ?_
  dsimp only
  generalize hp : (fun d => (s.image.devices.at_ d).isSome && (bayOfDevice s d).isSome) = p
  rw [List.countP_map, List.countP_map]
  have h2 : ∀ l : List (Fin 16), List.countP (LineEntry.isQueryOf d ∘ fun d =>
      ({ device := d, command := .reset, orig := .sweep, notBefore := none } : LineEntry)) l = 0 := by
    intro l; rw [List.countP_eq_zero]; intro a _; simp [LineEntry.isQueryOf, LineCommand.isDrive]
  have h1 : List.countP (LineEntry.isDriveOf d ∘ fun d =>
      ({ device := d, command := .reset, orig := .sweep, notBefore := none } : LineEntry)) (allDevices.filter p) ≤ 1 := by
    refine le_trans (List.Sublist.countP_le (List.filter_sublist ..)) ?_
    clear h2; revert d; decide
  exact ⟨h1, by rw [h2]; exact Nat.zero_le _⟩

theorem inv_startEntries {s : State} (h : s.Inv) : (startEntries s).Inv := inv_foldl _ (fun _ _ h => inv_queueEntry h _) _ h

theorem inv_withRun {s : State} (h : s.Inv) (r : Run) (hr : s.port.slot.isSome = true → s.port.answering.isSome = true) :
    (s.withRun r).Inv where
  port := h.port
  log := h.log
  grants := h.grants
  credits := h.credits
  sounding := h.sounding
  line := h.line
  slots := h.slots
  receive := fun _ => hr

end Sys2Proof.Machine
end

