-- ==== Sys2Proof/Laws/Requests.lean ====
section
/-! SUPPORT. What time passing leaves alone, and what a host request that finds the port free comes to. -/

namespace Sys2Proof.Machine

/-! ### Time -/

/-- Time passes: only the clocks change. -/
@[simp] theorem advance_fields (us : Nat) (s : State) :
    (advance us s).pending = s.pending ∧ (advance us s).run = s.run ∧ (advance us s).backup = s.backup ∧ (advance us s).image = s.image
      ∧ (advance us s).mode = s.mode ∧ (advance us s).snd = s.snd ∧ (advance us s).lvl = s.lvl ∧ (advance us s).rain = s.rain
      ∧ (advance us s).spill = s.spill ∧ (advance us s).drn = s.drn ∧ (advance us s).inhibit = s.inhibit ∧ (advance us s).act = s.act
      ∧ (advance us s).term = s.term ∧ (advance us s).port = s.port ∧ (advance us s).free = s.free := by
  unfold advance; dsimp only; repeat' split
  all_goals simp

/-- Time passes: of the retained contents only the retention seconds and their fraction change. -/
@[simp] theorem advance_ret (us : Nat) (s : State) :
    (advance us s).ret.offset = s.ret.offset ∧ (advance us s).ret.clockSet = s.ret.clockSet
      ∧ (advance us s).ret.powerLoss = s.ret.powerLoss ∧ (advance us s).ret.log = s.ret.log ∧ (advance us s).ret.slots = s.ret.slots
      ∧ (advance us s).ret.nextId = s.ret.nextId ∧ (advance us s).ret.counts = s.ret.counts
      ∧ (advance us s).ret.lastRain = s.ret.lastRain ∧ (advance us s).ret.cold = s.ret.cold
      ∧ (advance us s).ret.checkGood = s.ret.checkGood := by
  unfold advance; dsimp only; repeat' split
  all_goals simp

/-- Time passes: the cause and the second of the last start stay. -/
@[simp] theorem advance_clock (us : Nat) (s : State) :
    (advance us s).clock.cause = s.clock.cause ∧ (advance us s).clock.startSecond = s.clock.startSecond := by
  unfold advance; dsimp only; repeat' split
  all_goals simp

/-- A moment comes: only the clocks and the pins change. -/
@[simp] theorem arrive_fields (m : Moment) (s : State) :
    (arrive m s).pending = s.pending ∧ (arrive m s).run = s.run ∧ (arrive m s).backup = s.backup ∧ (arrive m s).image = s.image
      ∧ (arrive m s).mode = s.mode ∧ (arrive m s).snd = s.snd ∧ (arrive m s).lvl = s.lvl ∧ (arrive m s).rain = s.rain
      ∧ (arrive m s).spill = s.spill ∧ (arrive m s).drn = s.drn ∧ (arrive m s).inhibit = s.inhibit ∧ (arrive m s).act = s.act
      ∧ (arrive m s).port = s.port ∧ (arrive m s).free = s.free ∧ (arrive m s).term = { s.term with pins := m.pins } := by
  simp [arrive]

@[simp] theorem reachSecond_fields (t : Nat) (s : State) :
    (reachSecond t s).pending = s.pending ∧ (reachSecond t s).run = s.run ∧ (reachSecond t s).backup = s.backup
      ∧ (reachSecond t s).image = s.image ∧ (reachSecond t s).mode = s.mode ∧ (reachSecond t s).snd = s.snd ∧ (reachSecond t s).lvl = s.lvl
      ∧ (reachSecond t s).rain = s.rain ∧ (reachSecond t s).spill = s.spill ∧ (reachSecond t s).drn = s.drn
      ∧ (reachSecond t s).inhibit = s.inhibit ∧ (reachSecond t s).act = s.act ∧ (reachSecond t s).term = s.term
      ∧ (reachSecond t s).port = s.port ∧ (reachSecond t s).free = s.free := by
  simp [reachSecond]

@[simp] theorem reachFast_fields (t : Nat) (s : State) :
    (reachFast t s).pending = s.pending ∧ (reachFast t s).run = s.run ∧ (reachFast t s).backup = s.backup
      ∧ (reachFast t s).image = s.image ∧ (reachFast t s).mode = s.mode ∧ (reachFast t s).snd = s.snd ∧ (reachFast t s).lvl = s.lvl
      ∧ (reachFast t s).rain = s.rain ∧ (reachFast t s).spill = s.spill ∧ (reachFast t s).drn = s.drn
      ∧ (reachFast t s).inhibit = s.inhibit ∧ (reachFast t s).act = s.act ∧ (reachFast t s).term = s.term
      ∧ (reachFast t s).port = s.port ∧ (reachFast t s).free = s.free := by
  simp [reachFast]

@[simp] theorem arrive_ret (m : Moment) (s : State) :
    (arrive m s).ret.offset = s.ret.offset ∧ (arrive m s).ret.clockSet = s.ret.clockSet ∧ (arrive m s).ret.powerLoss = s.ret.powerLoss
      ∧ (arrive m s).ret.log = s.ret.log ∧ (arrive m s).ret.slots = s.ret.slots ∧ (arrive m s).ret.nextId = s.ret.nextId
      ∧ (arrive m s).ret.counts = s.ret.counts ∧ (arrive m s).ret.lastRain = s.ret.lastRain ∧ (arrive m s).ret.cold = s.ret.cold
      ∧ (arrive m s).ret.checkGood = s.ret.checkGood := by
  simp [arrive]

@[simp] theorem reachSecond_ret (t : Nat) (s : State) :
    (reachSecond t s).ret.offset = s.ret.offset ∧ (reachSecond t s).ret.clockSet = s.ret.clockSet ∧ (reachSecond t s).ret.powerLoss = s.ret.powerLoss
      ∧ (reachSecond t s).ret.log = s.ret.log ∧ (reachSecond t s).ret.slots = s.ret.slots ∧ (reachSecond t s).ret.nextId = s.ret.nextId
      ∧ (reachSecond t s).ret.counts = s.ret.counts ∧ (reachSecond t s).ret.lastRain = s.ret.lastRain ∧ (reachSecond t s).ret.cold = s.ret.cold
      ∧ (reachSecond t s).ret.checkGood = s.ret.checkGood := by
  simp [reachSecond]

@[simp] theorem reachFast_ret (t : Nat) (s : State) :
    (reachFast t s).ret.offset = s.ret.offset ∧ (reachFast t s).ret.clockSet = s.ret.clockSet ∧ (reachFast t s).ret.powerLoss = s.ret.powerLoss
      ∧ (reachFast t s).ret.log = s.ret.log ∧ (reachFast t s).ret.slots = s.ret.slots ∧ (reachFast t s).ret.nextId = s.ret.nextId
      ∧ (reachFast t s).ret.counts = s.ret.counts ∧ (reachFast t s).ret.lastRain = s.ret.lastRain ∧ (reachFast t s).ret.cold = s.ret.cold
      ∧ (reachFast t s).ret.checkGood = s.ret.checkGood := by
  simp [reachFast]

@[simp] theorem bay_advance (us : Nat) (s : State) (i : Fin 8) : (advance us s).bay i = s.bay i := by simp [State.bay]
@[simp] theorem level_advance (us : Nat) (s : State) (i : Fin 8) : (advance us s).level i = s.level i := by simp [State.level]
@[simp] theorem order_advance (us : Nat) (s : State) (i : Fin 8) : (advance us s).order i = s.order i := by simp [State.order]
@[simp] theorem device_advance (us : Nat) (s : State) (i : Fin 16) : (advance us s).device i = s.device i := by simp [State.device]
@[simp] theorem last_advance (us : Nat) (s : State) (i : Fin 16) : (advance us s).last i = s.last i := by simp [State.last]
@[simp] theorem outfall_advance (us : Nat) (s : State) (i : Fin 4) : (advance us s).outfall i = s.outfall i := by simp [State.outfall]
@[simp] theorem spillState_advance (us : Nat) (s : State) (i : Fin 4) : (advance us s).spillState i = s.spillState i := by simp [State.spillState]
@[simp] theorem bay_arrive (m : Moment) (s : State) (i : Fin 8) : (arrive m s).bay i = s.bay i := by simp [State.bay]
@[simp] theorem level_arrive (m : Moment) (s : State) (i : Fin 8) : (arrive m s).level i = s.level i := by simp [State.level]
@[simp] theorem order_arrive (m : Moment) (s : State) (i : Fin 8) : (arrive m s).order i = s.order i := by simp [State.order]
@[simp] theorem device_arrive (m : Moment) (s : State) (i : Fin 16) : (arrive m s).device i = s.device i := by simp [State.device]
@[simp] theorem last_arrive (m : Moment) (s : State) (i : Fin 16) : (arrive m s).last i = s.last i := by simp [State.last]
@[simp] theorem outfall_arrive (m : Moment) (s : State) (i : Fin 4) : (arrive m s).outfall i = s.outfall i := by simp [State.outfall]
@[simp] theorem spillState_arrive (m : Moment) (s : State) (i : Fin 4) : (arrive m s).spillState i = s.spillState i := by simp [State.spillState]
@[simp] theorem bay_reachSecond (t : Nat) (s : State) (i : Fin 8) : (reachSecond t s).bay i = s.bay i := by simp [State.bay]
@[simp] theorem level_reachSecond (t : Nat) (s : State) (i : Fin 8) : (reachSecond t s).level i = s.level i := by simp [State.level]
@[simp] theorem order_reachSecond (t : Nat) (s : State) (i : Fin 8) : (reachSecond t s).order i = s.order i := by simp [State.order]
@[simp] theorem device_reachSecond (t : Nat) (s : State) (i : Fin 16) : (reachSecond t s).device i = s.device i := by simp [State.device]
@[simp] theorem last_reachSecond (t : Nat) (s : State) (i : Fin 16) : (reachSecond t s).last i = s.last i := by simp [State.last]
@[simp] theorem outfall_reachSecond (t : Nat) (s : State) (i : Fin 4) : (reachSecond t s).outfall i = s.outfall i := by simp [State.outfall]
@[simp] theorem spillState_reachSecond (t : Nat) (s : State) (i : Fin 4) : (reachSecond t s).spillState i = s.spillState i := by simp [State.spillState]
@[simp] theorem bay_reachFast (t : Nat) (s : State) (i : Fin 8) : (reachFast t s).bay i = s.bay i := by simp [State.bay]
@[simp] theorem level_reachFast (t : Nat) (s : State) (i : Fin 8) : (reachFast t s).level i = s.level i := by simp [State.level]
@[simp] theorem order_reachFast (t : Nat) (s : State) (i : Fin 8) : (reachFast t s).order i = s.order i := by simp [State.order]
@[simp] theorem device_reachFast (t : Nat) (s : State) (i : Fin 16) : (reachFast t s).device i = s.device i := by simp [State.device]
@[simp] theorem last_reachFast (t : Nat) (s : State) (i : Fin 16) : (reachFast t s).last i = s.last i := by simp [State.last]
@[simp] theorem outfall_reachFast (t : Nat) (s : State) (i : Fin 4) : (reachFast t s).outfall i = s.outfall i := by simp [State.outfall]
@[simp] theorem spillState_reachFast (t : Nat) (s : State) (i : Fin 4) : (reachFast t s).spillState i = s.spillState i := by simp [State.spillState]

/-! ### Requests -/

/-- What a command does while the part runs. -/
theorem whileRunning_running (m : Moment) (f : State → State) (s : State) (h : s.run = .running) :
    whileRunning m f s = .next (refreshAlarms (f (arrive m s))) := by
  simp [whileRunning, h]

/-- A request that finds the port free is taken at once (R197). -/
theorem hostRequest_free (m : Moment) (seq : Byte) (r : Request) (s : State) (h : PortFree s) :
    hostRequest m seq r s = .next (refreshAlarms (takeRequest { seq := seq, request := r } (arrive m s))) := by
  obtain ⟨h1, h2, h3⟩ := h
  simp [hostRequest, whileRunning_running m _ s h1, offer, h2, h3]

/-- A request that is neither FETCH_NOTICES nor RESTART leaves what it leaves, answered. -/
theorem hostRequest_answered (m : Moment) (seq : Byte) (r : Request) (s : State) (h : PortFree s) (hf : isFetch r = false)
    (hr : isRestart r = false) :
    hostRequest m seq r s = .next (answered seq (replyKind r) (handleRequest r (arrive m s)).result (handleRequest r (arrive m s)).body
      (handleRequest r (arrive m s)).state) := by
  rw [hostRequest_free m seq r s h]
  simp [takeRequest, answered, clearReported, buildReply, hf, hr]

end Sys2Proof.Machine
end

