-- ==== Sys2Proof/Laws/InvariantEvents.lean ====
section
/-! SUPPORT. The invariant of the bounded collections under the events of the commands: what each arm of exec does while the part runs, and the power events. -/

namespace Sys2Proof.Machine

/-- A command that takes effect while the part runs keeps the invariant where its effect does. -/
theorem inv_whileRunning {s t : State} (h : s.Inv) (m : Moment) (f : State → State) (hf : ∀ {s : State}, s.Inv → (f s).Inv)
    (ht : whileRunning m f s = .next t) : t.Inv := by
  unfold whileRunning at ht
  dsimp only at ht
  rw [← Host.Outcome.next.inj ht]
  split
  · exact inv_refreshAlarms (hf (inv_arrive h m))
  · exact inv_arrive h m

theorem inv_hostRequest {s t : State} (h : s.Inv) (m : Moment) (q : Byte) (r : Request) (ht : hostRequest m q r s = .next t) : t.Inv :=
  inv_whileRunning h m _ (fun h => inv_offer h _) ht

/-! ### Sounding -/

theorem inv_dueReached {s : State} (h : s.Inv) (b : Fin 8) : (dueReached b s).Inv := by
  unfold dueReached; split
  · exact inv_engineTake (inv_reachSecond h _)
  · exact h

theorem inv_backoffPassed {s : State} (h : s.Inv) (b : Fin 8) : (backoffPassed b s).Inv := by
  unfold backoffPassed; split
  · split
    · exact inv_engineTake (inv_reachFast h _)
    · exact h
  · exact h

theorem inv_beginBurst {s : State} (h : s.Inv) (f : InFlight) : (beginBurst f s).Inv := inv_setEngine h _

theorem inv_supplyReports {s : State} (h : s.Inv) : (supplyReports s).Inv := by
  have h1 := inv_withSnd h { s.snd with supplyReady := true, expiries := 0 } h.sounding
  unfold supplyReports; dsimp only; split
  · split
    · split
      · exact inv_beginBurst h1 _
      · exact h1
    · exact h1
  · exact h

theorem inv_chargeExpires {s : State} (h : s.Inv) (f : InFlight) : (chargeExpires f s).Inv := by
  have h1 := inv_withSnd h { s.snd with expiries := addHeld 255 s.snd.expiries 1 } h.sounding
  unfold chargeExpires; dsimp only; split
  · exact inv_beginBurst (inv_post h1 _ _) _
  · exact inv_beginBurst h1 _

theorem inv_inPhase {s : State} (h : s.Inv) (p : EngineState) (f : InFlight → State → State)
    (hf : ∀ x {s : State}, s.Inv → (f x s).Inv) : (inPhase p f s).Inv := by
  unfold inPhase; split
  · split
    · exact hf _ h
    · exact h
  · exact h

theorem inv_burstEnds {s : State} (h : s.Inv) (n : Nat) (f : InFlight) : (burstEnds n f s).Inv := by
  unfold burstEnds; split
  · exact inv_finish h _ _ _ _ _
  · exact inv_setEngine h _

theorem inv_echoCrosses {s : State} (h : s.Inv) (n : Nat) (f : InFlight) : (echoCrosses n f s).Inv := by
  unfold echoCrosses; split
  · exact inv_setEngine h _
  · exact h

theorem inv_gateCompletes {s : State} (h : s.Inv) (n : Nat) (f : InFlight) : (gateCompletes n f s).Inv := by
  unfold gateCompletes; split
  · exact inv_gatePassed h _ _
  · exact inv_gateFailed h _

/-! ### Spills, terminals, rain, drains -/

theorem inv_tailDeadlineReached {s : State} (h : s.Inv) (k : Fin 4) : (tailDeadlineReached k s).Inv := by
  unfold tailDeadlineReached; split
  · exact inv_tailEnds (inv_reachSecond h _) _
  all_goals exact h

theorem inv_takeEdge {s : State} (h : s.Inv) (f : TerminalFunction) (a : Bool) : (takeEdge f a s).Inv := by
  unfold takeEdge; split
  · exact inv_floatActivated h _
  · exact inv_floatReleased h _ _
  · exact inv_gaugeActiveEdge h _
  · exact inv_gaugeInactiveEdge h _
  · exact inv_worksStopAsserted h
  · exact inv_worksStopReleased h
  all_goals exact h

theorem inv_debounced {s : State} (h : s.Inv) (t : Fin 12) : (debounced t s).Inv := by
  unfold debounced; split
  · exact h
  · split
    · exact h
    · exact inv_takeEdge (inv_takeRawLevel h _) _ _

theorem inv_becomeStuck {s : State} (h : s.Inv) (g : Fin 4) (n : Nat) : (becomeStuck g n s).Inv := by
  unfold becomeStuck; dsimp only; split
  · exact inv_post (inv_setGauge h _ _) _ _
  · exact inv_setGauge h _ _

theorem inv_stuckDeadlineReached {s : State} (h : s.Inv) (g : Fin 4) : (stuckDeadlineReached g s).Inv := by
  unfold stuckDeadlineReached; split
  · exact inv_becomeStuck (inv_reachSecond h _) _ _
  · exact h

theorem inv_slotStarts {s : State} (h : s.Inv) (i : Fin 4) : (slotStarts i s).Inv := by
  unfold slotStarts; split
  · exact inv_applyForecast (inv_reachSecond h _) _ _
  all_goals exact h

theorem inv_slotEnds {s : State} (h : s.Inv) (i : Fin 4) : (slotEnds i s).Inv := by
  unfold slotEnds; split
  · exact inv_applyForecast (inv_reachSecond h _) _ _
  all_goals exact h

@[simp] theorem drn_reachSecond (s : State) (t : Nat) : (reachSecond t s).drn = s.drn := by simp [reachSecond]

theorem inv_expiryReached {s : State} (h : s.Inv) : (expiryReached s).Inv := by
  unfold expiryReached; split
  · rename_i g rest hg
    have h1 := inv_reachSecond h g.expiry
    unfold expireGrant; dsimp only
    refine inv_post (inv_withDrn h1 _ (by exact grantsWf_tail g rest (hg ▸ h.grants))
      (by exact creditsWf_expire (g := g) (by rw [drn_reachSecond, ← hg]; exact h.credits)) (by rfl)) _ _
  · exact h

theorem inv_lotDeadlineReached {s : State} (h : s.Inv) (b : Fin 8) : (lotDeadlineReached b s).Inv := by
  unfold lotDeadlineReached; split
  · rename_i o ho
    split
    · rename_i l hs _
      refine inv_overtake (inv_reachSecond h _) _ _ ?_
      have : (reachSecond l.deadline s).order b = s.order b := by simp [State.order]
      simp [this, holds, ho, hs, OrderState.holdsSlot]
    · exact h
  · exact h

/-! ### Actuator line -/

theorem inv_responseTimesOut {s : State} (h : s.Inv) : (responseTimesOut s).Inv := by
  unfold responseTimesOut; split
  · exact inv_attemptFailed (inv_reachFast h _) _ _
  · exact h

theorem inv_nakBackoffPassed {s : State} (h : s.Inv) (d : Fin 16) : (nakBackoffPassed d s).Inv := by
  unfold nakBackoffPassed; split
  · exact inv_lineTake (inv_reachFast h _)
  · exact h

theorem inv_pollReached {s : State} (h : s.Inv) (d : Fin 16) : (pollReached d s).Inv := by
  unfold pollReached; split
  · exact inv_putQuery (inv_setDevice (inv_reachSecond h _) _ _) _ _
  · exact h

theorem inv_movementDeadlineReached {s : State} (h : s.Inv) (d : Fin 16) : (movementDeadlineReached d s).Inv := by
  unfold movementDeadlineReached; split
  · exact inv_movementTimesOut (inv_reachSecond h _) _ _
  · exact h

/-! ### Power -/

/-- A fall of power gives a state with the invariant, where the retained log is in order. -/
theorem inv_losePower {s : State} (h : logWf s.ret.log s.ret.nextId) : (losePower s).Inv where
  port := ⟨Nat.zero_le _, Nat.zero_lt_succ _⟩
  log := h
  credits := fun _ => rfl
  grants := ⟨Nat.zero_le _, List.Pairwise.nil, fun _ hg => absurd hg (by simp [losePower, loseVolatile, Drain.start])⟩
  sounding := List.nodup_nil
  line := fun _ => ⟨Nat.zero_le _, Nat.zero_le _⟩
  slots := by unfold slotsWf; rw [slotHolders_start _ rfl]; exact Nat.zero_le _
  receive := fun _ hs => absurd hs (by simp [losePower, loseVolatile, Port.start])

theorem inv_mainFalls {s : State} (h : s.Inv) : (mainFalls s).Inv := by
  unfold mainFalls; split
  · exact h
  · exact inv_losePower h.log

theorem inv_backupFalls {s : State} (h : s.Inv) : (backupFalls s).Inv := by
  unfold backupFalls; dsimp only; split
  · exact inv_withRet (inv_withBackup h _) _ h.log
  · exact inv_withBackup h _

/-- The start sequence leaves the receive slot empty. -/
@[simp] theorem slot_postAt (t i : Nat) (d : NoticeDetail) (s : State) : (postAt t i d s).port.slot = s.port.slot := by simp [postAt]

theorem slot_enterLog (id : Nat) (r : SpillRecord) (s : State) : (enterLog id r s).port.slot = s.port.slot := by
  unfold enterLog; dsimp only; split
  · simp [post]
  · simp

theorem slot_transferOne {s t : State} (ht : transferOne s = some t) : t.port.slot = s.port.slot := by
  unfold transferOne at ht
  split at ht
  · split at ht
    · rw [← Option.some.inj ht, slot_enterLog]; simp
    · exact absurd ht (by simp)
  · exact absurd ht (by simp)

theorem slot_transferLoop (fuel n : Nat) (s : State) : (transferLoop fuel n s).1.port.slot = s.port.slot := by
  induction fuel generalizing n s with
  | zero => rfl
  | succ fuel ih =>
    unfold transferLoop; split
    · rfl
    · rename_i t ht; rw [ih, slot_transferOne ht]

theorem slot_closeSpill (k : Fin 4) (f : Nat) (c : EndCause) (a : Bool) (s : State) : (closeSpill k f c a s).port.slot = s.port.slot := by
  unfold closeSpill; split
  · split
    · dsimp only
      rw [slot_postAt]
      have : ∀ u : State, ∀ v, (u.setOutfall k v).port.slot = u.port.slot := fun u v => by simp
      rw [this]
      split
      · exact slot_transferLoop 4 0 _
      · rfl
    · rfl
  · rfl

theorem slot_closeFirst (n : Nat) (s : State) (c : EndCause) (f : Nat) (ks : List (Fin 4)) :
    (closeOpenSpills.closeFirst n s c f ks).port.slot = s.port.slot := by
  unfold closeOpenSpills.closeFirst
  rw [slot_transferLoop]
  generalize ks.take n = l
  induction l generalizing s with
  | nil => rfl
  | cons k l ih => rw [List.foldl_cons, ih, slot_closeSpill]

theorem slot_closeOpenSpills (n : Nat) (s : State) : (closeOpenSpills n s).port.slot = s.port.slot := by
  unfold closeOpenSpills; split
  · rfl
  · exact slot_closeFirst _ _ _ _ _
  · exact slot_closeFirst _ _ _ _ _

theorem slot_startEntries (s : State) : (startEntries s).port.slot = s.port.slot := by
  unfold startEntries
  generalize List.filter _ _ = l
  induction l generalizing s with
  | nil => rfl
  | cons b l ih => rw [List.foldl_cons, ih]; simp [queueEntry]

/-- The first three steps of a start give a state with the invariant, where the retained log is in order, and an empty receive slot. -/
theorem inv_postStarted {s : State} (h : logWf s.ret.log s.ret.nextId) : (postStarted (startValues (startRetention s))).Inv := by
  unfold postStarted; dsimp only
  exact inv_postAt (inv_startValues (log_startRetention s h)) _ _ _

theorem slot_postStarted (s : State) : (postStarted (startValues (startRetention s))).port.slot = none := by
  unfold postStarted; dsimp only; rw [slot_postAt]; simp [startValues, Port.start]

/-- A start gives a state with the invariant, where the retained log is in order. -/
theorem inv_makeStart {s : State} (h : logWf s.ret.log s.ret.nextId) : (makeStart s).Inv := by
  unfold makeStart; dsimp only
  have h1 := inv_postStarted h
  have hp := slot_postStarted s
  generalize postStarted (startValues (startRetention s)) = u at h1 hp ⊢
  refine inv_engineTake (inv_lineTake (inv_withRun (inv_refreshAlarms (inv_startEntries (inv_startSweep (inv_closeOpenSpills h1 _)))) _ ?_))
  intro hs
  have h0 : (refreshAlarms (startEntries (startSweep (closeOpenSpills (allCloses u) u)))).port.slot
      = (startEntries (startSweep (closeOpenSpills (allCloses u) u))).port.slot := by simp [refreshAlarms]
  have h3 : (startSweep (closeOpenSpills (allCloses u) u)).port.slot = (closeOpenSpills (allCloses u) u).port.slot := by simp [startSweep]
  rw [h0, slot_startEntries, h3, slot_closeOpenSpills, hp] at hs
  exact absurd hs (by simp)

/-- What a start has written when main power falls in it keeps the retained log in order. -/
theorem log_startWrites {s : State} (h : logWf s.ret.log s.ret.nextId) (n : Nat) :
    logWf (startWrites n s).ret.log (startWrites n s).ret.nextId := by
  unfold startWrites; split
  · exact h
  · exact (inv_closeOpenSpills (inv_postStarted h) _).log

theorem inv_startFails {s : State} (h : s.Inv) (f : StartFall) : (startFails f s).Inv := by
  refine inv_losePower ?_
  simpa using log_startWrites h.log f.writes

theorem inv_startWhereDue {s : State} (h : s.Inv) (f : Option StartFall) : (startWhereDue f s).Inv := by
  unfold startWhereDue; split
  · exact h
  · split
    · exact inv_makeStart h.log
    · exact inv_startFails h _

end Sys2Proof.Machine
end

