-- ==== Sys2Proof/Laws/LastOutcomes.lean ====
section
/-! SUPPORT. The last outcomes of the devices under the cascades of consequences: only a superseded entry that waited out a back-off changes one. -/

namespace Sys2Proof.Machine

/-- From `s`, a cascade at one moment has left `t`: the last outcomes follow those of `s`, and every entry that waits out a back-off waited in
`s` (R162, R171; log entry 23). -/
structure Follows (s t : State) : Prop where
  now : t.now = s.now
  queue : ∀ e ∈ t.act.queue, e.notBefore.isSome = true → e ∈ s.act.queue
  last : ∀ d, LastFollows s t d (s.last d)

/-- Nothing has happened yet. -/
theorem Follows.refl (s : State) : Follows s s := ⟨rfl, fun _ h _ => h, fun _ => Or.inl rfl⟩

/-- Two cascades at one moment make one. -/
theorem Follows.trans {r s t : State} (h : Follows r s) (g : Follows s t) : Follows r t where
  now := g.now.trans h.now
  queue e he hn := h.queue e (g.queue e he hn) hn
  last d := by
    rcases g.last d with hd | ⟨e, he, h1, h2, h3, h4⟩
    · rcases h.last d with hs | ⟨e, he, h1, h2, h3, h4⟩
      · exact Or.inl (hd.trans hs)
      · exact Or.inr ⟨e, he, h1, h2, h3, by rw [hd, h4, g.now]⟩
    · exact Or.inr ⟨e, h.queue e he h3, h1, h2, h3, h4⟩

/-- An operation that leaves the time and the actuator line alone. -/
theorem Follows.same {r s t : State} (h : Follows r s) (hn : t.now = s.now) (ha : t.act = s.act) : Follows r t :=
  h.trans ⟨hn, fun e he _ => ha ▸ he, fun d => Or.inl (by simp [State.last, ha])⟩

/-- An operation of the line that leaves the time and the last outcomes alone, and whose queue holds no new entry that waits out a back-off. -/
theorem Follows.queued {r s t : State} (h : Follows r s) (hn : t.now = s.now) (hl : t.act.lasts = s.act.lasts)
    (hq : ∀ e ∈ t.act.queue, e.notBefore.isSome = true → e ∈ s.act.queue) : Follows r t :=
  h.trans ⟨hn, hq, fun d => Or.inl (by simp [State.last, hl])⟩

/-- A fold of cascades is a cascade. -/
theorem Follows.foldl {α : Type} (f : State → α → State) (hf : ∀ {r s} a, Follows r s → Follows r (f s a)) (l : List α) {r s : State}
    (h : Follows r s) : Follows r (l.foldl f s) := by
  induction l generalizing s with
  | nil => exact h
  | cons a t ih => exact ih (hf a h)

/-- Only the waiting queue of the state before matters. -/
theorem lastFollows_congr {r s t : State} {d : Fin 16} {given : Option LastOutcome} (h : r.act.queue = s.act.queue) :
    LastFollows r t d given ↔ LastFollows s t d given := by
  simp only [LastFollows, h]

/-- What keeps the kept part of a state keeps its time. -/
theorem now_of_kept {s t : State} (h : kept t = kept s) : t.now = s.now := congrArg (fun k => k.ret.seconds) h

/-! ### Operations that leave the line alone -/

@[simp] theorem act_post (i : Nat) (d : NoticeDetail) (s : State) : (post i d s).act = s.act := by simp [post, postAt]
@[simp] theorem act_supplyFollowsMode (s : State) : (supplyFollowsMode s).act = s.act := by
  unfold supplyFollowsMode supplyOn supplyOff; repeat' split
  all_goals simp
@[simp] theorem act_engineTake (s : State) : (engineTake s).act = s.act := by
  unfold engineTake supplyOn; dsimp only; repeat' split
  all_goals simp
@[simp] theorem act_engineIdle (s : State) : (engineIdle s).act = s.act := by
  unfold engineIdle supplyOff; dsimp only; split <;> simp
@[simp] theorem act_queueEntry (e : SoundingEntry) (s : State) : (queueEntry e s).act = s.act := by simp [queueEntry]
@[simp] theorem act_reviseEntry (b : Fin 8) (s : State) : (reviseEntry b s).act = s.act := by unfold reviseEntry; split <;> simp
@[simp] theorem act_intervalChanged (b : Fin 8) (s : State) : (intervalChanged b s).act = s.act := by simp [intervalChanged]
@[simp] theorem act_forfeit (b : Fin 8) (s : State) : (forfeit b s).act = s.act := by
  unfold forfeit State.withCounters; repeat' split
  all_goals simp
@[simp] theorem act_creditsWanted (s : State) : (creditsWanted s).act = s.act := by
  unfold creditsWanted; repeat' split
  all_goals simp
@[simp] theorem act_setFailure (b : Fin 8) (f : Failure) (s : State) : (setFailure b f s).act = s.act := by
  unfold setFailure; split <;> simp
@[simp] theorem act_enterRunning (b : Fin 8) (s : State) : (enterRunning b s).act = s.act := by unfold enterRunning; split <;> simp
@[simp] theorem act_changeHolds (b : Fin 8) (f : HoldCauses → HoldCauses) (s : State) : (changeHolds b f s).act = s.act := by
  unfold changeHolds; split <;> simp
@[simp] theorem act_reshutFailed (b : Fin 8) (f : Failure) (s : State) : (reshutFailed b f s).act = s.act := by
  unfold reshutFailed; split <;> simp
@[simp] theorem act_announce (d : Fin 16) (o n : DeviceState) (c : LineCommand) (s : State) : (announce d o n c s).act = s.act := by
  unfold announce; repeat' split
  all_goals simp

variable {r s : State}

theorem follows_post (h : Follows r s) (i : Nat) (d : NoticeDetail) : Follows r (post i d s) := h.same rfl (by simp)
theorem follows_postAt (h : Follows r s) (t i : Nat) (d : NoticeDetail) : Follows r (postAt t i d s) := h.same rfl rfl
theorem follows_refreshAlarms (h : Follows r s) : Follows r (refreshAlarms s) := h.same rfl rfl
theorem follows_setOrder (h : Follows r s) (b : Fin 8) (o : Option Order) : Follows r (s.setOrder b o) := h.same rfl rfl
theorem follows_withMode (h : Follows r s) (m : Mode) : Follows r (s.withMode m) := h.same rfl rfl
theorem follows_withInhibit (h : Follows r s) (x : Tab 8 (Option InhibitCause)) : Follows r (s.withInhibit x) := h.same rfl rfl
theorem follows_withTerm (h : Follows r s) (x : Terminals) : Follows r (s.withTerm x) := h.same rfl rfl
theorem follows_setLevel (h : Follows r s) (b : Fin 8) (x : LevelRecord) : Follows r (s.setLevel b x) := h.same rfl rfl
theorem follows_setOutfall (h : Follows r s) (k : Fin 4) (x : OutfallVol) : Follows r (s.setOutfall k x) := h.same rfl rfl
theorem follows_setCounts (h : Follows r s) (k : Fin 4) (x : OutfallCounts) : Follows r (s.setCounts k x) := h.same rfl rfl
theorem follows_dropChoice (h : Follows r s) : Follows r (dropChoice s) := h.same rfl rfl
theorem follows_consume (h : Follows r s) : Follows r (consume s) := h.same rfl rfl
theorem follows_updateOpen (h : Follows r s) (k : Fin 4) (f : SpillRecord → SpillRecord) : Follows r (updateOpen k f s) := h.same rfl rfl
theorem follows_supplyFollowsMode (h : Follows r s) : Follows r (supplyFollowsMode s) := h.same (now_of_kept (by simp)) (by simp)
theorem follows_engineTake (h : Follows r s) : Follows r (engineTake s) := h.same (now_of_kept (by simp)) (by simp)
theorem follows_engineIdle (h : Follows r s) : Follows r (engineIdle s) := h.same (now_of_kept (by simp)) (by simp)
theorem follows_queueEntry (h : Follows r s) (e : SoundingEntry) : Follows r (queueEntry e s) := h.same (now_of_kept (by simp)) (by simp)
theorem follows_reviseEntry (h : Follows r s) (b : Fin 8) : Follows r (reviseEntry b s) := h.same (now_of_kept (by simp)) (by simp)
theorem follows_intervalChanged (h : Follows r s) (b : Fin 8) : Follows r (intervalChanged b s) :=
  h.same (now_of_kept (by simp)) (by simp)
theorem follows_intervalsChanged (h : Follows r s) : Follows r (intervalsChanged s) :=
  follows_engineTake (Follows.foldl _ (fun b h => follows_reviseEntry h b) _ h)
theorem follows_refIntervalChanged (h : Follows r s) (k : Fin 4) : Follows r (refIntervalChanged k s) := by
  unfold refIntervalChanged; split
  · exact follows_intervalChanged h _
  · exact h
theorem follows_forfeit (h : Follows r s) (b : Fin 8) : Follows r (forfeit b s) := h.same (now_of_kept (by simp)) (by simp)
theorem follows_creditsWanted (h : Follows r s) : Follows r (creditsWanted s) := h.same (now_of_kept (by simp)) (by simp)
theorem follows_setFailure (h : Follows r s) (b : Fin 8) (f : Failure) : Follows r (setFailure b f s) :=
  h.same (now_of_kept (by simp)) (by simp)
theorem follows_enterRunning (h : Follows r s) (b : Fin 8) : Follows r (enterRunning b s) := h.same (now_of_kept (by simp)) (by simp)
theorem follows_changeHolds (h : Follows r s) (b : Fin 8) (f : HoldCauses → HoldCauses) : Follows r (changeHolds b f s) :=
  h.same (now_of_kept (by simp)) (by simp)
theorem follows_reshutFailed (h : Follows r s) (b : Fin 8) (f : Failure) : Follows r (reshutFailed b f s) :=
  h.same (now_of_kept (by simp)) (by simp)
theorem follows_tellSuperseded (h : Follows r s) (o : Originator) (c : LineCommand) : Follows r (tellSuperseded o c s) :=
  h.same (now_of_kept (by simp)) (by simp)
theorem follows_announce (h : Follows r s) (d : Fin 16) (o n : DeviceState) (c : LineCommand) : Follows r (announce d o n c s) :=
  h.same (now_of_kept (by simp)) (by simp)

/-! ### The actuator line -/

theorem follows_lineTake (h : Follows r s) : Follows r (lineTake s) := by
  unfold lineTake; split
  · exact h.queued rfl rfl fun _ he _ => List.mem_of_mem_erase he
  · exact h

theorem follows_lineIdle (h : Follows r s) : Follows r (lineIdle s) := follows_lineTake (h.queued rfl rfl fun _ he _ => he)

/-- An entry that joins the queue. -/
theorem mem_joinLine {e x : LineEntry} {q : List LineEntry} (h : x ∈ joinLine e q) : x = e ∨ x ∈ q := by
  simp only [joinLine, List.mem_append, List.mem_cons, List.mem_filter] at h
  rcases h with h | h | h
  · exact Or.inr h.1
  · exact Or.inl h
  · exact Or.inr h.1

/-- A new entry, which waits out no back-off, joins the queue. -/
theorem follows_join (h : Follows r s) (e : LineEntry) (he : e.notBefore = none) :
    Follows r (lineTake (s.withAct { s.act with queue := joinLine e s.act.queue })) := by
  refine follows_lineTake (h.queued rfl rfl fun x hx hn => ?_)
  rcases mem_joinLine hx with rfl | hx
  · simp [he] at hn
  · exact hx

/-- A waiting drive entry of the queue leaves it and is superseded. -/
theorem follows_supersede {w : LineEntry} (hw : w ∈ s.act.queue) (hc : w.command ≠ .query) :
    Follows s (supersede w (s.withAct { s.act with queue := s.act.queue.erase w })) := by
  have h0 : Follows s (s.withAct { s.act with queue := s.act.queue.erase w }) :=
    (Follows.refl s).queued rfl rfl fun _ he _ => List.mem_of_mem_erase he
  have h1 := follows_tellSuperseded h0 w.orig w.command
  unfold supersede; dsimp only; split
  · rename_i hn
    refine ⟨h1.now, h1.queue, fun d => ?_⟩
    by_cases hd : w.device = d
    · exact Or.inr ⟨w, hw, hd, hc, hn, by simp [recordOutcome, hd, State.now]⟩
    · rcases h1.last d with hl | ⟨e, he⟩
      · exact Or.inl (by simpa [recordOutcome, hd] using hl)
      · exact Or.inr ⟨e, by simpa [recordOutcome, hd, State.now] using he⟩
  · exact h1

/-- The waiting drive entry of a device is a drive entry of its queue. -/
theorem waitingDrive_mem {d : Fin 16} {w : LineEntry} (h : waitingDrive s d = some w) :
    w ∈ s.act.queue ∧ w.device = d ∧ w.command ≠ .query := by
  have h1 := List.mem_of_find?_eq_some h
  have h2 := List.find?_some h
  simp only [LineEntry.isDriveOf, Bool.and_eq_true, beq_iff_eq] at h2
  exact ⟨h1, h2.1, fun hq => by simp [hq, LineCommand.isDrive] at h2⟩

theorem follows_putDrive (h : Follows r s) (d : Fin 16) (c : LineCommand) (o : Originator) : Follows r (putDrive d c o s) := by
  unfold putDrive; split
  · exact follows_join h _ rfl
  · rename_i w hw
    exact follows_join (h.trans (follows_supersede (waitingDrive_mem hw).1 (waitingDrive_mem hw).2.2)) _ rfl

theorem follows_putQuery (h : Follows r s) (d : Fin 16) (o : Originator) : Follows r (putQuery d o s) := by
  unfold putQuery; split
  · exact h
  · exact follows_join h _ rfl

theorem follows_withdrawEngage (h : Follows r s) (d : Fin 16) (b : Fin 8) : Follows r (withdrawEngage d b s) :=
  h.queued rfl rfl fun _ he _ => (List.mem_filter.mp he).1

/-! ### Credits and slots -/

theorem follows_putForOrder (h : Follows r s) (b : Fin 8) (c : LineCommand) : Follows r (putForOrder b c s) := by
  unfold putForOrder; split
  · exact follows_putDrive h _ _ _
  · exact h

theorem follows_enterClosing (h : Follows r s) (b : Fin 8) (c : ClosingCause) : Follows r (enterClosing b c s) := by
  unfold enterClosing; split
  · dsimp only; split
    · exact follows_intervalChanged (follows_putForOrder (follows_setOrder h _ _) _ _) _
    · exact follows_putForOrder (follows_setOrder h _ _) _ _
  · exact h

theorem follows_overtake (h : Follows r s) (b : Fin 8) (c : ClosingCause) : Follows r (overtake b c s) :=
  follows_enterClosing (follows_forfeit h _) _ _

theorem follows_enterOpening (h : Follows r s) (b : Fin 8) : Follows r (enterOpening b s) := by
  unfold enterOpening; split
  · exact follows_putForOrder (follows_setOrder (follows_consume h) _ _) _ _
  · exact h

theorem follows_slotGrantRounds (n : Nat) {r s : State} (h : Follows r s) : Follows r (slotGrantRounds n s) := by
  induction n generalizing s with
  | zero => exact follows_creditsWanted h
  | succ n ih =>
    unfold slotGrantRounds; split
    · split
      · exact ih (follows_enterOpening h _)
      · exact h
    · exact follows_creditsWanted h

theorem follows_slotGrant (h : Follows r s) : Follows r (slotGrant s) := follows_slotGrantRounds 8 h

/-! ### The mode, the planner and retirement -/

theorem follows_plannerBay (h : Follows r s) (b : Fin 8) : Follows r (plannerBay s b) := by
  unfold plannerBay; split
  · exact follows_slotGrant (follows_setOrder h _ _)
  · exact h

theorem follows_plannerEvaluation (h : Follows r s) : Follows r (plannerEvaluation s) :=
  Follows.foldl _ (fun b h => follows_plannerBay h b) _ h

theorem follows_changeMode (h : Follows r s) (m : Mode) (o : ModeOrigin) : Follows r (changeMode m o s) :=
  follows_plannerEvaluation (follows_intervalsChanged (follows_supplyFollowsMode (follows_withMode (follows_post h _ _) _)))

theorem follows_evaluateMode (h : Follows r s) : Follows r (evaluateMode s) := by
  unfold evaluateMode; split
  · exact h
  · exact follows_changeMode h _ _

theorem follows_plannerTake (h : Follows r s) : Follows r (plannerTake s) := by
  unfold plannerTake; split
  · exact follows_evaluateMode (follows_plannerEvaluation h)
  · exact follows_plannerEvaluation h

theorem follows_sitePlanner (h : Follows r s) : Follows r (sitePlanner s) := by
  unfold sitePlanner; split
  · exact follows_plannerTake (follows_evaluateMode (follows_dropChoice h))
  · exact follows_evaluateMode (follows_plannerTake (follows_dropChoice h))

theorem follows_dropOrder (h : Follows r s) (b : Fin 8) (o : Order) (n : DrainDetail → NoticeDetail) (c : DrainCause) (f : Option Failure) :
    Follows r (dropOrder b o n c f s) := follows_post (follows_setOrder h _ _) _ _

theorem follows_retire (h : Follows r s) (b : Fin 8) (n : DrainDetail → NoticeDetail) (c : DrainCause) (f : Option Failure) :
    Follows r (retire b n c f s) := by
  unfold retire; split
  · dsimp only; split
    · exact follows_slotGrant (follows_sitePlanner (follows_dropOrder h _ _ _ _ _))
    · exact follows_sitePlanner (follows_dropOrder h _ _ _ _ _)
  · exact h

theorem follows_retireDone (h : Follows r s) (b : Fin 8) : Follows r (retireDone b s) := follows_retire h _ _ _ _
theorem follows_retireCancelled (h : Follows r s) (b : Fin 8) (c : CancelCause) : Follows r (retireCancelled b c s) :=
  follows_retire h _ _ _ _

theorem follows_testQueued (h : Follows r s) (b : Fin 8) : Follows r (testQueued b s) := by
  unfold testQueued; split
  · exact follows_retireDone h _
  · exact h

theorem follows_setInhibit (h : Follows r s) (b : Fin 8) (c : InhibitCause) : Follows r (setInhibit b c s) :=
  follows_plannerTake (follows_withInhibit h _)

/-! ### Drain orders -/

theorem follows_lotBoundary (h : Follows r s) (b : Fin 8) (v : Nat) : Follows r (lotBoundary b v s) := by
  unfold lotBoundary; split
  · dsimp only; split
    · exact follows_setOrder (follows_consume h) _ _
    · exact follows_consume h
  · exact follows_enterClosing h _ _

theorem follows_lotProgress (h : Follows r s) (b : Fin 8) (v w : Nat) : Follows r (lotProgress b v w s) := by
  unfold lotProgress; dsimp only; repeat' split
  all_goals first
    | with_reducible exact h
    | with_reducible exact follows_enterClosing (follows_setOrder h _ _) _ _
    | with_reducible exact follows_lotBoundary (follows_setOrder h _ _) _ _
    | with_reducible exact follows_setOrder h _ _

theorem follows_drainAcceptance (h : Follows r s) (b : Fin 8) (v w : Nat) : Follows r (drainAcceptance b v w s) := by
  unfold drainAcceptance; dsimp only; split
  · exact follows_slotGrant (follows_lotProgress (follows_changeHolds h _ _) _ _ _)
  · exact follows_slotGrant (follows_testQueued (follows_changeHolds h _ _) _)

theorem follows_gaugeLoss (h : Follows r s) (b : Fin 8) : Follows r (gaugeLoss b s) := by
  unfold gaugeLoss; dsimp only; repeat' split
  all_goals first
    | with_reducible exact follows_overtake (follows_changeHolds h _ _) _ _
    | with_reducible exact follows_changeHolds h _ _

theorem follows_worksStopBay (h : Follows r s) (b : Fin 8) : Follows r (worksStopBay s b) := by
  unfold worksStopBay; repeat' split
  all_goals first | with_reducible exact h | with_reducible exact follows_overtake h _ _

theorem follows_worksStopAsserted (h : Follows r s) : Follows r (worksStopAsserted s) :=
  Follows.foldl _ (fun b h => follows_worksStopBay h b) _ (Follows.foldl _ (fun b h => follows_changeHolds h b _) _ (follows_withTerm h _))

theorem follows_worksStopFrees (h : Follows r s) : Follows r (worksStopFrees s) :=
  Follows.foldl _ (fun b h => follows_changeHolds h b _) _ (follows_withTerm h _)

theorem follows_dropTested (h : Follows r s) (b : Fin 8) : Follows r (dropTested s b) := by
  unfold dropTested; repeat' split
  all_goals first | with_reducible exact h | with_reducible exact follows_dropOrder h _ _ _ _ _

theorem follows_worksStopReleased (h : Follows r s) : Follows r (worksStopReleased s) :=
  follows_slotGrant (Follows.foldl _ (fun _ h => follows_sitePlanner h) _
    (Follows.foldl _ (fun b h => follows_dropTested h b) _ (follows_worksStopFrees h)))

theorem follows_confirmClose (h : Follows r s) (b : Fin 8) : Follows r (confirmClose b s) := by
  unfold confirmClose; repeat' split
  all_goals first
    | with_reducible exact h
    | with_reducible exact follows_retireDone h _
    | with_reducible exact follows_retireCancelled h _ _
    | with_reducible exact follows_plannerTake (follows_retire (follows_withInhibit h _) _ _ _ _)
    | with_reducible exact follows_retire h _ _ _ _
    | with_reducible exact follows_slotGrant (follows_testQueued (follows_setOrder h _ _) _)

theorem follows_enterSuspect (h : Follows r s) (b : Fin 8) (f : Failure) : Follows r (enterSuspect b f s) := by
  unfold enterSuspect; split
  · exact follows_setInhibit (follows_post (follows_setOrder h _ _) _ _) _ _
  · exact h

theorem follows_handOvertakes (h : Follows r s) (b : Fin 8) : Follows r (handOvertakes b s) := by
  unfold handOvertakes; dsimp only; split
  · split <;> split
    · exact follows_slotGrant (follows_intervalChanged (follows_withdrawEngage (follows_setOrder (follows_forfeit h _) _ _) _ _) _)
    · exact follows_slotGrant (follows_intervalChanged (follows_setOrder (follows_forfeit h _) _ _) _)
    · exact follows_slotGrant (follows_withdrawEngage (follows_setOrder (follows_forfeit h _) _ _) _ _)
    · exact follows_slotGrant (follows_setOrder (follows_forfeit h _) _ _)
  · exact follows_forfeit h _

theorem follows_handReported (h : Follows r s) (b : Fin 8) : Follows r (handReported b s) := by
  unfold handReported; dsimp only; repeat' split
  all_goals first
    | with_reducible exact follows_handOvertakes (follows_changeHolds h _ _) _
    | with_reducible exact follows_changeHolds h _ _

theorem follows_engageOutcome (h : Follows r s) (b : Fin 8) (oc : LineOutcome) : Follows r (engageOutcome b oc s) := by
  unfold engageOutcome; split
  · exact follows_enterRunning h _
  · exact follows_handReported h _
  · exact follows_overtake (follows_setFailure h _ _) _ _
  · exact follows_overtake (follows_setFailure h _ _) _ _
  · exact h

theorem follows_releaseOutcome (h : Follows r s) (b : Fin 8) (oc : LineOutcome) : Follows r (releaseOutcome b oc s) := by
  unfold releaseOutcome; split
  · exact follows_confirmClose h _
  · exact follows_enterSuspect h _ _
  · exact follows_enterSuspect h _ _
  · exact follows_enterSuspect h _ _
  · exact h

theorem follows_reshutOutcome (h : Follows r s) (b : Fin 8) (oc : LineOutcome) : Follows r (reshutOutcome b oc s) := by
  unfold reshutOutcome; split
  · exact follows_retire h _ _ _ _
  all_goals exact follows_reshutFailed h _ _

theorem follows_tell (h : Follows r s) (o : Originator) (c : LineCommand) (oc : LineOutcome) : Follows r (tell o c oc s) := by
  unfold tell; repeat' split
  all_goals first
    | with_reducible exact h
    | with_reducible exact follows_engageOutcome h _ _
    | with_reducible exact follows_releaseOutcome h _ _
    | with_reducible exact follows_reshutOutcome h _ _

theorem follows_handLeft (h : Follows r s) (b : Fin 8) : Follows r (handLeft b s) := follows_testQueued (follows_changeHolds h _ _) _

theorem follows_deviceFailedRunning (h : Follows r s) (b : Fin 8) (f : Failure) : Follows r (deviceFailedRunning b f s) := by
  unfold deviceFailedRunning; split
  · exact follows_overtake (follows_setFailure h _ _) _ _
  · exact h

theorem follows_deviceChanged (h : Follows r s) (b : Fin 8) (o n : DeviceState) : Follows r (deviceChanged b o n s) := by
  unfold deviceChanged; split
  · exact h
  · dsimp only
    have h1 : Follows r (if o.name = .hand then handLeft b s else s) := by
      split
      · exact follows_handLeft h _
      · exact h
    split
    · exact follows_slotGrant (follows_handReported h1 _)
    · exact follows_slotGrant (follows_deviceFailedRunning h1 _ _)
    · exact follows_slotGrant (follows_deviceFailedRunning h1 _ _)
    all_goals exact follows_slotGrant h1

theorem follows_handChange (h : Follows r s) (d : Fin 16) (o n : DeviceState) : Follows r (handChange d o n s) := by
  unfold handChange; split
  · exact follows_deviceChanged h _ _ _
  · exact h

theorem follows_cancel (h : Follows r s) (b : Fin 8) (c : CancelCause) : Follows r (cancel b c s) := by
  unfold cancel; repeat' split
  all_goals first
    | with_reducible exact h
    | with_reducible exact follows_retireCancelled h _ _
    | with_reducible exact follows_overtake (follows_setOrder h _ _) _ _
    | with_reducible exact follows_setOrder h _ _

theorem follows_cancelAuto (h : Follows r s) (b : Fin 8) : Follows r (cancelAuto s b) := by
  unfold cancelAuto; repeat' split
  all_goals first | with_reducible exact h | with_reducible exact follows_cancel h _ _

theorem follows_enterMaintenance (h : Follows r s) : Follows r (enterMaintenance s) :=
  follows_plannerEvaluation (Follows.foldl _ (fun b h => follows_cancelAuto h b) _
    (follows_intervalsChanged (follows_supplyFollowsMode (follows_withMode (follows_post h _ _) _))))

/-! ### The spill accountant -/

theorem follows_enterLog (h : Follows r s) (id : Nat) (x : SpillRecord) : Follows r (enterLog id x s) := by
  unfold enterLog; dsimp only; split <;> exact h.same rfl rfl

theorem follows_placeSpill (h : Follows r s) (k : Fin 4) (t : Nat) (c : SpillClass) (d : Nat) : Follows r (placeSpill k t c d s) := by
  unfold placeSpill placeSpill.placeSlot; repeat' split
  all_goals first | exact follows_enterLog h _ _ | exact h.same rfl rfl

theorem follows_openBlock (h : Follows r s) (k : Fin 4) (t : Nat) : Follows r (openBlock k t s) := h.same rfl rfl
theorem follows_carryBlock (h : Follows r s) (k : Fin 4) (t : Nat) : Follows r (carryBlock k t s) := h.same rfl rfl
theorem follows_outfallChanged (h : Follows r s) (k : Fin 4) : Follows r (outfallChanged k s) :=
  follows_evaluateMode (follows_refIntervalChanged h _)

theorem follows_startSpill (h : Follows r s) (k : Fin 4) (x : Int) (t : Nat) : Follows r (startSpill k x t s) := by
  unfold startSpill; dsimp only
  generalize (if rainAttributed s = true then SpillClass.rain else SpillClass.dry) = c
  have h3 := follows_setCounts (follows_placeSpill (follows_setOutfall h k { s.spill.at_ k with remainder := 0 }) k t c x.toNat) k
  refine follows_outfallChanged (follows_postAt (follows_setOutfall ?_ _ _) _ _ _) _
  split
  · exact h3 _
  · exact follows_openBlock (h3 _) _ _

theorem follows_spillTransition (h : Follows r s) (k : Fin 4) (x : Int) (t : Nat) : Follows r (spillTransition k x t s) := by
  unfold spillTransition; dsimp only; repeat' split
  all_goals first
    | with_reducible exact h
    | with_reducible exact follows_startSpill h _ _ _
    | exact follows_setOutfall h _ _
    | exact follows_carryBlock (follows_setOutfall h _ _) _ _

theorem follows_accrueAndPeak (h : Follows r s) (k : Fin 4) (x : Int) (t : Nat) (p : Option Nat) : Follows r (accrueAndPeak k x t p s) := by
  unfold accrueAndPeak; split
  · exact h
  all_goals exact h.same rfl rfl

theorem follows_spillAcceptance (h : Follows r s) (b : Fin 8) (v t : Nat) (p : Option Nat) : Follows r (spillAcceptance b v t p s) := by
  unfold spillAcceptance; dsimp only; repeat' split
  all_goals first | with_reducible exact h | with_reducible exact follows_spillTransition (follows_accrueAndPeak h _ _ _ _) _ _ _

theorem follows_spillLoss (h : Follows r s) (b : Fin 8) : Follows r (spillLoss b s) := by
  unfold spillLoss; repeat' split
  all_goals first | with_reducible exact h | exact h.same rfl rfl

/-! ### The level keeper -/

theorem follows_takeLevelEvent (h : Follows r s) (b : Fin 8) (ev : LevelEvent) (t : LevelTaker) : Follows r (takeLevelEvent b ev s t) := by
  unfold takeLevelEvent; repeat' split
  all_goals first
    | with_reducible exact h
    | with_reducible exact follows_evaluateMode h
    | with_reducible exact follows_plannerTake h
    | with_reducible exact follows_spillAcceptance h _ _ _ _
    | with_reducible exact follows_spillLoss h _
    | with_reducible exact follows_drainAcceptance h _ _ _
    | with_reducible exact follows_gaugeLoss h _

theorem follows_handLevelEvent (h : Follows r s) (b : Fin 8) (ev : LevelEvent) : Follows r (handLevelEvent b ev s) :=
  Follows.foldl _ (fun t h => follows_takeLevelEvent h b ev t) _ (follows_dropChoice h)

theorem follows_handQualityChange (h : Follows r s) (b : Fin 8) (q : Quality) : Follows r (handQualityChange b q s) := by
  unfold handQualityChange; split
  · exact h
  · exact follows_handLevelEvent h _ _

theorem follows_testDisagreement (h : Follows r s) (b : Fin 8) : Follows r (testDisagreement b s) := by
  unfold testDisagreement; split
  · exact follows_post (follows_setLevel h _ _) _ _
  · exact h

theorem follows_levelCompletion (h : Follows r s) (b : Fin 8) (l : Option Nat) (t : Nat) (f : Bool) :
    Follows r (levelCompletion b l t f s) := by
  have without : ∀ x, Follows r (withoutAcceptance b x s) := fun x => by
    unfold withoutAcceptance; dsimp only; split
    · exact follows_handQualityChange (follows_testDisagreement (follows_setLevel h _ _) _) _ _
    · exact follows_handQualityChange (follows_setLevel h _ _) _ _
  unfold levelCompletion; repeat' split
  all_goals first
    | with_reducible exact without _
    | exact follows_handLevelEvent (follows_testDisagreement (follows_setLevel h _ _) _) _ _

end Sys2Proof.Machine
end

