-- ==== Sys2Proof/Laws/Line.lean ====
section
/-! SUPPORT. A command that is put stands with the actuator line, and stays there while commands to other devices are put. -/

namespace Sys2Proof.Machine

/-- What the queue holds after an entry has joined (R161). -/
theorem mem_joinLine_iff {e x : LineEntry} {q : List LineEntry} : x ∈ joinLine e q ↔ x = e ∨ x ∈ q := by
  unfold joinLine
  simp only [List.mem_append, List.mem_cons, List.mem_filter, decide_eq_true_eq]
  constructor
  · rintro (h | h | h) <;> tauto
  · rintro (h | h)
    · tauto
    · rcases Nat.lt_or_ge e.command.rank x.command.rank with g | g <;> tauto

/-- A command stands by what the line holds. -/
theorem CommandStands.congr {s t : State} {d : Fin 16} {c : LineCommand} {o : Originator} (h : CommandStands s d c o)
    (hq : t.act.queue = s.act.queue) (hc : t.act.current = s.act.current) : CommandStands t d c o := by
  unfold CommandStands; rw [hq, hc]; exact h

/-- The line that takes an entry loses none (R163). -/
theorem commandStands_lineTake {s : State} {d : Fin 16} {c : LineCommand} {o : Originator} (h : CommandStands s d c o) :
    CommandStands (lineTake s) d c o := by
  unfold lineTake
  split
  · rename_i e hc he
    rcases h with ⟨x, hx, hd, hcx, ho⟩ | ⟨x, hx, _⟩
    · by_cases hxe : x = e
      · subst hxe
        exact .inr ⟨_, rfl, hd, hcx, ho⟩
      · exact .inl ⟨x, by simpa using (List.mem_erase_of_ne hxe).2 hx, hd, hcx, ho⟩
    · rw [hc] at hx; cases hx
  · exact h

/-- A drive command that is put stands with the line (R162, R163). -/
theorem commandStands_putDrive (s : State) (d : Fin 16) (c : LineCommand) (o : Originator) : CommandStands (putDrive d c o s) d c o := by
  unfold putDrive
  split <;>
    exact commandStands_lineTake (.inl ⟨_, mem_joinLine_iff.2 (.inl rfl), rfl, rfl, rfl⟩)

/-- What supersedes an entry reaches neither the queue nor the line. -/
theorem act_supersede (w : LineEntry) (s : State) : (supersede w s).act.queue = s.act.queue ∧ (supersede w s).act.current = s.act.current := by
  unfold supersede tellSuperseded reshutFailed recordOutcome
  split <;> split <;> (try split) <;> simp <;> (try split) <;> simp [post, postAt]

/-- A drive command put to another device leaves a command where it stands, waiting or on the line (R162). -/
theorem commandStands_putDrive_other {s : State} {d d' : Fin 16} {c c' : LineCommand} {o o' : Originator} (h : CommandStands s d c o)
    (hd : d' ≠ d) : CommandStands (putDrive d' c' o' s) d c o := by
  have join (u : State) (hu : CommandStands u d c o) (e : LineEntry) :
      CommandStands (lineTake (u.withAct { u.act with queue := joinLine e u.act.queue })) d c o := by
    refine commandStands_lineTake ?_
    rcases hu with ⟨x, hx, hr⟩ | hx
    · exact .inl ⟨x, mem_joinLine_iff.2 (.inr hx), hr⟩
    · exact .inr hx
  unfold putDrive
  split
  · exact join s h _
  · rename_i w hw
    refine join _ ?_ _
    have hwd : w.device = d' := by
      have := List.find?_some hw
      simp [LineEntry.isDriveOf] at this
      exact this.1
    refine CommandStands.congr (s := s.withAct { s.act with queue := s.act.queue.erase w }) ?_ (act_supersede _ _).1 (act_supersede _ _).2
    rcases h with ⟨x, hx, hxd, hr⟩ | hx
    · exact .inl ⟨x, (List.mem_erase_of_ne (by rintro rfl; exact hd (hwd.symm.trans hxd))).2 hx, hxd, hr⟩
    · exact .inr hx

/-- A drive command put by another bay's order, whose device is another one, leaves a command where it stands (R128, R134). -/
theorem commandStands_putForOrder_other {s : State} {d : Fin 16} {c c' : LineCommand} {o : Originator} (h : CommandStands s d c o)
    {x : Fin 8} (hx : (s.bay x).device ≠ some d) : CommandStands (putForOrder x c' s) d c o := by
  unfold putForOrder
  split
  · rename_i d' hd'
    exact commandStands_putDrive_other h (by rintro rfl; exact hx hd')
  · exact h

/-- A drive command that an order puts to its bay's drain device stands with the line (R128, R134). -/
theorem commandStands_putForOrder {s : State} {b : Fin 8} {d : Fin 16} (h : (s.bay b).device = some d) (c : LineCommand) :
    CommandStands (putForOrder b c s) d c (.order b) := by
  simpa [putForOrder, h] using commandStands_putDrive s d c (.order b)

/-- The change of a sounding interval leaves a command where it stands (R39). -/
theorem commandStands_leftRunning {s : State} {d : Fin 16} {c : LineCommand} {orig : Originator} (h : CommandStands s d c orig) (b : Fin 8)
    (o : Order) : CommandStands (leftRunning b o s) d c orig := by
  unfold leftRunning
  split
  · exact h.congr (by simp) (by simp)
  · exact h

/-- An order whose lot has been overtaken has its RELEASE with the line (R134). -/
theorem commandStands_overtaken {s : State} {b : Fin 8} {d : Fin 16} (h : (s.bay b).device = some d) (o : Order) (holds : HoldCauses)
    (cause : ClosingCause) (failure : Option Failure) : CommandStands (overtaken b o holds cause failure s) d .release (.order b) := by
  refine commandStands_leftRunning (commandStands_putForOrder ?_ _) _ _
  simpa [creditForfeited, State.withCounters, State.setOrder, State.bay] using h

end Sys2Proof.Machine
end

