-- ==== Sys2Proof/Laws/Orders.lean ====
section
/-! SUPPORT. What the shared moves of the drain scheduler and the spill log come to, in the words of Safety.lean. -/

namespace Sys2Proof.Machine

/-- What `overtake` leaves of a bay with an order. -/
theorem overtake_eq_overtaken {b : Fin 8} {o : Order} {s : State} (h : s.order b = some o) (cause : ClosingCause) :
    overtake b cause s = overtaken b o o.holds cause o.failure s := by
  unfold overtake overtaken enterClosing forfeit creditForfeited leftRunning Order.creditDrained addHeld
  rcases hc : o.credit <;> rcases hl : o.lot <;> simp_all [Config.max32] <;> rfl

/-- What `enterClosing` leaves of a bay with an order (R134). -/
theorem enterClosing_of_order {b : Fin 8} {o : Order} {s : State} (h : s.order b = some o) (cause : ClosingCause) :
    enterClosing b cause s = leftRunning b o (putForOrder b .release
      (s.setOrder b (some { o with state := .closing, closing := some cause, lot := none }))) := by
  simp only [enterClosing, h, leftRunning]

/-- A transfer took the first closed aggregate of the slots into the log, which had room, with the next id (R108). -/
theorem transferOne_eq_some {s t : State} (h : transferOne s = some t) :
    ∃ id k r, s.ret.log.length < Config.logCap ∧ s.ret.nextId = some id ∧ firstClosed s = some (k, r)
      ∧ t = enterLog id r (s.withRet { s.ret with slots := s.ret.slots.put k none }) := by
  unfold transferOne at h
  split at h
  · rename_i hroom
    split at h
    · rename_i id k r hid hfirst
      exact ⟨id, k, r, hroom, hid, hfirst, (Option.some.inj h).symm⟩
    · exact absurd h (by simp)
  · exact absurd h (by simp)

end Sys2Proof.Machine
end

