-- ==== Sys2Proof/Laws/PerInstr.lean ====
section
/-! SUPPORT. Statements about every command as syntax, with one lemma for each constructor. -/

namespace Sys2Proof.Laws.MomentFree

/-- A command is well-formed at every moment or at none, and carries the moment it is given. -/
def Statement (i : Instr) : Prop := ∀ m : Moment, (i.withMoment m).wf = i.wf ∧ (i.withMoment m).moment = m

theorem getStatus (m : Moment) (seq : Byte) (b : Body Unit) : Statement (.getStatus m seq b) := fun _ => ⟨rfl, rfl⟩
theorem fetchNotices (m : Moment) (seq : Byte) (b : Body Nat) : Statement (.fetchNotices m seq b) := fun _ => ⟨rfl, rfl⟩
theorem getClock (m : Moment) (seq : Byte) (b : Body Unit) : Statement (.getClock m seq b) := fun _ => ⟨rfl, rfl⟩
theorem setClock (m : Moment) (seq : Byte) (b : Body Nat) : Statement (.setClock m seq b) := fun _ => ⟨rfl, rfl⟩
theorem restart (m : Moment) (seq : Byte) (b : Body Unit) : Statement (.restart m seq b) := fun _ => ⟨rfl, rfl⟩
theorem setParamsSounding (m : Moment) (seq : Byte) (b : Body SoundingParams) : Statement (.setParamsSounding m seq b) := fun _ => ⟨rfl, rfl⟩
theorem setParamsLevel (m : Moment) (seq : Byte) (b : Body Nat) : Statement (.setParamsLevel m seq b) := fun _ => ⟨rfl, rfl⟩
theorem setParamsRain (m : Moment) (seq : Byte) (b : Body Nat) : Statement (.setParamsRain m seq b) := fun _ => ⟨rfl, rfl⟩
theorem setParamsDrain (m : Moment) (seq : Byte) (b : Body DrainParams) : Statement (.setParamsDrain m seq b) := fun _ => ⟨rfl, rfl⟩
theorem setParamsPlanner (m : Moment) (seq : Byte) (b : Body Nat) : Statement (.setParamsPlanner m seq b) := fun _ => ⟨rfl, rfl⟩
theorem setParamsActuator (m : Moment) (seq : Byte) (b : Body ActuatorParams) : Statement (.setParamsActuator m seq b) := fun _ => ⟨rfl, rfl⟩
theorem setBay (m : Moment) (seq : Byte) (b : Body BayFields) : Statement (.setBay m seq b) := fun _ => ⟨rfl, rfl⟩
theorem setOutfall (m : Moment) (seq : Byte) (b : Body OutfallFields) : Statement (.setOutfall m seq b) := fun _ => ⟨rfl, rfl⟩
theorem setModeMaintenance (m : Moment) (seq : Byte) : Statement (.setModeMaintenance m seq) := fun _ => ⟨rfl, rfl⟩
theorem setModeAutomatic (m : Moment) (seq : Byte) : Statement (.setModeAutomatic m seq) := fun _ => ⟨rfl, rfl⟩
theorem sound (m : Moment) (seq : Byte) (b : Body Nat) : Statement (.sound m seq b) := fun _ => ⟨rfl, rfl⟩
theorem getSounding (m : Moment) (seq : Byte) (b : Body Unit) : Statement (.getSounding m seq b) := fun _ => ⟨rfl, rfl⟩
theorem getBay (m : Moment) (seq : Byte) (b : Body Nat) : Statement (.getBay m seq b) := fun _ => ⟨rfl, rfl⟩
theorem setGauge (m : Moment) (seq : Byte) (b : Body GaugeFields) : Statement (.setGauge m seq b) := fun _ => ⟨rfl, rfl⟩
theorem setRule (m : Moment) (seq : Byte) (b : Body RuleFields) : Statement (.setRule m seq b) := fun _ => ⟨rfl, rfl⟩
theorem forecast (m : Moment) (seq : Byte) (b : Body ForecastFields) : Statement (.forecast m seq b) := fun _ => ⟨rfl, rfl⟩
theorem getRain (m : Moment) (seq : Byte) (b : Body Unit) : Statement (.getRain m seq b) := fun _ => ⟨rfl, rfl⟩
theorem readRainMinutes (m : Moment) (seq : Byte) (b : Body Nat) : Statement (.readRainMinutes m seq b) := fun _ => ⟨rfl, rfl⟩
theorem getOutfall (m : Moment) (seq : Byte) (b : Body Nat) : Statement (.getOutfall m seq b) := fun _ => ⟨rfl, rfl⟩
theorem closePeriod (m : Moment) (seq : Byte) (b : Body Nat) : Statement (.closePeriod m seq b) := fun _ => ⟨rfl, rfl⟩
theorem readSpills (m : Moment) (seq : Byte) (b : Body ReadSpillsFields) : Statement (.readSpills m seq b) := fun _ => ⟨rfl, rfl⟩
theorem releaseSpills (m : Moment) (seq : Byte) (b : Body Nat) : Statement (.releaseSpills m seq b) := fun _ => ⟨rfl, rfl⟩
theorem grant (m : Moment) (seq : Byte) (b : Body GrantFields) : Statement (.grant m seq b) := fun _ => ⟨rfl, rfl⟩
theorem withdraw (m : Moment) (seq : Byte) (b : Body Nat) : Statement (.withdraw m seq b) := fun _ => ⟨rfl, rfl⟩
theorem drain (m : Moment) (seq : Byte) (b : Body DrainFields) : Statement (.drain m seq b) := fun _ => ⟨rfl, rfl⟩
theorem stopDrain (m : Moment) (seq : Byte) (b : Body Nat) : Statement (.stopDrain m seq b) := fun _ => ⟨rfl, rfl⟩
theorem reshut (m : Moment) (seq : Byte) (b : Body Nat) : Statement (.reshut m seq b) := fun _ => ⟨rfl, rfl⟩
theorem getCredits (m : Moment) (seq : Byte) (b : Body Unit) : Statement (.getCredits m seq b) := fun _ => ⟨rfl, rfl⟩
theorem inhibitAutoOn (m : Moment) (seq : Byte) (bay : Nat) : Statement (.inhibitAutoOn m seq bay) := fun _ => ⟨rfl, rfl⟩
theorem inhibitAutoOff (m : Moment) (seq : Byte) (bay : Nat) : Statement (.inhibitAutoOff m seq bay) := fun _ => ⟨rfl, rfl⟩
theorem getPlanner (m : Moment) (seq : Byte) (b : Body Unit) : Statement (.getPlanner m seq b) := fun _ => ⟨rfl, rfl⟩
theorem setDevice (m : Moment) (seq : Byte) (b : Body DeviceFields) : Statement (.setDevice m seq b) := fun _ => ⟨rfl, rfl⟩
theorem clearDevice (m : Moment) (seq : Byte) (b : Body Nat) : Statement (.clearDevice m seq b) := fun _ => ⟨rfl, rfl⟩
theorem pollDevice (m : Moment) (seq : Byte) (b : Body Nat) : Statement (.pollDevice m seq b) := fun _ => ⟨rfl, rfl⟩
theorem getDevice (m : Moment) (seq : Byte) (b : Body Nat) : Statement (.getDevice m seq b) := fun _ => ⟨rfl, rfl⟩
theorem setTerminal (m : Moment) (seq : Byte) (b : Body TerminalFields) : Statement (.setTerminal m seq b) := fun _ => ⟨rfl, rfl⟩
theorem setAlarmLine (m : Moment) (seq : Byte) (b : Body AlarmFields) : Statement (.setAlarmLine m seq b) := fun _ => ⟨rfl, rfl⟩
theorem getTerminals (m : Moment) (seq : Byte) (b : Body Unit) : Statement (.getTerminals m seq b) := fun _ => ⟨rfl, rfl⟩
theorem unknownKindRequest (m : Moment) (seq : Byte) (kind : Byte) : Statement (.unknownKindRequest m seq kind) := fun _ => ⟨rfl, rfl⟩
theorem hostFrameComplete (m : Moment) (bytes : List Byte) : Statement (.hostFrameComplete m bytes) := fun _ => ⟨rfl, rfl⟩
theorem hostLengthOver240 (m : Moment) (bytes : List Byte) : Statement (.hostLengthOver240 m bytes) := fun _ => ⟨rfl, rfl⟩
theorem hostFrameGap (m : Moment) (bytes : List Byte) (ending : Byte) : Statement (.hostFrameGap m bytes ending) := fun _ => ⟨rfl, rfl⟩
theorem hostLineBreak (m : Moment) (bytes : List Byte) : Statement (.hostLineBreak m bytes) := fun _ => ⟨rfl, rfl⟩
theorem replySent (m : Moment) : Statement (.replySent m) := fun _ => ⟨rfl, rfl⟩
theorem soundingDue (m : Moment) (bay : Fin 8) : Statement (.soundingDue m bay) := fun _ => ⟨rfl, rfl⟩
theorem soundingBackoffPassed (m : Moment) (bay : Fin 8) : Statement (.soundingBackoffPassed m bay) := fun _ => ⟨rfl, rfl⟩
theorem supplyReady (m : Moment) : Statement (.supplyReady m) := fun _ => ⟨rfl, rfl⟩
theorem chargeDeadlineExpired (m : Moment) : Statement (.chargeDeadlineExpired m) := fun _ => ⟨rfl, rfl⟩
theorem driveStuck (m : Moment) : Statement (.driveStuck m) := fun _ => ⟨rfl, rfl⟩
theorem burstEnd (m : Moment) (pulses : Nat) : Statement (.burstEnd m pulses) := fun _ => ⟨rfl, rfl⟩
theorem echoCrossing (m : Moment) (tof : Nat) : Statement (.echoCrossing m tof) := fun _ => ⟨rfl, rfl⟩
theorem listenWindowEnd (m : Moment) : Statement (.listenWindowEnd m) := fun _ => ⟨rfl, rfl⟩
theorem soundingGateComplete (m : Moment) (nanos : Nat) : Statement (.soundingGateComplete m nanos) := fun _ => ⟨rfl, rfl⟩
theorem soundingGateTimeout (m : Moment) : Statement (.soundingGateTimeout m) := fun _ => ⟨rfl, rfl⟩
theorem tailDeadline (m : Moment) (outfall : Fin 4) : Statement (.tailDeadline m outfall) := fun _ => ⟨rfl, rfl⟩
theorem blockEndReached (m : Moment) (outfall : Fin 4) : Statement (.blockEndReached m outfall) := fun _ => ⟨rfl, rfl⟩
theorem debounceComplete (m : Moment) (terminal : Fin 12) : Statement (.debounceComplete m terminal) := fun _ => ⟨rfl, rfl⟩
theorem gaugeStuckDeadline (m : Moment) (gauge : Fin 4) : Statement (.gaugeStuckDeadline m gauge) := fun _ => ⟨rfl, rfl⟩
theorem minuteRoll (m : Moment) : Statement (.minuteRoll m) := fun _ => ⟨rfl, rfl⟩
theorem forecastSlotStart (m : Moment) (slot : Fin 4) : Statement (.forecastSlotStart m slot) := fun _ => ⟨rfl, rfl⟩
theorem forecastSlotEnd (m : Moment) (slot : Fin 4) : Statement (.forecastSlotEnd m slot) := fun _ => ⟨rfl, rfl⟩
theorem grantExpiry (m : Moment) : Statement (.grantExpiry m) := fun _ => ⟨rfl, rfl⟩
theorem lotDeadline (m : Moment) (bay : Fin 8) : Statement (.lotDeadline m bay) := fun _ => ⟨rfl, rfl⟩
theorem actuatorReply (m : Moment) (bytes : List Byte) : Statement (.actuatorReply m bytes) := fun _ => ⟨rfl, rfl⟩
theorem actuatorResponseTimeout (m : Moment) : Statement (.actuatorResponseTimeout m) := fun _ => ⟨rfl, rfl⟩
theorem actuatorNakBackoffPassed (m : Moment) (device : Fin 16) : Statement (.actuatorNakBackoffPassed m device) := fun _ => ⟨rfl, rfl⟩
theorem devicePollDue (m : Moment) (device : Fin 16) : Statement (.devicePollDue m device) := fun _ => ⟨rfl, rfl⟩
theorem movementDeadline (m : Moment) (device : Fin 16) : Statement (.movementDeadline m device) := fun _ => ⟨rfl, rfl⟩
theorem mainPowerFail (m : Moment) : Statement (.mainPowerFail m) := fun _ => ⟨rfl, rfl⟩
theorem backupSupplyLoss (m : Moment) : Statement (.backupSupplyLoss m) := fun _ => ⟨rfl, rfl⟩
theorem start (e : StartEvent) : Statement (.start e) := fun _ => ⟨rfl, rfl⟩
theorem backupSupplyReturn (m : Moment) : Statement (.backupSupplyReturn m) := fun _ => ⟨rfl, rfl⟩

end Sys2Proof.Laws.MomentFree
end

