-- ==== Sys2Proof/Laws/Records.lean ====
section
/-! SUPPORT. What the shared operations on the open record of an outfall and on the queue entries of a sounding come to. -/

namespace Sys2Proof.Machine

/-! ### Open records -/

/-- Everything that `updateOpen` does (R103, R105). -/
theorem updateOpen_changes (k : Fin 4) (f : SpillRecord → SpillRecord) (s : State) : OpenRecordChanges s (updateOpen k f s) k f := by
  refine ⟨?_, fun j => ?_, rfl⟩
  · simp [updateOpen, SpillRecord.isOpenOf, SpillRecord.isOpen]
  · by_cases h : k = j
    · subst h
      cases hr : s.ret.slots.at_ k with
      | none => simp [updateOpen, hr]
      | some r => by_cases ho : r.openSpill.isSome = true <;> simp [updateOpen, SpillRecord.isOpen, hr, ho]
    · simp [updateOpen, h, Ne.symm h]

/-- A change that makes no difference. -/
theorem OpenRecordChanges.refl (s : State) (k : Fin 4) : OpenRecordChanges s s k id :=
  ⟨by simp, by simp, rfl⟩

/-- Two changes of one open record, one after another. -/
theorem OpenRecordChanges.trans {s t u : State} {k : Fin 4} {f g : SpillRecord → SpillRecord} (h : OpenRecordChanges s t k f)
    (hf : ∀ r, (f r).outfall = r.outfall ∧ (f r).openSpill.isSome = r.openSpill.isSome) (h' : OpenRecordChanges t u k g) :
    OpenRecordChanges s u k fun r => g (f r) := by
  obtain ⟨hl, hs, hn⟩ := h
  obtain ⟨hl', hs', hn'⟩ := h'
  refine ⟨?_, fun j => ?_, hn'.trans hn⟩
  · rw [hl', hl, List.map_map]
    refine List.map_congr_left fun e _ => ?_
    by_cases he : e.record.outfall = k ∧ e.record.openSpill.isSome = true
    · simp [he, hf]
    · simp [he]
  · rw [hs', hs]
    cases s.ret.slots.at_ j with
    | none => rfl
    | some r =>
      by_cases hr : j = k ∧ r.openSpill.isSome = true
      · simp [hr, hf]
      · simp [hr]

/-- A change counts by what the two retained contents hold of the log, the slots and the ids. -/
theorem OpenRecordChanges.congr {s t s' t' : State} {k : Fin 4} {f : SpillRecord → SpillRecord} (h : OpenRecordChanges s t k f)
    (hs : s'.ret.log = s.ret.log ∧ s'.ret.slots = s.ret.slots ∧ s'.ret.nextId = s.ret.nextId)
    (ht : t'.ret.log = t.ret.log ∧ t'.ret.slots = t.ret.slots ∧ t'.ret.nextId = t.ret.nextId) : OpenRecordChanges s' t' k f := by
  unfold OpenRecordChanges
  rw [hs.1, hs.2.1, hs.2.2, ht.1, ht.2.1, ht.2.2]
  exact h

/-- The close of a record, in the words of Safety.lean (R90, R104, R107). -/
theorem closeAt_eq_spillClosed (s : State) (finish : Nat) (cause : EndCause) :
    SpillRecord.closeAt s finish cause = spillClosed s finish cause := by
  funext r
  unfold SpillRecord.closeAt spillClosed
  cases r.openSpill <;> rfl

/-! ### Entries of a sounding -/

/-- A fresh entry is of a sounding that nothing has joined (R34, R38). -/
@[simp] theorem joined_freshEntry (b : Fin 8) (due : Nat) : (freshEntry b due).joined = false := rfl

/-- A taken entry carries on whether its sounding has been joined (R23, R37). -/
@[simp] theorem joined_takenEntry (s : State) (e : SoundingEntry) (p : EngineState) : (takenEntry s e p).joined = e.joined := rfl

/-- An entry that goes back after a failed gate keeps whether its sounding has been joined (R31, R37; log entry 44). -/
@[simp] theorem joined_retryEntry (s : State) (f : InFlight) : (retryEntry s f).joined = f.joined := rfl

end Sys2Proof.Machine
end

