-- ==== Sys2Proof/Tests/Slice0.lean ====
section
/-! SUPPORT. The model's own tests: ill-formed commands, frames written out byte by byte, and for every statement a state and operands that meet its hypotheses. -/

namespace Sys2Proof.Tests

open Sys2Proof.Machine

-- One proof at a time: tests that wait for the kernel together would each hold a thread.
set_option Elab.async false

/-! ### Ill-formed commands -/

/-- No time passes, and every terminal is low. -/
def m0 : Moment := { elapsed := 0, pins := 0 }

/-- Eight stage points. -/
def points8 : List StagePoint := [⟨0, 0⟩, ⟨1000, 500⟩, ⟨2000, 1500⟩, ⟨4000, 4000⟩, ⟨0, 0⟩, ⟨0, 0⟩, ⟨0, 0⟩, ⟨0, 0⟩]
/-- Eight weir points. -/
def weir8 : List WeirPoint := [⟨40, 120⟩, ⟨100, 600⟩, ⟨250, 2400⟩, ⟨0, 0⟩, ⟨0, 0⟩, ⟨0, 0⟩, ⟨0, 0⟩, ⟨0, 0⟩]

/-- A SET_BAY of bay 0 into outfall 0, with device 0. -/
def bay0 : BayFields :=
  { bay := 0, enabled := 1, frequency := 40, pulses := 0, blanking := 0, step := 0, tolerance := 0, mounting := 5000, empty := 100, fill := 500
    drawdown := 800, high := 3000, crest := 4000, slew := 0, dest := 1, device := 0, rank := 0, floatHeight := 3900, count := 4, points := points8 }

/-- A SET_OUTFALL of outfall 0. -/
def outfall0 : OutfallFields := { outfall := 0, onset := 5, hysteresis := 10, tail := 0, blockHours := 0, count := 3, points := weir8 }

/-- A SET_RULE of rule 0 on gauge 0. -/
def rule0 : RuleFields :=
  { rule := 0, level := 1, count := 1, gauges := [0, 0, 0, 0], combine := 0, window := 5, raise := 400, clear := 200, hold := 10 }

theorem test_wf_rejects_bytes :
    (Instr.fetchNotices m0 0 (.fields 256)).wf = false ∧ (Instr.getBay m0 0 (.fields 256)).wf = false
      ∧ (Instr.sound m0 0 (.fields 256)).wf = false ∧ (Instr.setParamsLevel m0 0 (.fields 256)).wf = false
      ∧ (Instr.setParamsRain m0 0 (.fields 256)).wf = false ∧ (Instr.readRainMinutes m0 0 (.fields 256)).wf = false
      ∧ (Instr.getOutfall m0 0 (.fields 256)).wf = false ∧ (Instr.closePeriod m0 0 (.fields 256)).wf = false
      ∧ (Instr.stopDrain m0 0 (.fields 256)).wf = false ∧ (Instr.reshut m0 0 (.fields 256)).wf = false
      ∧ (Instr.inhibitAutoOn m0 0 256).wf = false ∧ (Instr.inhibitAutoOff m0 0 256).wf = false
      ∧ (Instr.clearDevice m0 0 (.fields 256)).wf = false ∧ (Instr.pollDevice m0 0 (.fields 256)).wf = false
      ∧ (Instr.getDevice m0 0 (.fields 256)).wf = false ∧ (Instr.getDevice m0 0 (.fields 255)).wf = true := by decide

theorem test_wf_rejects_words :
    (Instr.setClock m0 0 (.fields 4294967296)).wf = false ∧ (Instr.setClock m0 0 (.fields 4294967295)).wf = true
      ∧ (Instr.releaseSpills m0 0 (.fields 4294967296)).wf = false ∧ (Instr.readSpills m0 0 (.fields ⟨4294967296, 1⟩)).wf = false
      ∧ (Instr.readSpills m0 0 (.fields ⟨1, 256⟩)).wf = false ∧ (Instr.setParamsPlanner m0 0 (.fields 65536)).wf = false
      ∧ (Instr.withdraw m0 0 (.fields 65536)).wf = false ∧ (Instr.withdraw m0 0 (.fields 65535)).wf = true
      ∧ (Instr.grant m0 0 (.fields ⟨256, 1⟩)).wf = false ∧ (Instr.grant m0 0 (.fields ⟨1, 65536⟩)).wf = false
      ∧ (Instr.drain m0 0 (.fields ⟨256, 0, 0⟩)).wf = false ∧ (Instr.drain m0 0 (.fields ⟨0, 256, 0⟩)).wf = false
      ∧ (Instr.drain m0 0 (.fields ⟨0, 0, 65536⟩)).wf = false := by decide

theorem test_wf_rejects_params :
    (Instr.setParamsSounding m0 0 (.fields { SoundingParams.defaults with charge := 256 })).wf = false
      ∧ (Instr.setParamsSounding m0 0 (.fields { SoundingParams.defaults with speed := 65536 })).wf = false
      ∧ (Instr.setParamsSounding m0 0 (.fields SoundingParams.defaults)).wf = true
      ∧ (Instr.setParamsDrain m0 0 (.fields ⟨256, 500, 900⟩)).wf = false ∧ (Instr.setParamsDrain m0 0 (.fields ⟨1, 65536, 900⟩)).wf = false
      ∧ (Instr.setParamsActuator m0 0 (.fields ⟨256, 2, 250, 8, 2⟩)).wf = false
      ∧ (Instr.setParamsActuator m0 0 (.fields ⟨40, 2, 65536, 8, 2⟩)).wf = false := by decide

theorem test_wf_rejects_records :
    (Instr.setBay m0 0 (.fields bay0)).wf = true ∧ (Instr.setBay m0 0 (.fields { bay0 with points := points8.take 7 })).wf = false
      ∧ (Instr.setBay m0 0 (.fields { bay0 with rank := 256 })).wf = false
      ∧ (Instr.setBay m0 0 (.fields { bay0 with mounting := 65536 })).wf = false
      ∧ (Instr.setBay m0 0 (.fields { bay0 with points := ⟨65536, 0⟩ :: points8.take 7 })).wf = false
      ∧ (Instr.setOutfall m0 0 (.fields outfall0)).wf = true ∧ (Instr.setOutfall m0 0 (.fields { outfall0 with onset := 256 })).wf = false
      ∧ (Instr.setOutfall m0 0 (.fields { outfall0 with points := [] })).wf = false
      ∧ (Instr.setOutfall m0 0 (.fields { outfall0 with points := ⟨1, 4294967296⟩ :: weir8.take 7 })).wf = false
      ∧ (Instr.setGauge m0 0 (.fields ⟨256, 1, 200, 80, 10⟩)).wf = false ∧ (Instr.setGauge m0 0 (.fields ⟨0, 1, 65536, 80, 10⟩)).wf = false
      ∧ (Instr.setRule m0 0 (.fields rule0)).wf = true ∧ (Instr.setRule m0 0 (.fields { rule0 with gauges := [0] })).wf = false
      ∧ (Instr.setRule m0 0 (.fields { rule0 with raise := 4294967296 })).wf = false := by decide

theorem test_wf_rejects_other_fields :
    (Instr.forecast m0 0 (.fields ⟨256, 1, 0, 1⟩)).wf = false ∧ (Instr.forecast m0 0 (.fields ⟨0, 1, 65536, 1⟩)).wf = false
      ∧ (Instr.setDevice m0 0 (.fields ⟨0, 1, 256, 1, 1, 120⟩)).wf = false ∧ (Instr.setDevice m0 0 (.fields ⟨0, 1, 1, 1, 1, 65536⟩)).wf = false
      ∧ (Instr.setTerminal m0 0 (.fields ⟨256, 0, 0, 0⟩)).wf = false ∧ (Instr.setAlarmLine m0 0 (.fields ⟨0, 256, 0, 0, 0⟩)).wf = false
      ∧ (Instr.unknownKindRequest m0 0 0x01#8).wf = false ∧ (Instr.unknownKindRequest m0 0 0x06#8).wf = true
      ∧ (Instr.hostFrameComplete m0 []).wf = false ∧ (Instr.hostLengthOver240 m0 [0xA5#8, 240#8]).wf = false
      ∧ (Instr.hostLengthOver240 m0 [0xA5#8, 241#8]).wf = true ∧ (Instr.hostLengthOver240 m0 []).wf = false
      ∧ (Instr.soundingGateComplete m0 0).wf = false ∧ (Instr.actuatorReply m0 []).wf = false := by decide

/-! ### A small site -/

/-- The state that a command leaves. -/
def after (c : Instr) (s : State) : State := match exec c s with
  | .next t => t
  | .fault _ => s
  | .refused _ => s

/-- The result of the request being answered. -/
def resultOf (c : Instr) (s : State) : Option Result := (after c s).port.answering.map fun r => r.result

/-- A bay record. -/
def siteBay (k : Fin 4) (d : Fin 16) (rank : Nat) : BayRec := { bayRecord bay0 with dest := .outfall k, device := some d, rank := rank }

/-- Two bays with drain devices, two outfalls, a gauge with an armed rule, and terminals for the gauge, a float, works-stop and an alarm line. -/
def siteImage : Image :=
  { Image.afterCold with
    bays := ((Tab.all 8 BayRec.cold).put 0 (siteBay 0 0 0)).put 1 (siteBay 1 1 1)
    outfalls := ((Tab.all 4 OutfallRec.cold).put 0 (outfallRecord outfall0)).put 1 (outfallRecord outfall0)
    gauges := (Tab.all 4 GaugeRec.cold).put 0 { enabled := true, tipDepth := 200, dead := 80, stuck := 10 }
    rules := (Tab.all 8 RuleRec.disarmed).put 0 (ruleRecord rule0 .advisory)
    devices := (((Tab.all 16 (none : Option DeviceRec)).put 0 (some ⟨1, .gate, .watched, 120⟩)).put 1 (some ⟨2, .pump, .ackOnly, 120⟩)).put 2
      (some ⟨31, .gate, .watched, 120⟩)
    terminals := ((((Tab.all 12 ⟨.unused, .activeHigh⟩).put 0 ⟨.gauge 0, .activeHigh⟩).put 1 ⟨.float 0, .activeHigh⟩).put 2
      ⟨.worksStop, .activeHigh⟩).put 11 ⟨.alarm 0, .activeLow⟩
    alarms := (Tab.all 4 ⟨.off, 0, .site, 0⟩).put 0 ⟨.spill, 0, .site, 255⟩ }

/-- A level record with an accepted value. -/
def held (value : Nat) (q : Quality) : LevelRecord :=
  { value := some value, quality := q, accepted := some 90, candidate := none, misses := 0, disagreed := false }

/-- The site after 100 seconds, both bays at 2,000 mm and inhibited, with their soundings waiting. -/
def site : State :=
  { State.reset with
    clock := { fast := 100000000, cause := .cold, startSecond := 0 }
    image := siteImage, ret := { Retained.afterCold with seconds := 100, cold := false }, mode := .recovery
    snd := { Sounding.start with queue := [freshEntry 0 105, freshEntry 1 110], supplyOn := true, supplyReady := true }
    lvl := { records := ((Tab.all 8 LevelRecord.blank).put 0 (held 2000 .good)).put 1 (held 2000 .good)
             floats := (Tab.all 8 FloatState.absent).put 0 .released }
    rain := { State.reset.rain with gauges := (Tab.all 4 GaugeVol.blank).put 0 (GaugeVol.enabledAt 60)
                                    rules := (Tab.all 8 ⟨.disarmed, none⟩).put 0 ⟨.clear, none⟩, nextRoll := 120 }
    inhibit := ((Tab.all 8 (none : Option InhibitCause)).put 0 (some .host)).put 1 (some .host) }

/-- A drain order in a state. -/
def orderIn (st : OrderState) : Order :=
  { source := .host, lots := 2, target := 100, done := 0, total := 0, lot := none, credit := false, holds := ⟨false, false, false⟩
    closing := none, cancelCause := none, failure := none, reshut := false, state := st }

/-- An order that drains its lot. -/
def running : Order := { orderIn .running with lot := some ⟨1500, 90, 990, 0⟩, credit := true }

/-- The site with an order for bay 0. -/
def withOrder (o : Order) : State := site.setOrder 0 (some o)

/-- A sounding of bay 0 in a phase of the engine. -/
def flight (phase : EngineState) : InFlight :=
  { phase := phase, bay := 0, due := 90, urgent := none, attempt := 0, frequency := 40, pulses := 12, blanking := 3, step := 0, tolerance := 8
    mounting := 5000, charge := 50, stuck := 16, speed := 343, joined := false, discard := false, weak := false, chargeStart := 99000000
    burstStart := 99000000, tof := 17500 }

/-- The site with a sounding in flight. -/
def flying (f : InFlight) : State := site.withSnd { site.snd with engine := some f, queue := [freshEntry 1 110] }

/-- A command on the actuator line to a device, put by the host. -/
def onLine (d : Fin 16) (c e : LineCommand) : Transaction :=
  { device := d, command := c, orig := .host, exchange := e, toggle := true, resends := 0, timeout := 40, retries := 2, frame := []
    sentAt := 99990000 }

/-- The site with a transaction on the line. -/
def busy (t : Transaction) : State := site.withAct { site.act with current := some t }

/-- The site with an outfall in a spill state, and an open record of it in the log where it is not QUIET. -/
def inSpill (st : SpillState) : State :=
  let r : SpillRecord := newRecord site 0 80 .dry 20
  let s := site.withSpill (site.spill.put 0 { state := st, remainder := 7 })
  if st = .quiet then s else s.withRet { s.ret with log := [{ id := 1, record := r }], nextId := some 2 }

/-- No time passes, and one terminal is high. -/
def high (t : Fin 12) : Moment := { elapsed := 0, pins := (1#12) <<< t.val }
/-- The site with every debounced level high. -/
def allHigh : State := site.withTerm { site.term with debounced := 0xFFF#12 }
/-- The site with the gauge's last tip at a moment of fast time. -/
def tipped (t : Nat) : State := site.setGauge 0 { GaugeVol.enabledAt 60 with lastTip := some t, stuckDeadline := some ⟨105, 7⟩ }
/-- The site with works-stop asserted and an order for bay 0 held by it. -/
def stopAsserted : State :=
  (withOrder { orderIn .held with holds := ⟨true, false, false⟩ }).withTerm { site.term with worksStop := true, debounced := 4 }

/-- The one hypothesis of GetStatusAnswers, GetClockReports, StationReportsChangeNothing and RestartIsAccepted, and one of every statement about
a request. -/
theorem test_site_is_free : PortFree State.reset ∧ PortFree site := ⟨⟨rfl, rfl, rfl⟩, rfl, rfl, rfl⟩

/-! ### The hypotheses of the statements are met -/

theorem test_free_withOrder (o : Order) : PortFree (withOrder o) := ⟨rfl, rfl, rfl⟩
theorem test_free_flying (f : InFlight) : PortFree (flying f) := ⟨rfl, rfl, rfl⟩
theorem test_free_busy (t : Transaction) : PortFree (busy t) := ⟨rfl, rfl, rfl⟩
theorem test_free_inSpill (st : SpillState) : PortFree (inSpill st) := by cases st <;> exact ⟨rfl, rfl, rfl⟩

theorem test_meets_StepRunsFrontCommand :
    (site.withPending [.minuteRoll m0, .replySent m0]).pending = .minuteRoll m0 :: [.replySent m0] ∧ site.pending = [] := ⟨rfl, rfl⟩

theorem test_meets_CommandsLeaveTheQueue :
    (∃ t, exec (.backupSupplyLoss m0) site = .next t) ∧ (∃ t, exec (.backupSupplyReturn m0) site = .next t)
      ∧ ∃ t, exec (.minuteRoll m0) site = .next t := ⟨⟨_, rfl⟩, ⟨_, rfl⟩, _, rfl⟩

theorem test_meets_StoppedPartOnlyAges :
    (site.withRun .stopped).run ≠ .running ∧ (site.withRun .restarting).run ≠ .running ∧ (∀ m, Instr.minuteRoll m0 ≠ .mainPowerFail m)
      ∧ (∀ m, Instr.minuteRoll m0 ≠ .backupSupplyLoss m) ∧ (∀ e, Instr.minuteRoll m0 ≠ .start e)
      ∧ ∀ m, Instr.minuteRoll m0 ≠ .backupSupplyReturn m := by
  refine ⟨by decide, by decide, ?_, ?_, ?_, ?_⟩ <;> intros <;> simp

theorem test_meets_EveryStepKeepsInvariant : site.Inv := by
  refine ⟨?_, ?_, ?_, ?_, ?_, ?_, ?_, ?_⟩
  · exact ⟨by decide +kernel, by decide +kernel⟩
  · exact ⟨by decide +kernel, by decide +kernel, by decide +kernel⟩
  · exact ⟨by decide +kernel, by decide +kernel, by decide +kernel⟩
  · intro _; decide +kernel
  · show List.Nodup _; decide +kernel
  · intro d; exact ⟨by revert d; decide +kernel, by revert d; decide +kernel⟩
  · show List.length _ ≤ _; decide +kernel
  · intro _ h; exact absurd h (by decide +kernel)

theorem test_meets_the_other_invariants : AlarmsFollow site ∧ AlertFollows site ∧ RecordsInRange site := by
  refine ⟨fun _ => by decide +kernel, by show _ = _; decide +kernel, by decide +kernel, ?_⟩
  intro d r h
  have hall : ∀ d : Fin 16, ∀ r ∈ site.image.devices.at_ d, 1 ≤ r.address ∧ r.address ≤ 31 := by decide +kernel
  exact hall d r h

theorem test_meets_EveryStep : ∃ t, step (site.withPending [.mainPowerFail m0]) = .next t := ⟨_, rfl⟩

/-- The weir of outfall 0. -/
def weir : List WeirPoint := weir8.take 3

theorem test_meets_WeirFlowFollowsTheTable :
    ((⟨0, 0⟩ : WeirPoint) :: weir).Pairwise (fun p q => p.head < q.head ∧ p.flow < q.flow) ∧ weir.getLast? = some ⟨250, 2400⟩
      ∧ (⟨0, 0⟩ : WeirPoint) :: weir = [] ++ ⟨0, 0⟩ :: ⟨40, 120⟩ :: weir.drop 1
      ∧ weirFlow weir (-1) = 0 ∧ weirFlow weir 0 = 0 ∧ weirFlow weir 1 = 3 ∧ weirFlow weir 40 = 120 ∧ weirFlow weir 250 = 2400
      ∧ weirFlow weir 251 = 2400 := by decide +kernel

/-- The stage table of bay 0. -/
def stage : List StagePoint := points8.take 4

theorem test_meets_VolumeFollowsTheStageTable :
    stage.Pairwise (fun p q => p.level < q.level ∧ p.volume < q.volume) ∧ stage.head? = some ⟨0, 0⟩ ∧ stage.getLast? = some ⟨4000, 4000⟩
      ∧ stage = [⟨0, 0⟩] ++ ⟨1000, 500⟩ :: ⟨2000, 1500⟩ :: stage.drop 3 ∧ volumeAt stage 0 = 0 ∧ volumeAt stage 1000 = 500
      ∧ volumeAt stage 1001 = 501 ∧ volumeAt stage 2000 = 1500 ∧ volumeAt stage 4000 = 4000 ∧ volumeAt stage 4001 = 4000 := by decide +kernel

/-- A notice that may give way to others. -/
def modeNotice : Notice := { Notice.coldStarted with detail := .modeChanged .dry .watch .site }

/-- The site with 32 notices, of which the second is as given. -/
def fullQueue (x : Notice) : State :=
  site.withPort { site.port with notices := Notice.coldStarted :: x :: List.replicate 30 Notice.coldStarted }

theorem test_meets_FullNoticeQueueDropsInformational :
    (fullQueue modeNotice).port.notices.length = 32 ∧ (fullQueue Notice.coldStarted).port.notices.length = 32
      ∧ (fullQueue modeNotice).port.notices = [Notice.coldStarted] ++ modeNotice :: List.replicate 30 Notice.coldStarted
      ∧ modeNotice.detail.informational = true ∧ (∀ y ∈ (fullQueue Notice.coldStarted).port.notices, y.detail.informational = false)
      ∧ (post 0 (.supplyFault 3 0) (fullQueue modeNotice)).port.noticeLost = true
      ∧ (post 0 (.supplyFault 3 0) (fullQueue modeNotice)).port.notices.length = 32 := by decide +kernel

/-- The notices of a state after its first, with their subjects and times. -/
def told (s : State) : List (Nat × Nat × NoticeDetail) := (s.port.notices.drop 1).map fun n => (n.subject, n.time, n.detail)

/-- The last notice of a state. -/
def lastNotice (s : State) : Option NoticeDetail := s.port.notices.getLast?.map fun n => n.detail

theorem test_meets_FullNoticeQueueDropsInformational_with_room :
    site.port.notices.length < 32 ∧ told (postAt 7 2 (.supplyFault 3 0) site) = [(2, 7, .supplyFault 3 0)]
      ∧ (postAt 7 2 (.supplyFault 3 0) (site.withPort { site.port with nextNumber := 255 })).port.nextNumber = 0
      ∧ (postAt 7 2 (.supplyFault 3 0) (site.withPort { site.port with nextNumber := 254 })).port.nextNumber = 255 := by decide +kernel

theorem test_meets_GoodFrameIsOffered :
    site.run = .running ∧ site.port.receiver = .hunting ∧ ([] : List Byte).length ≤ 240 ∧ (List.replicate 240 0#8).length ≤ 240
      ∧ resultOf (.hostFrameComplete m0 (0xA5#8 :: 0#8 :: 7#8 :: 1#8 :: ([] ++ checkBytes [0#8, 7#8, 1#8]))) site = some .ok
      ∧ resultOf (.hostFrameComplete m0 (0xA5#8 :: 1#8 :: 7#8 :: 1#8 :: ([0#8] ++ checkBytes [1#8, 7#8, 1#8, 0#8]))) site
        = some .refusedLength := by decide +kernel

theorem test_meets_BadFramesAreLost :
    [0#8, 0#8] ≠ checkBytes [0#8, 7#8, 1#8] ∧ 240 < (241#8).toNat ∧ (∀ len ∈ ([] : List Byte).head?, len.toNat ≤ 240 ∧ 0 < len.toNat + 5)
      ∧ (∀ len ∈ [240#8].head?, len.toNat ≤ 240 ∧ [240#8].length < len.toNat + 5)
      ∧ (after (.hostFrameGap m0 [0xA5#8, 240#8] 0xA5#8) site).port.receiver = .receiving []
      ∧ (after (.hostFrameGap m0 [0xA5#8] 0#8) site).port.receiver = .hunting
      ∧ (after (.hostLengthOver240 m0 [0xA5#8, 241#8]) site).port.frameLost = true
      ∧ (after (.hostLineBreak m0 [0xA5#8]) site).port.frameLost = true ∧ (after (.hostLineBreak m0 []) site).port.frameLost = false := by
  decide +kernel

theorem test_meets_CheckClosesToZero_in_layouts :
    (Notice.bytes { subject := 2, number := 255, unset := true, time := 258, detail := .spillStarted none .dry .opened (-2) })
        = [4, 2, 255, 1, 0, 0, 1, 2, 0, 0, 0, 0, 1, 0, 0xFF, 0xFE]
      ∧ (∀ f ∈ (detailLayout (.supplyFault 3 7)).2, 2 < f.offset ∨ f.offset + f.width ≤ 2)
      ∧ fieldAt (NoticeDetail.bytes (.supplyFault 3 7)) 1 1 = 7 ∧ fieldAt (NoticeDetail.bytes (.supplyFault 3 7)) 2 1 = 0
      ∧ ReplyBody.bytes? (.notices 0 []) = some [0, 0] ∧ (site.image.devices.at_ 2).map (fun r => r.address) = some 31
      ∧ (sendFrame site 2 .engage .host .reset).frame = [0xC3#8, 31#8, 3#8, 0#8] ++ checkBytes [31#8, 3#8, 0#8] := by decide +kernel

theorem test_meets_GetStatusAnswers_in_summaries :
    (summary site).flags.suspect = false ∧ (summary (withOrder (orderIn .suspect))).flags.suspect = true
      ∧ (summary site).flags.clockUnset = true ∧ (summary site).flags.logFull = false ∧ (summary site).flags.attn = true
      ∧ attn (site.withRun .stopped) = false ∧ attn (site.withPort { site.port with notices := [] }) = false
      ∧ attn (after (.fetchNotices m0 0 (.fields 1)) site) = false ∧ attn (postAt 5 0 (.supplyFault 3 0) (fullQueue modeNotice)) = true := by
  decide +kernel

/-- A request in the receive slot. -/
def waiting : HostMessage := { seq := 9, request := .getStatus (.fields ()) }

/-- The site while it answers, with a request in the receive slot or without. -/
def answering (restart : Bool) (slot : Option HostMessage) : State :=
  site.withPort { site.port with
    slot := slot
    answering := some { seq := 1, kind := 0x81, result := .ok, summary := summary site, body := .empty, restart := restart } }

theorem test_meets_RequestsWaitTheirTurn :
    (site.port.answering = none ∧ site.port.slot = none) ∧ (answering false none).port.answering.isSome = true
      ∧ (answering false (some waiting)).port.slot.isSome = true ∧ (answering false none).run = .running
      ∧ resultOf (.replySent m0) (answering false (some waiting)) = some .ok ∧ resultOf (.replySent m0) (answering false none) = none
      ∧ (after (.replySent m0) (answering true (some waiting))).run = .restarting := by decide +kernel

theorem test_meets_WrongLengthAndKindRefused :
    (wrongLengthRequests m0 7).length = 39 ∧ (0x00#8).toNat ∉ listedKinds ∧ (0x7F#8).toNat ∉ listedKinds ∧ (0x80#8).toNat ∉ listedKinds
      ∧ (after (.unknownKindRequest m0 7 0x7F#8) site).port.answering.map (fun r => (r.kind, r.result)) = some (0xFF#8, .refusedKind)
      ∧ (after (.unknownKindRequest m0 7 0x80#8) site).port.answering.map (fun r => (r.kind, r.result)) = some (0x80#8, .refusedKind) := by
  decide +kernel

/-- A good frame that requests a kind with a body. -/
def framed (kind : Byte) (body : List Byte) : Instr :=
  .hostFrameComplete m0 (0xA5#8 :: byteOf body.length :: 7#8 :: kind :: (body ++ checkBytes (byteOf body.length :: 7#8 :: kind :: body)))

theorem test_meets_WrongLengthAndKindRefused_in_frames :
    site.port.receiver = .hunting ∧ 1 < (2#8).toNat ∧ 8 ≤ (8#8).toNat ∧ 6 < (7#8).toNat
      ∧ resultOf (framed 0x12#8 []) site = some .refusedLength ∧ resultOf (framed 0x12#8 [0#8, 0#8]) site = some .refusedLength
      ∧ resultOf (framed 0x12#8 [1#8]) site = some .ok ∧ resultOf (framed 0x12#8 [2#8]) site = some .refusedRange
      ∧ resultOf (framed 0x38#8 [0#8]) site = some .refusedLength ∧ resultOf (framed 0x38#8 [0#8, 1#8, 0#8]) site = some .refusedLength
      ∧ resultOf (framed 0x38#8 [1#8, 1#8]) site = some .ok ∧ resultOf (framed 0x38#8 [7#8, 1#8]) site = some .refusedUnconfigured
      ∧ resultOf (framed 0x38#8 [8#8, 1#8]) site = some .refusedRange ∧ resultOf (framed 0x38#8 [7#8, 2#8]) site = some .refusedRange
      ∧ resultOf (framed 0x08#8 []) site = some .refusedLength ∧ resultOf (framed 0x08#8 [0#8]) site = some .refusedRange
      ∧ resultOf (framed 0x08#8 [6#8]) site = some .refusedLength ∧ resultOf (framed 0x08#8 [7#8, 0#8]) site = some .refusedRange := by
  decide +kernel

theorem test_meets_StationReportsChangeNothing :
    (plannerReport site).target = .empty ∧ (plannerReport (site.withMode .dry)).target = .none
      ∧ (plannerReport site).bays.map (fun b => b.unmet) = [some .notInhibited, some .notInhibited] ++ List.replicate 6 (some .enabledWithDevice)
      ∧ (soundingReport site).queue.map (fun e => e.secondsToDue) = [5, 10] ∧ (soundingReport site).engine = .idle
      ∧ (soundingReport (flying (flight .gating))).engine = .gating
      ∧ (rainReport site).gauges.map (fun g => g.state) = [.ready, .disabled, .disabled, .disabled]
      ∧ (terminalsReport site).worksStopTerminal = some 2
      ∧ ((terminalsReport site).lines.map fun l => (l.covered, l.terminal)) = ([0, 1], some 11) :: List.replicate 3 ([], none) := by
  decide +kernel

theorem test_meets_IndexedReportsChangeNothing_in_contents :
    (bayReport site 0).volume = some (volumeAt (site.bay 0).stage 2000) ∧ (bayReport site 0).order = none
      ∧ ((bayReport (withOrder running) 0).order.bind fun o => o.running) = some ⟨0, 1500, 890⟩
      ∧ ((outfallReport (inSpill (.tailing 90 390)) 0).openSpill.map fun o => (o.id, o.duration, o.tail)) = some (some 1, 20, some ⟨90, 290⟩)
      ∧ (outfallReport site 0).openSpill = none ∧ (outfallReport site 0).head = some (-2000)
      ∧ (deviceReport (busy (onLine 0 .query .query)) 0).current = some (.query, 1)
      ∧ (deviceReport (busy (onLine 0 .query .query)) 1).current = none ∧ (deviceReport site 0).bay = some 0
      ∧ (deviceReport site 15).record = none := by decide +kernel

theorem test_meets_IndexedReportsChangeNothing :
    (site.bay 0).enabled = true ∧ (site.bay 7).enabled = false ∧ (site.outfall 0).configured = true ∧ (site.outfall 3).configured = false
      ∧ (site.image.gauges.at_ 0).enabled = true ∧ (site.image.gauges.at_ 3).enabled = false
      ∧ resultOf (.getBay m0 0 (.fields 8)) site = some .refusedRange ∧ resultOf (.getOutfall m0 0 (.fields 4)) site = some .refusedRange
      ∧ resultOf (.readRainMinutes m0 0 (.fields 4)) site = some .refusedRange ∧ resultOf (.getDevice m0 0 (.fields 16)) site = some .refusedRange
      ∧ resultOf (.getDevice m0 0 (.fields 15)) site = some .ok := by decide +kernel

theorem test_meets_ReadSpillsReports :
    resultOf (.readSpills m0 0 (.fields ⟨0, 0⟩)) site = some .refusedRange ∧ resultOf (.readSpills m0 0 (.fields ⟨0, 1⟩)) site = some .ok
      ∧ resultOf (.readSpills m0 0 (.fields ⟨0, 7⟩)) site = some .ok
      ∧ resultOf (.readSpills m0 0 (.fields ⟨0, 8⟩)) site = some .refusedRange := by decide +kernel

theorem test_meets_FetchNoticesTakesTheOldest :
    resultOf (.fetchNotices m0 0 (.fields 0)) site = some .refusedRange ∧ resultOf (.fetchNotices m0 0 (.fields 1)) site = some .ok
      ∧ resultOf (.fetchNotices m0 0 (.fields 12)) site = some .ok
      ∧ resultOf (.fetchNotices m0 0 (.fields 13)) site = some .refusedRange := by decide +kernel

theorem test_meets_SetClockSetsTheOffset :
    resultOf (.setClock m0 0 (.fields 0)) State.reset = some .refusedRange ∧ resultOf (.setClock m0 0 (.fields 99)) site = some .refusedRange
      ∧ (after (.setClock m0 0 (.fields 100)) site).ret.offset = 0
      ∧ (after (.setClock m0 0 (.fields 4294967295)) site).ret.offset = 4294967195
      ∧ site.ret.clockSet = false ∧ (site.withRet { site.ret with clockSet := true }).ret.clockSet = true := by decide +kernel

theorem test_meets_PlainParameterGroupsAreStored :
    (after (.setParamsLevel m0 0 (.fields 0)) site).image.staleLimit = 4 ∧ resultOf (.setParamsLevel m0 0 (.fields 1)) site = some .refusedRange
      ∧ (after (.setParamsLevel m0 0 (.fields 2)) site).image.staleLimit = 2
      ∧ (after (.setParamsLevel m0 0 (.fields 15)) site).image.staleLimit = 15
      ∧ resultOf (.setParamsLevel m0 0 (.fields 16)) site = some .refusedRange
      ∧ (after (.setParamsRain m0 0 (.fields 0)) site).image.dryLookback = 6 ∧ (after (.setParamsRain m0 0 (.fields 72)) site).image.dryLookback = 72
      ∧ resultOf (.setParamsRain m0 0 (.fields 73)) site = some .refusedRange
      ∧ (after (.setParamsActuator m0 0 (.fields ⟨0, 0, 0, 0, 0⟩)) site).image.actuator = ⟨40, 0, 250, 8, 2⟩
      ∧ (after (.setParamsActuator m0 0 (.fields ⟨5, 3, 50, 20, 30⟩)) site).image.actuator = ⟨5, 3, 50, 20, 30⟩
      ∧ resultOf (.setParamsActuator m0 0 (.fields ⟨4, 3, 50, 20, 30⟩)) site = some .refusedRange
      ∧ resultOf (.setParamsActuator m0 0 (.fields ⟨200, 3, 2000, 20, 31⟩)) site = some .refusedRange := by decide +kernel

theorem test_meets_FollowedParameterGroups :
    soundingInRange SoundingParams.defaults = true ∧ soundingInRange { SoundingParams.defaults with charge := 9 } = false
      ∧ slotHolders site = [] ∧ slotHolders (withOrder running) ≠ [] ∧ site.image.drain.slots = 1
      ∧ resultOf (.setParamsDrain m0 0 (.fields ⟨3, 10, 60⟩)) site = some .ok
      ∧ resultOf (.setParamsDrain m0 0 (.fields ⟨0, 50000, 3600⟩)) (withOrder running) = some .ok
      ∧ resultOf (.setParamsDrain m0 0 (.fields ⟨2, 0, 0⟩)) (withOrder running) = some .refusedState
      ∧ resultOf (.setParamsDrain m0 0 (.fields ⟨4, 0, 0⟩)) site = some .refusedRange
      ∧ resultOf (.setParamsDrain m0 0 (.fields ⟨1, 9, 0⟩)) site = some .refusedRange
      ∧ resultOf (.setParamsDrain m0 0 (.fields ⟨1, 0, 59⟩)) site = some .refusedRange
      ∧ (after (.setParamsPlanner m0 0 (.fields 500)) site).image.margin = 500
      ∧ resultOf (.setParamsPlanner m0 0 (.fields 501)) site = some .refusedRange := by decide +kernel

theorem test_meets_SetBayTakesTheRecord :
    bay0.bay = (0 : Fin 8).val ∧ bayFieldsValid bay0 = true ∧ deviceMissing site (bayRecord bay0) = false
      ∧ crossFails site 0 (bayRecord bay0) = false ∧ bayStateFails site 0 (bayRecord bay0) = false
      ∧ bayStateFails (flying (flight .listening)) 0 (bayRecord bay0) = false
      ∧ (after (.setBay m0 0 (.fields bay0)) (site.setFloat 0 .active)).level 0
        = { LevelRecord.blank with quality := .float, value := some 3900 }
      ∧ (after (.setBay m0 0 (.fields bay0)) site).level 0 = LevelRecord.blank
      ∧ (after (.setBay m0 0 (.fields bay0)) (flying (flight .listening))).snd.engine = some { flight .listening with discard := true } := by
  decide +kernel

theorem test_meets_SetBayTakesTheRecord_and_its_soundings :
    (bay0.enabled = 1 ∧ ∀ x ∈ site.snd.engine, x.bay ≠ 0)
      ∧ (after (.setBay m0 0 (.fields bay0)) site).snd.engine.map (fun f => (f.bay, f.due)) = some (0, 100)
      ∧ (after (.setBay m0 0 (.fields bay0)) site).snd.queue.map (fun e => e.bay) = [1]
      ∧ (∃ x ∈ (flying (flight .gating)).snd.engine, x.bay = 0)
      ∧ (after (.setBay m0 0 (.fields bay0)) (flying (flight .gating))).snd.queue.map (fun e => e.bay) = [1]
      ∧ (after (.setBay m0 0 (.fields { bay0 with enabled := 0 })) site).snd.queue.map (fun e => e.bay) = [1] :=
  ⟨by decide +kernel, by decide +kernel, by decide +kernel, ⟨flight .gating, rfl, rfl⟩, by decide +kernel, by decide +kernel⟩

theorem test_meets_SetBayIsRefusedInOrder :
    resultOf (.setBay m0 0 (.fields { bay0 with bay := 8 })) site = some .refusedRange
      ∧ bayFieldsValid { bay0 with crest := 4701 } = false ∧ bayFieldsValid { bay0 with crest := 4700 } = true
      ∧ deviceMissing site (bayRecord { bay0 with device := 15 }) = true
      ∧ resultOf (.setBay m0 0 (.fields { bay0 with device := 15 })) site = some .refusedUnconfigured
      ∧ crossFails site 0 (bayRecord { bay0 with rank := 1 }) = true
      ∧ resultOf (.setBay m0 0 (.fields { bay0 with rank := 1 })) site = some .refusedRange
      ∧ bayStateFails (withOrder (orderIn .held)) 0 (bayRecord bay0) = true
      ∧ resultOf (.setBay m0 0 (.fields bay0)) (withOrder (orderIn .held)) = some .refusedState := by decide +kernel

theorem test_meets_OutfallAndAlarmRecordsAreStored :
    outfallFieldsValid outfall0 = true ∧ outfallFieldsValid { outfall0 with tail := 59 } = false
      ∧ resultOf (.setOutfall m0 0 (.fields outfall0)) site = some .ok
      ∧ resultOf (.setOutfall m0 0 (.fields { outfall0 with outfall := 3 })) site = some .ok
      ∧ resultOf (.setOutfall m0 0 (.fields { outfall0 with outfall := 4 })) site = some .refusedRange
      ∧ resultOf (.setOutfall m0 0 (.fields outfall0)) (inSpill .blind) = some .refusedState
      ∧ resultOf (.setAlarmLine m0 0 (.fields ⟨3, 4, 3, 2, 255⟩)) site = some .ok
      ∧ resultOf (.setAlarmLine m0 0 (.fields ⟨0, 4, 0, 0, 255⟩)) site = some .refusedRange
      ∧ resultOf (.setAlarmLine m0 0 (.fields ⟨0, 1, 0, 0, 255⟩)) site = some .ok
      ∧ resultOf (.setAlarmLine m0 0 (.fields ⟨0, 5, 1, 0, 255⟩)) site = some .refusedRange
      ∧ resultOf (.setAlarmLine m0 0 (.fields ⟨0, 1, 1, 3, 255⟩)) site = some .refusedRange := by decide +kernel

theorem test_meets_SetGaugeTakesTheRecord :
    namedByRule site 0 = true ∧ namedByRule site 3 = false ∧ gaugeFieldsValid ⟨0, 1, 100, 20, 2⟩ = true
      ∧ gaugeFieldsValid ⟨0, 1, 99, 20, 2⟩ = false
      ∧ resultOf (.setGauge m0 0 (.fields ⟨4, 1, 0, 0, 0⟩)) site = some .refusedRange
      ∧ resultOf (.setGauge m0 0 (.fields ⟨0, 0, 0, 0, 0⟩)) site = some .refusedState
      ∧ (after (.setGauge m0 0 (.fields ⟨0, 0, 0, 0, 0⟩)) (site.withImage { siteImage with rules := Tab.all 8 RuleRec.disarmed })).rain.gauges.at_ 0
        = GaugeVol.blank
      ∧ resultOf (.setGauge m0 0 (.fields ⟨3, 0, 0, 0, 0⟩)) site = some .ok
      ∧ (after (.setGauge m0 0 (.fields ⟨0, 1, 0, 0, 0⟩)) site).rain.gauges = site.rain.gauges
      ∧ (after (.setGauge m0 0 (.fields ⟨3, 1, 0, 0, 0⟩)) site).rain.gauges.at_ 3 = GaugeVol.enabledAt 100 := by decide +kernel

theorem test_meets_SetRuleTakesTheRecord :
    Alert.ofCode? 1 = some .advisory ∧ Alert.advisory ≠ .none ∧ ruleFieldsValid rule0 = true ∧ gaugeMissing site (ruleRecord rule0 .advisory) = false
      ∧ ruleFieldsValid { rule0 with clear := 401 } = false ∧ gaugeMissing site (ruleRecord { rule0 with gauges := [3, 0, 0, 0] } .advisory) = true
      ∧ resultOf (.setRule m0 0 (.fields { rule0 with rule := 8 })) site = some .refusedRange
      ∧ resultOf (.setRule m0 0 (.fields { rule0 with level := 4 })) site = some .refusedRange
      ∧ resultOf (.setRule m0 0 (.fields { rule0 with level := 0 })) site = some .ok
      ∧ resultOf (.setRule m0 0 (.fields { rule0 with rule := 7 })) site = some .ok
      ∧ resultOf (.setRule m0 0 (.fields { rule0 with gauges := [3, 0, 0, 0] })) site = some .refusedUnconfigured := by decide +kernel

theorem test_meets_SetDeviceTakesTheRecord :
    deviceStateFails site 0 0 = true ∧ deviceStateFails site 2 0 = false ∧ deviceStateFails site 15 1 = false
      ∧ deviceStateFails (busy (onLine 2 .query .query)) 2 1 = true
      ∧ deviceRecord? ⟨15, 1, 30, 2, 1, 0⟩ = some ⟨30, .pump, .ackOnly, 120⟩ ∧ deviceRecord? ⟨15, 1, 32, 2, 1, 0⟩ = none
      ∧ addressHeld site 15 30 = false ∧ addressHeld site 15 31 = true ∧ addressHeld site 2 31 = false
      ∧ resultOf (.setDevice m0 0 (.fields ⟨16, 0, 0, 0, 0, 0⟩)) site = some .refusedRange
      ∧ resultOf (.setDevice m0 0 (.fields ⟨0, 0, 0, 0, 0, 0⟩)) site = some .refusedState
      ∧ resultOf (.setDevice m0 0 (.fields ⟨2, 0, 0, 0, 0, 0⟩)) site = some .ok
      ∧ resultOf (.setDevice m0 0 (.fields ⟨15, 2, 30, 2, 1, 0⟩)) site = some .refusedRange
      ∧ (after (.setDevice m0 0 (.fields ⟨15, 1, 30, 2, 1, 0⟩)) site).act.current.map (fun c => (c.device, c.command, c.orig))
        = some (15, .reset, .sweep) := by decide +kernel

theorem test_meets_SetTerminalTakesTheFunction :
    functionOf? 1 7 = some (.float 7) ∧ functionOf? 1 8 = none ∧ functionOf? 4 3 = some (.alarm 3) ∧ functionOf? 5 0 = none
      ∧ Polarity.ofCode? 1 = some .activeLow ∧ functionHeld site 5 (.float 0) = true ∧ functionHeld site 5 (.float 7) = false
      ∧ functionHeld site 2 .worksStop = false
      ∧ resultOf (.setTerminal m0 0 (.fields ⟨12, 0, 0, 0⟩)) site = some .refusedRange
      ∧ resultOf (.setTerminal m0 0 (.fields ⟨5, 0, 0, 2⟩)) site = some .refusedRange
      ∧ resultOf (.setTerminal m0 0 (.fields ⟨5, 1, 0, 0⟩)) site = some .refusedRange
      ∧ (after (.setTerminal m0 0 (.fields ⟨5, 1, 7, 1⟩)) site).lvl.floats.at_ 7 = .active
      ∧ (after (.setTerminal m0 0 (.fields ⟨5, 1, 7, 0⟩)) site).lvl.floats.at_ 7 = .released
      ∧ (after (.setTerminal m0 0 (.fields ⟨2, 3, 0, 1⟩)) site).term.worksStop = true := by decide +kernel

/-- The site with its float active and its level FLOAT. -/
def floated : State := allHigh.setFloat 0 .active |>.setLevel 0 (held 3900 .float)

theorem test_meets_SetTerminalTakesTheFunction_in_what_departs :
    (site.image.terminals.at_ 1).function = .float 0 ∧ (site.image.terminals.at_ 0).function = .gauge 0
      ∧ (site.image.terminals.at_ 2).function = .worksStop
      ∧ (after (.setTerminal m0 0 (.fields ⟨1, 0, 0, 0⟩)) floated).lvl.floats.at_ 0 = .absent
      ∧ ((after (.setTerminal m0 0 (.fields ⟨1, 0, 0, 0⟩)) floated).level 0).quality = .stale
      ∧ ((after (.setTerminal m0 0 (.fields ⟨1, 0, 0, 0⟩)) site).level 0) = site.level 0
      ∧ ((after (.setTerminal m0 0 (.fields ⟨5, 1, 1, 1⟩)) (site.setLevel 1 (held 2000 .stale))).level 1).quality = .float
      ∧ ((after (.setTerminal m0 0 (.fields ⟨5, 1, 1, 0⟩)) (site.setLevel 1 (held 2000 .stale))).level 1).quality = .stale
      ∧ (after (.setTerminal m0 0 (.fields ⟨0, 0, 0, 0⟩)) (tipped 0)).rain.gauges.at_ 0 = { GaugeVol.enabledAt 60 with lastTip := some 0 }
      ∧ ((after (.setTerminal m0 0 (.fields ⟨0, 2, 0, 1⟩)) (tipped 0)).rain.gauges.at_ 0).stuckDeadline = some ⟨110, 10⟩
      ∧ ((after (.setTerminal m0 0 (.fields ⟨0, 2, 0, 0⟩)) (tipped 0)).rain.gauges.at_ 0).stuckDeadline = none
      ∧ (after (.setTerminal m0 0 (.fields ⟨2, 0, 0, 0⟩)) stopAsserted).term.worksStop = false
      ∧ ((after (.setTerminal m0 0 (.fields ⟨2, 0, 0, 0⟩)) stopAsserted).order 0).map (fun o => (o.state, o.holds.worksStop))
        = some (.queued, false)
      ∧ (after (.setTerminal m0 0 (.fields ⟨2, 3, 0, 0⟩)) stopAsserted).term.worksStop = false
      ∧ ((after (.setTerminal m0 0 (.fields ⟨2, 3, 0, 1⟩)) (withOrder running)).order 0).map (fun o => (o.state, o.holds.worksStop))
        = some (.closing, true) := by decide +kernel

/-- The site with an alert level. -/
def alerted (a : Alert) : State := site.withRain { site.rain with alert := a }
/-- The site with both bays at 100 mm. -/
def drained (a : Alert) : State := ((alerted a).setLevel 0 (held 100 .good)).setLevel 1 (held 100 .good)

theorem test_meets_ModeSettlesByTheTable :
    filled site = true ∧ filled (drained .none) = false ∧ allEmpty site = false ∧ allEmpty (drained .none) = true ∧ spilling site = false
      ∧ spilling (inSpill .spilling) = true ∧ settledFrom site .dry = .recovery ∧ settledFrom (alerted .advisory) .watch = .storm
      ∧ settledFrom (drained .none) .watch = .dry ∧ settledFrom (drained .severe) .dry = .watch ∧ settledFrom (drained .none) .storm = .dry
      ∧ settledFrom site .storm = .recovery ∧ settledFrom (inSpill .spilling) .storm = .storm
      ∧ settledFrom (alerted .warning) .recovery = .storm ∧ settledFrom (alerted .advisory) .recovery = .recovery
      ∧ settledFrom (drained .advisory) .recovery = .watch ∧ settledFrom (drained .none) .recovery = .dry := by decide +kernel

theorem test_meets_ModeSettlesByTheTable_in_notices :
    settledFrom site site.mode = site.mode ∧ settledFrom (drained .none) (drained .none).mode ≠ (drained .none).mode
      ∧ told (evaluateMode site) = [] ∧ told (evaluateMode (drained .none)) = [(0, 100, .modeChanged .recovery .dry .site)]
      ∧ told (after (.setModeMaintenance m0 0) site) = [(0, 100, .modeChanged .recovery .maintenance .host)]
      ∧ told (after (.setModeAutomatic m0 0) (site.withMode .maintenance)) = [(0, 100, .modeChanged .maintenance .recovery .host)] := by
  decide +kernel

theorem test_meets_SetModeTakesEffect :
    site.mode ≠ .maintenance ∧ ((withOrder { orderIn .queued with source := .auto }).withMode .maintenance).mode = .maintenance
      ∧ (after (.setModeMaintenance m0 0) (withOrder { orderIn .queued with source := .auto })).order 0 = none
      ∧ ((after (.setModeMaintenance m0 0) (withOrder { running with source := .auto })).order 0).map (fun o => o.state) = some .closing
      ∧ (after (.setModeMaintenance m0 0) (withOrder (orderIn .held))).order 0 = some (orderIn .held)
      ∧ (after (.setModeAutomatic m0 0) (site.withMode .maintenance)).mode = .recovery := by decide +kernel

theorem test_meets_SoundJoinsOrMarks :
    (site.bay 0).enabled = true ∧ (site.bay 7).enabled = false ∧ (flying (flight .gating)).snd.engine = some (flight .gating)
      ∧ (flight .gating).bay = 0 ∧ site.snd.engine = none ∧ waitingEntry site 0 = some (freshEntry 0 105)
      ∧ (freshEntry 0 105).urgent = none ∧ (waitingEntry (flying (flight .gating)) 1).isSome = true
      ∧ resultOf (.sound m0 0 (.fields 8)) site = some .refusedRange ∧ resultOf (.sound m0 0 (.fields 7)) site = some .refusedUnconfigured
      ∧ ((after (.sound m0 0 (.fields 0)) site).snd.engine.map fun f => (f.bay, f.phase)) = some (0, .bursting)
      ∧ ((after (.sound m0 0 (.fields 1)) (flying (flight .gating))).snd.queue.map fun e => e.urgent) = [some 0]
      ∧ (after (.sound m0 0 (.fields 1)) ((after (.sound m0 0 (.fields 1)) (flying (flight .gating))).withPort site.port)).port.answering.map
        (fun r => r.body) = some (.sound .alreadyUrgent) := by decide +kernel

/-- The site with a forecast in slot 3. -/
def forecastIn (f : ForecastSlot) : State := site.withRain { site.rain with slots := site.rain.slots.put 3 f }

theorem test_meets_ForecastSlotsFollowTheirTimes :
    (forecastIn (.pending .severe 160 220)).rain.slots.at_ 3 = .pending .severe 160 220
      ∧ (forecastIn (.active .severe 40 220)).rain.slots.at_ 3 = .active .severe 40 220
      ∧ (after (.forecast m0 0 (.fields ⟨3, 3, 0, 1⟩)) site).rain.slots.at_ 3 = .active .severe 100 160
      ∧ (after (.forecast m0 0 (.fields ⟨3, 3, 0, 1⟩)) site).rain.alert = .severe
      ∧ (after (.forecast m0 0 (.fields ⟨3, 3, 1440, 2880⟩)) site).rain.slots.at_ 3 = .pending .severe 86500 259300
      ∧ (after (.forecast m0 0 (.fields ⟨3, 0, 0, 0⟩)) (forecastIn (.active .severe 40 220))).rain.slots.at_ 3 = .empty
      ∧ resultOf (.forecast m0 0 (.fields ⟨3, 3, 1441, 1⟩)) site = some .refusedRange
      ∧ resultOf (.forecast m0 0 (.fields ⟨3, 3, 0, 0⟩)) site = some .refusedRange
      ∧ resultOf (.forecast m0 0 (.fields ⟨3, 3, 0, 2881⟩)) site = some .refusedRange
      ∧ resultOf (.forecast m0 0 (.fields ⟨4, 3, 0, 1⟩)) site = some .refusedRange
      ∧ resultOf (.forecast m0 0 (.fields ⟨3, 4, 0, 1⟩)) site = some .refusedRange
      ∧ (after (.forecastSlotStart m0 3) (forecastIn (.pending .severe 160 220))).rain.slots.at_ 3 = .active .severe 160 220
      ∧ (after (.forecastSlotStart m0 3) (forecastIn (.pending .severe 160 220))).now = 160
      ∧ (after (.forecastSlotEnd m0 3) (forecastIn (.active .severe 40 220))).rain.slots.at_ 3 = .empty := by decide +kernel

/-- The site with tips in the current minute of gauge 0, and a state of rule 0. -/
def rainy (tips : Nat) (v : RuleVol) : State :=
  site.withRain { site.rain with
    gauges := site.rain.gauges.put 0 { GaugeVol.enabledAt 60 with history := tips :: List.replicate 59 0 }, rules := site.rain.rules.put 0 v }

/-- The site whose alert level is that of its one source, a rule in RAISED. -/
def raisedSite : State := (rainy 0 ⟨.raised, some 90⟩).withRain { (rainy 0 ⟨.raised, some 90⟩).rain with alert := .advisory }

theorem test_meets_ForecastSlotsFollowTheirTimes_in_notices :
    alertFromSources site = .none ∧ alertFromSources raisedSite = .advisory ∧ alertFromSources (forecastIn (.active .severe 40 220)) = .severe
      ∧ told (after (.forecast m0 0 (.fields ⟨3, 3, 0, 1⟩)) site)
        = [(3, 100, .alertChanged .none .severe .slot), (0, 100, .modeChanged .recovery .storm .site)]
      ∧ told (after (.forecast m0 0 (.fields ⟨3, 3, 1, 1⟩)) site) = []
      ∧ told (after (.forecast m0 0 (.fields ⟨3, 1, 0, 1⟩)) raisedSite) = []
      ∧ told (after (.setRule m0 0 (.fields { rule0 with level := 0 })) raisedSite) = [(0, 100, .alertChanged .advisory .none .rule)]
      ∧ told (after (.setRule m0 0 (.fields rule0)) site) = [] := by decide +kernel

theorem test_meets_RuleEvaluationFollowsTheTables :
    (site.image.rules.at_ 7).level = .none ∧ (site.image.rules.at_ 0).raise = 400 ∧ (site.image.rules.at_ 0).clear = 200
      ∧ (0 : Fin 4) ∈ (site.image.rules.at_ 0).gauges
      ∧ combinedDepth (rainy 2 ⟨.clear, none⟩) (site.image.rules.at_ 0) = some 400
      ∧ combinedDepth (rainy 1 ⟨.clear, none⟩) (site.image.rules.at_ 0) = some 200
      ∧ combinedDepth (rainy 0 ⟨.clear, none⟩) (site.image.rules.at_ 0) = some 0
      ∧ (evaluateFull (rainy 2 ⟨.fading, some 100⟩) 0).rain.rules.at_ 0 = ⟨.raised, some 700⟩
      ∧ (evaluateFull (rainy 1 ⟨.raised, some 90⟩) 0).rain.rules.at_ 0 = ⟨.raised, some 90⟩
      ∧ ((evaluateFull (rainy 0 ⟨.raised, some 90⟩) 0).rain.rules.at_ 0).state = .fading
      ∧ ((evaluateFull (rainy 0 ⟨.fading, some 100⟩) 0).rain.rules.at_ 0).state = .clear
      ∧ ((evaluateFull (rainy 0 ⟨.fading, some 101⟩) 0).rain.rules.at_ 0).state = .fading
      ∧ (evaluateRaising 0 (rainy 2 ⟨.clear, none⟩) 0).rain.rules.at_ 0 = ⟨.raised, some 700⟩ := by decide +kernel

theorem test_meets_RuleEvaluationFollowsTheTables_in_notices :
    (told (evaluateFull (rainy 2 ⟨.clear, none⟩) 0)).head? = some (0, 100, .alertChanged .none .advisory .rule)
      ∧ (told (evaluateRaising 0 (rainy 2 ⟨.clear, none⟩) 0)).head? = some (0, 100, .alertChanged .none .advisory .rule)
      ∧ told (evaluateFull raisedSite 0) = []
      ∧ evaluateFull (rainy 2 ⟨.raised, some 90⟩) 0 = rainy 2 ⟨.raised, some 90⟩
      ∧ evaluateFull (rainy 0 ⟨.clear, none⟩) 0 = rainy 0 ⟨.clear, none⟩ := by decide +kernel

theorem test_meets_RuleEvaluationFollowsTheTables_where_nothing_changes :
    (1 : Fin 4) ∉ (site.image.rules.at_ 0).gauges ∧ (site.image.rules.at_ 0).level ≠ .none
      ∧ evaluateRaising 1 (rainy 2 ⟨.clear, none⟩) 0 = rainy 2 ⟨.clear, none⟩
      ∧ evaluateRaising 0 (rainy 2 ⟨.disarmed, none⟩) 7 = rainy 2 ⟨.disarmed, none⟩
      ∧ (evaluateFull (rainy 0 ⟨.fading, some 100⟩) 0).rain.rules.at_ 0 = ⟨.clear, some 100⟩ := by decide +kernel

theorem test_meets_TipsAndRollsAreCounted :
    (site.image.terminals.at_ 0).function = .gauge 0 ∧ m0.pins.getLsbD 0 = site.term.debounced.getLsbD 0
      ∧ m0.pins.getLsbD 0 ≠ allHigh.term.debounced.getLsbD 0 ∧ (high 0).pins.getLsbD 0 ≠ site.term.debounced.getLsbD 0
      ∧ inputActive (takeRawLevel 0 (arrive (high 0) site)) 0 = true ∧ inputActive (takeRawLevel 0 (arrive m0 allHigh)) 0 = false
      ∧ usable site 0 = true ∧ inDeadTime (arrive (high 0) site) 0 = false ∧ inDeadTime (arrive (high 0) (tipped 99920000)) 0 = false
      ∧ inDeadTime (arrive (high 0) (tipped 99920001)) 0 = true
      ∧ ((after (.debounceComplete (high 0) 0) (tipped 99920000)).rain.gauges.at_ 0).total = 1
      ∧ ((after (.debounceComplete (high 0) 0) (tipped 99920001)).rain.gauges.at_ 0).total = 0
      ∧ ((after (.debounceComplete (high 0) 0) site).rain.gauges.at_ 0).stuckDeadline = some ⟨110, 10⟩
      ∧ ((tipped 0).rain.gauges.at_ 0).stuckDeadline = some ⟨105, 7⟩ ∧ terminalOf site (.gauge 0) = some 0
      ∧ ((after (.gaugeStuckDeadline m0 0) (tipped 0)).rain.gauges.at_ 0).stuck = true
      ∧ ((after (.gaugeStuckDeadline m0 0) (tipped 0)).port.notices.getLast?.map fun n => n.detail) = some (.rainGaugeStuck 0 7)
      ∧ ((after (.minuteRoll m0) (rainy 2 ⟨.clear, none⟩)).rain.gauges.at_ 0).history.take 2 = [0, 2]
      ∧ ((after (.minuteRoll m0) (rainy 2 ⟨.clear, none⟩)).rain.rules.at_ 0).state = .raised
      ∧ ((after (.debounceComplete (high 0) 0) (rainy 1 ⟨.clear, none⟩)).rain.rules.at_ 0).state = .raised
      ∧ ((after (.debounceComplete (high 0) 0) (rainy 0 ⟨.clear, none⟩)).rain.rules.at_ 0).state = .clear := by decide +kernel

theorem test_meets_FloatAndWorksStopEdgesTakeEffect :
    (site.image.terminals.at_ 1).function = .float 0 ∧ (high 1).pins.getLsbD 1 ≠ site.term.debounced.getLsbD 1
      ∧ m0.pins.getLsbD 1 ≠ allHigh.term.debounced.getLsbD 1 ∧ inputActive (takeRawLevel 1 (arrive (high 1) site)) 1 = true
      ∧ (after (.debounceComplete (high 1) 1) (site.setLevel 0 (held 2000 .stale))).level 0 = { held 3900 .float with value := some 3900 }
      ∧ ((after (.debounceComplete m0 1) (allHigh.setLevel 0 (held 3900 .float))).level 0).quality = .stale
      ∧ (site.image.terminals.at_ 2).function = .worksStop
      ∧ ((after (.debounceComplete (high 2) 2) (withOrder running)).order 0).map (fun o => (o.state, o.closing, o.holds.worksStop))
        = some (.closing, some .worksStop, true)
      ∧ ((after (.debounceComplete (high 2) 2) (withOrder (orderIn .queued))).order 0).map (fun o => o.state) = some .held
      ∧ ((after (.debounceComplete m0 2) (allHigh.setOrder 0 (some { orderIn .held with holds := ⟨true, false, false⟩ }))).order 0).map
        (fun o => (o.state, o.holds)) = some (.queued, ⟨false, false, false⟩) := by decide +kernel

/-- The site as works-stop becomes asserted, with an order of bay 0, and one of bay 1 that opens with a credit. -/
def assertedOn (o : Order) : State :=
  after (.debounceComplete (high 2) 2) ((withOrder o).setOrder 1 (some { orderIn .opening with credit := true }))

theorem test_meets_FloatAndWorksStopEdgesTakeEffect_at_an_assertion :
    (assertedOn running).order 0 = some
        { running with holds := ⟨true, false, false⟩, state := .closing, closing := some .worksStop, credit := false, lot := none }
      ∧ (assertedOn (orderIn .queued)).order 0 = some { orderIn .held with holds := ⟨true, false, false⟩ }
      ∧ (assertedOn (orderIn .held)).order 0 = some { orderIn .held with holds := ⟨true, false, false⟩ }
      ∧ (assertedOn { orderIn .closing with closing := some .gap }).order 0
        = some { orderIn .closing with closing := some .gap, holds := ⟨true, false, false⟩ }
      ∧ (assertedOn { orderIn .suspect with reshut := true }).order 0
        = some { orderIn .suspect with reshut := true, holds := ⟨true, false, false⟩ }
      ∧ (assertedOn running).drn.counters.forfeited = 2 ∧ (assertedOn (orderIn .queued)).drn.counters.forfeited = 1 := by decide +kernel

theorem test_meets_FloatAndWorksStopEdgesTakeEffect_in_the_order_of_the_bays :
    (∀ y, y ≠ 0 → (site.bay y).device ≠ some 0) ∧ site.act.queue = []
      ∧ (assertedOn running).act.current.map (fun c => (c.device, c.command, c.orig)) = some (0, .release, .order 0)
      ∧ (assertedOn running).act.queue = [⟨1, .release, .order 1, none⟩] := by decide +kernel

/-- The site under works-stop, with an order held by it for each bay, bay 0 of the worse rank: the order of bay 0 is done where its level is at
its target, and bay 0, without an auto-inhibit flag, is a candidate of the planner then. -/
def bothHeld (target : Nat) : State :=
  let o := { orderIn .held with holds := ⟨true, false, false⟩ }
  { allHigh with image := { siteImage with bays := siteImage.bays.put 0 (siteBay 0 0 5) }, inhibit := allHigh.inhibit.put 0 none
                 drn := { allHigh.drn with
                   grants := [⟨3, 400⟩]
                   orders := (allHigh.drn.orders.put 0 (some { o with target := target })).put 1 (some o) } }

theorem test_meets_FloatAndWorksStopEdgesTakeEffect_at_a_release :
    (∀ b, testRetires (worksStopFrees (takeRawLevel 2 (arrive m0 (bothHeld 100)))) b = false)
      ∧ ((after (.debounceComplete m0 2) (bothHeld 100)).order 0).map (fun o => (o.source, o.state)) = some (.host, .queued)
      ∧ ((after (.debounceComplete m0 2) (bothHeld 100)).order 1).map (fun o => o.state) = some .opening
      ∧ ((after (.debounceComplete m0 2) (bothHeld 2000)).order 0).map (fun o => (o.source, o.state)) = some (.auto, .queued)
      ∧ ((after (.debounceComplete m0 2) (bothHeld 2000)).order 1).map (fun o => o.state) = some .opening := by decide +kernel

theorem test_meets_ClosePeriodMovesTheSet :
    (site.outfall 0).configured = true ∧ (site.outfall 3).configured = false
      ∧ resultOf (.closePeriod m0 0 (.fields 4)) site = some .refusedRange
      ∧ resultOf (.closePeriod m0 0 (.fields 3)) site = some .refusedUnconfigured
      ∧ ((after (.closePeriod m0 0 (.fields 0)) site).ret.counts.at_ 0).current = PeriodSet.begin_ 100 := by decide +kernel

theorem test_meets_SpillStateFollowsTheHead :
    outfallOf site 0 = some 0 ∧ (site.outfall 0).configured = true ∧ (inSpill .blind).spillState 0 = .blind
      ∧ (openSpillOf (inSpill .spilling) 0).isSome = true ∧ site.ret.nextId = some 1 ∧ site.ret.log.length < 48
      ∧ spillAcceptance 0 4004 100 none site = site ∧ (spillAcceptance 0 4005 100 none site).spillState 0 = .spilling
      ∧ (spillAcceptance 0 4005 100 none site).ret.log.map (fun e => e.id) = [1]
      ∧ ((spillAcceptance 0 4005 100 none site).ret.counts.at_ 0).blockEnd = 43300
      ∧ (spillAcceptance 0 3995 100 (some 90) (inSpill .spilling)).spillState 0 = .spilling
      ∧ (spillAcceptance 0 3994 100 (some 90) (inSpill .spilling)).spillState 0 = .tailing 100 400
      ∧ (spillAcceptance 0 4004 100 (some 90) (inSpill (.tailing 90 390))).spillState 0 = .tailing 90 390
      ∧ (spillAcceptance 0 4005 100 (some 90) (inSpill (.tailing 90 390))).spillState 0 = .spilling
      ∧ (spillAcceptance 0 4004 100 (some 90) (inSpill .blind)).spillState 0 = .tailing 100 400
      ∧ (openSpillOf (spillAcceptance 0 4040 100 (some 30) (inSpill .spilling)) 0).map (fun o => (o.peak, o.volume)) = some (40, 72)
      ∧ ((spillAcceptance 0 4040 100 (some 30) (inSpill .spilling)).spill.at_ 0).remainder = 7
      ∧ (openSpillOf (spillAcceptance 0 4040 100 (some 30) (inSpill .blind)) 0).map (fun o => (o.peak, o.volume)) = some (40, 0) := by
  decide +kernel

theorem test_meets_SpillDeadlinesAndLosses :
    outfallOf site 0 = some 0 ∧ site.spillState 0 = .quiet ∧ (inSpill .spilling).spillState 0 = .spilling ∧ openId (inSpill .blind) 0 = some 1
      ∧ (spillLoss 0 (inSpill .spilling)).spillState 0 = .blind
      ∧ (openSpillOf (spillLoss 0 (inSpill .spilling)) 0).map (fun o => o.gap) = some true
      ∧ (inSpill (.tailing 90 390)).spillState 0 = .tailing 90 390
      ∧ (after (.tailDeadline m0 0) (inSpill (.tailing 90 390))).spill.at_ 0 = ⟨.quiet, 0⟩
      ∧ (after (.tailDeadline m0 0) (inSpill (.tailing 90 390))).now = 390
      ∧ ((after (.tailDeadline m0 0) (inSpill (.tailing 90 390))).ret.counts.at_ 0).current.duration = 10
      ∧ (after (.tailDeadline m0 0) (inSpill .spilling)).spillState 0 = .spilling
      ∧ ((after (.blockEndReached m0 0) (inSpill .spilling)).ret.counts.at_ 0).current.dryBlocks = 1
      ∧ ((after (.blockEndReached m0 0) (inSpill (.tailing 90 390))).ret.counts.at_ 0).current.blocks = 0 := by decide +kernel

/-- The site with its line 0 active, and a second ALARM terminal of it, high when active. -/
def alarming : State :=
  (site.withImage { siteImage with terminals := siteImage.terminals.put 10 ⟨.alarm 0, .activeHigh⟩ }).withTerm
    { site.term with lineActive := site.term.lineActive.put 0 true }

theorem test_meets_EveryStepKeepsAlarmLines_at_the_pins :
    (site.image.terminals.at_ 11) = ⟨.alarm 0, .activeLow⟩ ∧ (site.image.terminals.at_ 0).function = .gauge 0
      ∧ AlarmsFollow (site.withRun .stopped) ∧ AlarmsFollow (alarming.withRun .restarting)
      ∧ pinDrive site 0 = none ∧ pinDrive site 3 = none ∧ pinDrive site 11 = some true ∧ pinDrive alarming 11 = some false
      ∧ pinDrive alarming 10 = some true ∧ pinDrive (alarming.withRun .restarting) 10 = some true
      ∧ pinDrive (alarming.withRun .restarting) 11 = some false ∧ pinDrive (alarming.withRun .stopped) 10 = none
      ∧ pinDrive (after (.mainPowerFail m0) site) 11 = none
      ∧ pinDrive (after (.start ⟨m0, none⟩) (after (.mainPowerFail m0) site)) 11 = some true :=
  ⟨rfl, rfl, fun h => absurd h (by decide), fun h => absurd h (by decide), by decide +kernel⟩

/-- The site with a log that takes no more records, 48 of them or the ids exhausted, and a closed aggregate of outfall 0 or none. -/
def crowded (full : Bool) (slot : Option SpillRecord) : State :=
  site.withRet { site.ret with
    log := if full then (List.range 48).map fun i => ⟨i + 1, { newRecord site 0 80 .dry 20 with openSpill := none }⟩ else []
    nextId := if full then some 49 else none, slots := site.ret.slots.put 0 slot }

/-- A closed aggregate of two spills of outfall 0. -/
def aggregate : SpillRecord :=
  { newAggregate site 0 80 .rain 20 with openSpill := none, merged := 2, blocks := 3, finish := some 90, cause := some .ended, duration := 10 }

/-- The site in a tail of a spill that its slot's aggregate holds, with a log that takes no more records or takes them. -/
def tailingAggregate (full : Bool) : State :=
  let s := if full then crowded true none else site
  let open_ := { aggregate with openSpill := some ⟨70, .rain, 20, 5, 1, false⟩, finish := none, cause := none }
  (s.withSpill (s.spill.put 0 { state := .tailing 90 390, remainder := 7 })).withRet { s.ret with slots := s.ret.slots.put 0 (some open_) }

theorem test_meets_SpillDeadlinesAndLosses_in_an_aggregate :
    openId (tailingAggregate true) 0 = none ∧ openId (tailingAggregate false) 0 = none
      ∧ (tailingAggregate true).spillState 0 = .tailing 90 390 ∧ (openSpillOf (tailingAggregate true) 0).isSome = true
      ∧ ((tailingAggregate true).ret.slots.at_ 0).isSome = true
      ∧ ((after (.tailDeadline m0 0) (tailingAggregate true)).ret.slots.at_ 0).map (fun r => (r.duration, r.finish, r.cause, r.openSpill.isSome))
        = some (30, some 90, some .ended, false)
      ∧ (after (.tailDeadline m0 0) (tailingAggregate true)).ret.log.length = 48
      ∧ (after (.tailDeadline m0 0) (tailingAggregate false)).ret.slots.at_ 0 = none
      ∧ (after (.tailDeadline m0 0) (tailingAggregate false)).ret.log.map (fun e => (e.id, e.record.duration, e.record.cause))
        = [(1, 30, some .ended)] := by decide +kernel

theorem test_meets_SpillStateFollowsTheHead_without_room :
    48 ≤ (crowded true none).ret.log.length ∧ (crowded false none).ret.nextId = none
      ∧ (∀ e ∈ (crowded true none).ret.log, e.record.isOpenOf 0 = false)
      ∧ (spillAcceptance 0 4005 100 none (crowded true none)).ret.slots.at_ 0
        = some { newAggregate site 0 100 .dry 5 with
            blocks := 1, openSpill := some { start := 100, cls := .dry, peak := 5, volume := 0, blocks := 1, gap := false } }
      ∧ ((spillAcceptance 0 4005 100 none (crowded false (some aggregate))).ret.slots.at_ 0).map
        (fun r => (r.merged, r.cls, r.peak, r.blocks)) = some (3, .dry, 20, 4)
      ∧ (spillAcceptance 0 4005 100 none (crowded true (some aggregate))).ret.log.length = 48
      ∧ (spillAcceptance 0 4005 100 none (crowded false none)).ret.nextId = none := by decide +kernel

/-- The site in a tail, with its count block ending at a second. -/
def tailUntil (blockEnd : Nat) : State :=
  (inSpill (.tailing 90 390)).setCounts 0 { (inSpill (.tailing 90 390)).ret.counts.at_ 0 with blockEnd := blockEnd }

theorem test_meets_SpillStateFollowsTheHead_at_a_return :
    (spillAcceptance 0 4005 100 (some 90) (tailUntil 101)).ret.counts = (tailUntil 101).ret.counts
      ∧ ((spillAcceptance 0 4005 100 (some 90) (tailUntil 100)).ret.counts.at_ 0).blockEnd = 43300
      ∧ ((spillAcceptance 0 4005 100 (some 90) (tailUntil 100)).ret.counts.at_ 0).current.dryBlocks = 1
      ∧ (openSpillOf (spillAcceptance 0 4005 100 (some 90) (tailUntil 100)) 0).map (fun o => o.blocks) = some 1
      ∧ (spillAcceptance 0 4004 100 (some 90) (tailUntil 100)).ret.counts = (tailUntil 100).ret.counts := by decide +kernel

/-- A log with room for one record, and otherwise the state as it is. -/
def withRoom (s : State) : State := s.withRet { s.ret with log := s.ret.log.take 47, nextId := some 48 }

theorem test_meets_SpillStateFollowsTheHead_in_notices :
    (withRoom (crowded true none)).ret.log.length = 47 ∧ (∀ e ∈ site.ret.log, e.record.isOpenOf 0 = false)
      ∧ (∀ e ∈ (withRoom (crowded true none)).ret.log, e.record.isOpenOf 0 = false)
      ∧ (told (spillAcceptance 0 4005 100 none site)).head? = some (0, 100, .spillStarted (some 1) .dry .opened 5)
      ∧ (told (spillAcceptance 0 4005 100 none (site.setCounts 0 { site.ret.counts.at_ 0 with blockEnd := 101 }))).head?
        = some (0, 100, .spillStarted (some 1) .dry .merged 5)
      ∧ (told (spillAcceptance 0 4005 100 none (crowded true none))).head? = some (0, 100, .spillStarted none .dry .opened 5)
      ∧ (told (spillAcceptance 0 4005 100 none (withRoom (crowded true none)))).take 2
        = [(0, 100, .logFull 48 47 1), (0, 100, .spillStarted (some 48) .dry .opened 5)]
      ∧ told (spillAcceptance 0 4005 100 (some 90) (tailUntil 100)) = [(0, 100, .blockCarried (some 1) 43200 1)]
      ∧ told (spillAcceptance 0 4005 100 (some 90) (tailUntil 101)) = [] := by decide +kernel

theorem test_meets_SpillStateFollowsTheHead_in_blocks :
    ((spillAcceptance 0 4005 100 none site).ret.log.map fun e => (e.record.blocks, e.record.openSpill.map fun o => o.blocks)) = [(1, some 1)]
      ∧ ((spillAcceptance 0 4005 100 none (site.setCounts 0 { site.ret.counts.at_ 0 with blockEnd := 101 })).ret.log.map fun e =>
        (e.record.blocks, e.record.openSpill.map fun o => o.blocks)) = [(0, some 0)]
      ∧ (spillAcceptance 0 4005 100 (some 90) (inSpill .blind)).ret.counts = (inSpill .blind).ret.counts
      ∧ (spillAcceptance 0 4004 100 (some 90) (inSpill .blind)).ret.counts = (inSpill .blind).ret.counts
      ∧ (openSpillOf (spillAcceptance 0 4005 100 (some 90) (inSpill .blind)) 0).map (fun o => o.blocks) = some 0 := by decide +kernel

/-- Figures of a record. -/
structure Figures where
  volume : Nat
  peak : Nat
  blocks : Nat
  finish : Option Nat
  deriving DecidableEq

/-- The figures of the records in the log, and of the aggregate of outfall 0. -/
def figures (s : State) : List Figures :=
  (s.ret.log.map (fun e => e.record) ++ (s.ret.slots.at_ 0).toList).map fun r => ⟨r.volume, r.peak, r.blocks, r.finish⟩

theorem test_meets_SpillStateFollowsTheHead_in_the_record :
    figures (spillAcceptance 0 4040 100 (some 30) (inSpill .spilling)) = [⟨72, 40, 0, none⟩]
      ∧ figures (spillAcceptance 0 4040 100 (some 30) (inSpill .blind)) = [⟨0, 40, 0, none⟩]
      ∧ figures (spillAcceptance 0 4005 100 (some 90) (tailUntil 100)) = [⟨1, 20, 1, none⟩]
      ∧ figures (spillAcceptance 0 4040 100 (some 30) (tailingAggregate false)) = [⟨72, 40, 4, none⟩]
      ∧ (spillAcceptance 0 4005 100 none site).ret.nextId = some 2 := by decide +kernel

theorem test_meets_SpillDeadlinesAndLosses_in_notices :
    told (after (.tailDeadline m0 0) (inSpill (.tailing 90 390))) = [(0, 90, .spillEnded (some 1) .ended 0)]
      ∧ told (after (.tailDeadline m0 0) (tailingAggregate true)) = [(0, 90, .spillEnded none .ended 0)]
      ∧ told (after (.tailDeadline m0 0) (withRoom (tailingAggregate true)))
        = [(0, 390, .logFull 48 47 0), (0, 90, .spillEnded none .ended 0)]
      ∧ told (after (.blockEndReached m0 0) (inSpill .blind)) = [(0, 0, .blockCarried (some 1) 43200 1)]
      ∧ told (after (.blockEndReached m0 0) (inSpill (.tailing 90 390))) = [] := by decide +kernel

theorem test_meets_SpillDeadlinesAndLosses_in_the_record :
    ((spillLoss 0 (inSpill .spilling)).ret.log.map fun e => e.record.gap) = [true]
      ∧ ((spillLoss 0 (tailingAggregate true)).ret.slots.at_ 0).map (fun r => r.gap) = some true
      ∧ figures (after (.blockEndReached m0 0) (inSpill .blind)) = [⟨0, 20, 1, none⟩]
      ∧ figures (after (.tailDeadline m0 0) (inSpill (.tailing 90 390))) = [⟨0, 20, 0, some 90⟩]
      ∧ (after (.tailDeadline m0 0) (tailingAggregate false)).ret.counts = site.ret.counts.put 0
        (periodCredited 90 ⟨70, .rain, 20, 5, 1, false⟩ (site.ret.counts.at_ 0))
      ∧ ((after (.tailDeadline m0 0) (tailingAggregate false)).ret.counts.at_ 0).current.volume = 5 := by decide +kernel

/-- A spill record, closed, and as an aggregate. -/
def closedRecord : SpillRecord :=
  { newRecord site 0 80 .dry 20 with openSpill := none, finish := some 90, cause := some .ended, duration := 10 }
/-- The site with two records in the log, of which the second is open, and a closed aggregate of outfall 1 or none. -/
def logged (slot : Option SpillRecord) : State :=
  site.withRet { site.ret with
    log := [⟨1, closedRecord⟩, ⟨2, newRecord site 0 95 .dry 20⟩], nextId := some 3, slots := site.ret.slots.put 1 slot }

theorem test_meets_ReleaseSpillsEmptiesTheOldestEnd :
    PortFree (logged none) ∧ (∀ k : Fin 4, (logged none).ret.slots.at_ k = none)
      ∧ (after (.releaseSpills m0 0 (.fields 4294967295)) (logged none)).ret.log.map (fun e => e.id) = [2]
      ∧ (after (.releaseSpills m0 0 (.fields 0)) (logged none)).ret.log.map (fun e => e.id) = [1, 2]
      ∧ (after (.releaseSpills m0 0 (.fields 1)) (logged (some { closedRecord with outfall := 1, aggregate := true, merged := 2 }))).ret.log.map
        (fun e => e.id) = [2, 3] := ⟨⟨rfl, rfl, rfl⟩, by decide +kernel⟩

/-- The aggregate of outfall 0, first begun at 85, waits beside that of outfall 1, first begun at 80. -/
def twoWait (s : State) : State :=
  s.withRet { s.ret with slots := (s.ret.slots.put 0 (some { aggregate with firstStart := 85 })).put 1 (some { aggregate with outfall := 1 }) }

theorem test_meets_ReleaseSpillsEmptiesTheOldestEnd_with_aggregates :
    PortFree (twoWait (logged none))
      ∧ (transferTest (twoWait site)).1.ret.log.map (fun e => (e.id, e.record.outfall, e.record.firstStart)) = [(1, 1, 80), (2, 0, 85)]
      ∧ (transferTest (twoWait site)).1.ret.slots = Tab.all 4 none ∧ (transferTest (twoWait site)).1.ret.nextId = some 3
      ∧ (transferTest (twoWait (crowded true none))).2 = 0
      ∧ (transferTest (twoWait ((crowded false none).withRet { (crowded false none).ret with nextId := some 4294967295 }))).1.ret.nextId = none
      ∧ (after (.releaseSpills m0 0 (.fields 1)) (twoWait (crowded true none))).ret.log.getLast?.map (fun e => (e.id, e.record.outfall))
        = some (49, 1)
      ∧ ((after (.releaseSpills m0 0 (.fields 1)) (twoWait (crowded true none))).ret.slots.at_ 0).map (fun r => r.firstStart) = some 85
      ∧ ((after (.releaseSpills m0 0 (.fields 1)) (twoWait (crowded true none))).port.notices.getLast?.map fun n => n.detail)
        = some (.logFull 49 47 0)
      ∧ (after (.releaseSpills m0 0 (.fields 1)) (twoWait (logged none))).port.answering.map (fun r => r.body)
        = some (.released { removed := 1, transferred := 2, oldest := some 2, oldestOpen := some 2 }) :=
  ⟨⟨rfl, rfl, rfl⟩, by decide +kernel⟩

/-- The site with some grants. -/
def granted (gs : List Grant) (armed : Bool) : State := site.withDrn { site.drn with grants := gs, armed := armed }

theorem test_meets_CreditsComeAndGo :
    PortFree (granted [⟨2, 160⟩, ⟨5, 400⟩] true) ∧ grantsWf [⟨2, 160⟩, ⟨5, 400⟩]
      ∧ (∀ g ∈ [(⟨2, 160⟩ : Grant)], g.expiry ≤ 100 + 1 * 60) ∧ (∀ g ∈ [(⟨5, 400⟩ : Grant)], 100 + 1 * 60 < g.expiry)
      ∧ (List.replicate 8 (⟨1, 160⟩ : Grant)).length = 8 ∧ resultOf (.grant m0 0 (.fields ⟨0, 1⟩)) site = some .refusedRange
      ∧ resultOf (.grant m0 0 (.fields ⟨255, 1440⟩)) site = some .ok ∧ resultOf (.grant m0 0 (.fields ⟨1, 1441⟩)) site = some .refusedRange
      ∧ resultOf (.grant m0 0 (.fields ⟨1, 1⟩)) (granted (List.replicate 8 ⟨1, 160⟩) true) = some .refusedFull
      ∧ (after (.grant m0 0 (.fields ⟨1, 1⟩)) (granted [⟨2, 160⟩, ⟨5, 400⟩] true)).drn.grants = [⟨2, 160⟩, ⟨1, 160⟩, ⟨5, 400⟩]
      ∧ resultOf (.withdraw m0 0 (.fields 0)) site = some .refusedRange ∧ resultOf (.withdraw m0 0 (.fields 2041)) site = some .refusedRange
      ∧ resultOf (.withdraw m0 0 (.fields 2040)) site = some .ok
      ∧ (after (.withdraw m0 0 (.fields 1)) (granted [⟨2, 160⟩, ⟨5, 400⟩] true)).drn.grants = [⟨2, 160⟩, ⟨4, 400⟩]
      ∧ (after (.withdraw m0 0 (.fields 5)) (granted [⟨2, 160⟩, ⟨5, 400⟩] true)).drn.grants = [⟨2, 160⟩]
      ∧ (after (.withdraw m0 0 (.fields 65535)) (granted [⟨2, 160⟩, ⟨5, 400⟩] true)).drn.grants = []
      ∧ (after (.grantExpiry m0) (granted [⟨2, 160⟩, ⟨5, 400⟩] true)).drn.grants = [⟨5, 400⟩]
      ∧ (after (.grantExpiry m0) (granted [⟨2, 160⟩, ⟨5, 400⟩] true)).drn.counters.expired = 2 :=
  ⟨⟨rfl, rfl, rfl⟩, ⟨by decide, by decide, by decide⟩, by decide +kernel⟩

/-- The site with a queued order for each bay, and some grants. -/
def queuedBoth (gs : List Grant) : State := ((granted gs true).setOrder 0 (some (orderIn .queued))).setOrder 1 (some (orderIn .queued))

theorem test_meets_SlotGrantServesByRank :
    eligible (queuedBoth [⟨1, 400⟩]) 0 = true ∧ eligibleBays (queuedBoth []) = [0, 1]
      ∧ (∀ x, eligible (queuedBoth [⟨1, 400⟩]) x = true → x ≠ 0 →
        ((queuedBoth [⟨1, 400⟩]).bay 0).rank < ((queuedBoth [⟨1, 400⟩]).bay x).rank)
      ∧ (∀ x, eligible (queuedBoth []) x = true → x ≠ 0 → ((queuedBoth []).bay 0).rank < ((queuedBoth []).bay x).rank)
      ∧ freeSlots (queuedBoth [⟨1, 400⟩]) = 1 ∧ pool (queuedBoth [⟨1, 400⟩]) = 1 ∧ pool (queuedBoth []) = 0
      ∧ (queuedBoth []).drn.armed = true ∧ eligibleBays site = [] ∧ freeSlots (withOrder running) = 0
      ∧ ((slotGrant (queuedBoth [⟨1, 400⟩])).order 0).map (fun o => (o.state, o.credit)) = some (.opening, true)
      ∧ ((slotGrant (queuedBoth [⟨1, 400⟩])).order 1).map (fun o => o.state) = some .queued
      ∧ (slotGrant (queuedBoth [])).drn.armed = false ∧ (slotGrant (queuedBoth [])).port.notices.length = 2 := by decide +kernel

theorem test_meets_SlotGrantServesByRank_in_credits_and_orders :
    ((queuedBoth []).bay 0).device = some 0 ∧ (∀ x, x ≠ 0 → ((queuedBoth []).bay x).device ≠ some 0)
      ∧ (slotGrant (queuedBoth [⟨1, 400⟩])).drn.counters.consumed = 1 ∧ (slotGrant (queuedBoth [⟨1, 400⟩])).drn.grants = []
      ∧ (slotGrant (queuedBoth [⟨2, 400⟩, ⟨1, 500⟩])).drn.grants = [⟨1, 400⟩, ⟨1, 500⟩]
      ∧ (slotGrant (queuedBoth [⟨1, 400⟩])).act.current.map (fun c => (c.device, c.command, c.orig)) = some (0, .engage, .order 0)
      ∧ (slotGrant ((queuedBoth [⟨1, 400⟩]).withAct (busy (onLine 2 .query .query)).act)).act.queue = [⟨0, .engage, .order 0, none⟩]
      ∧ (slotGrant ((queuedBoth [⟨1, 400⟩]).withImage { siteImage with
          bays := siteImage.bays.put 0 { siteBay 0 0 0 with device := none } })).act = site.act := by decide +kernel

theorem test_meets_DrainCreatesOrUpdatesAnOrder :
    (site.bay 0).enabled = true ∧ (site.bay 0).device.isSome = true ∧ site.order 0 = none
      ∧ resultOf (.drain m0 0 (.fields ⟨8, 0, 0⟩)) site = some .refusedRange ∧ resultOf (.drain m0 0 (.fields ⟨0, 0, 99⟩)) site = some .refusedRange
      ∧ resultOf (.drain m0 0 (.fields ⟨0, 0, 4001⟩)) site = some .refusedRange
      ∧ resultOf (.drain m0 0 (.fields ⟨0, 255, 100⟩)) site = some .accepted ∧ resultOf (.drain m0 0 (.fields ⟨0, 0, 4000⟩)) site = some .accepted
      ∧ resultOf (.drain m0 0 (.fields ⟨7, 0, 0⟩)) site = some .refusedUnconfigured
      ∧ (after (.drain m0 0 (.fields ⟨0, 0, 0⟩)) site).order 0 = some { orderIn .queued with lots := 0 }
      ∧ (after (.drain m0 0 (.fields ⟨0, 0, 0⟩)) site).port.answering.map (fun r => r.body) = some (.drain (some .queued))
      ∧ (after (.drain m0 0 (.fields ⟨0, 0, 2000⟩)) site).port.answering.map (fun r => r.body) = some (.drain none)
      ∧ (after (.drain m0 0 (.fields ⟨0, 0, 2000⟩)) (site.withInhibit (Tab.all 8 none))).port.answering.map (fun r => r.body)
        = some (.drain none)
      ∧ ((after (.drain m0 0 (.fields ⟨0, 0, 2000⟩)) (site.withInhibit (Tab.all 8 none))).order 0).map (fun o => o.source) = some .auto
      ∧ resultOf (.drain m0 0 (.fields ⟨0, 1, 200⟩)) (withOrder running) = some .ok
      ∧ resultOf (.drain m0 0 (.fields ⟨0, 1, 200⟩)) (withOrder (orderIn .suspect)) = some .refusedState := by decide +kernel

theorem test_meets_StopDrainCancels :
    resultOf (.stopDrain m0 0 (.fields 8)) site = some .refusedRange ∧ resultOf (.stopDrain m0 0 (.fields 7)) site = some .refusedUnconfigured
      ∧ resultOf (.stopDrain m0 0 (.fields 0)) site = some .refusedState
      ∧ resultOf (.stopDrain m0 0 (.fields 0)) (withOrder (orderIn .suspect)) = some .refusedState
      ∧ (after (.stopDrain m0 0 (.fields 0)) (withOrder (orderIn .queued))).order 0 = none
      ∧ ((after (.stopDrain m0 0 (.fields 0)) (withOrder running)).order 0).map (fun o => (o.state, o.closing, o.credit))
        = some (.closing, some .cancel, false)
      ∧ (after (.stopDrain m0 0 (.fields 0)) (withOrder running)).drn.counters.forfeited = 1
      ∧ ((after (.stopDrain m0 0 (.fields 0)) (withOrder { orderIn .closing with closing := some .gap })).order 0).map (fun o => o.closing)
        = some (some .cancel)
      ∧ ((after (.stopDrain m0 0 (.fields 0)) (withOrder { orderIn .closing with closing := some .done })).order 0).map (fun o => o.closing)
        = some (some .done)
      ∧ (after (.stopDrain m0 0 (.fields 0)) (withOrder (orderIn .queued))).inhibit.at_ 0 = some .stopDrain := by decide +kernel

theorem test_meets_StopDrainCancels_in_notices_and_commands :
    lastNotice (after (.stopDrain m0 0 (.fields 0)) (withOrder { orderIn .held with done := 1, total := 7 }))
        = some (.drainCancelled { lots := 1, total := 7, cause := .host, failure := none, closing := none })
      ∧ (∀ y, y ≠ 0 → ((withOrder running).bay y).device ≠ some 0)
      ∧ (after (.stopDrain m0 0 (.fields 0)) (withOrder running)).act.current.map (fun c => (c.device, c.command, c.orig))
        = some (0, .release, .order 0)
      ∧ ((after (.stopDrain m0 0 (.fields 0)) ((withOrder running).withAct (busy (onLine 2 .query .query)).act)).act.queue)
        = [⟨0, .release, .order 0, none⟩]
      ∧ told (after (.stopDrain m0 0 (.fields 0)) (withOrder { orderIn .closing with closing := some .done })) = [] := by decide +kernel

theorem test_meets_LotsEndByVolumeTargetOrTime :
    (withOrder running).order 0 = some running ∧ running.state = .running ∧ running.lot = some ⟨1500, 90, 990, 0⟩
      ∧ site.order 0 = none ∧ (withOrder running).image.drain.lotVolume = 500
      ∧ ((after (.lotDeadline m0 0) (withOrder running)).order 0).map (fun o => (o.state, o.closing)) = some (.closing, some .stalled)
      ∧ ((lotProgress 0 1501 1001 (withOrder running)).order 0).map (fun o => (o.state, o.lot)) = some (.running, some ⟨1500, 90, 990, 499⟩)
      ∧ ((lotProgress 0 100 1001 (withOrder running)).order 0).map (fun o => (o.closing, o.total, o.done)) = some (some .done, 499, 0)
      ∧ ((lotProgress 0 101 1000 (withOrder running)).order 0).map (fun o => (o.closing, o.total, o.done)) = some (some .gap, 500, 1)
      ∧ ((lotProgress 0 101 1000 (withOrder { running with lots := 1 })).order 0).map (fun o => o.closing) = some (some .done)
      ∧ ((lotProgress 0 101 1000 ((granted [⟨1, 400⟩] true).setOrder 0 (some running))).order 0).map (fun o => (o.state, o.credit, o.lot))
        = some (.running, true, some ⟨1000, 100, 1000, 0⟩) := by decide +kernel

/-- The command on the line with its device and its originator. -/
def current (s : State) : Option (Fin 16 × LineCommand × Originator) := s.act.current.map fun c => (c.device, c.command, c.orig)

theorem test_meets_LotsEndByVolumeTargetOrTime_in_commands :
    (site.bay 0).device = some 0 ∧ current (after (.lotDeadline m0 0) (withOrder running)) = some (0, .release, .order 0)
      ∧ current (lotProgress 0 100 1001 (withOrder running)) = some (0, .release, .order 0)
      ∧ current (lotProgress 0 101 1000 (withOrder { running with lots := 1 })) = some (0, .release, .order 0)
      ∧ current (lotProgress 0 101 1000 (withOrder running)) = some (0, .release, .order 0)
      ∧ (lotProgress 0 101 1000 ((granted [⟨1, 400⟩] true).setOrder 0 (some running))).act = site.act := by decide +kernel

theorem test_meets_DeviceCommandsArePut :
    deviceInUse site 0 = false ∧ deviceInUse (withOrder running) 0 = true ∧ site.image.devices.at_ 15 = none
      ∧ resultOf (.reshut m0 0 (.fields 8)) site = some .refusedRange ∧ resultOf (.reshut m0 0 (.fields 7)) site = some .refusedUnconfigured
      ∧ resultOf (.reshut m0 0 (.fields 0)) site = some .refusedState
      ∧ resultOf (.reshut m0 0 (.fields 0)) (withOrder (orderIn .suspect)) = some .accepted
      ∧ resultOf (.reshut m0 0 (.fields 0)) (withOrder { orderIn .suspect with reshut := true }) = some .refusedState
      ∧ resultOf (.clearDevice m0 0 (.fields 16)) site = some .refusedRange ∧ resultOf (.pollDevice m0 0 (.fields 16)) site = some .refusedRange
      ∧ resultOf (.pollDevice m0 0 (.fields 15)) site = some .refusedUnconfigured
      ∧ resultOf (.clearDevice m0 0 (.fields 0)) (withOrder running) = some .refusedState
      ∧ (after (.clearDevice m0 0 (.fields 0)) (busy (onLine 2 .query .query))).act.queue = [⟨0, .reset, .host, none⟩]
      ∧ (after (.pollDevice m0 0 (.fields 0)) (busy (onLine 2 .query .query))).act.queue = [⟨0, .query, .host, none⟩] := by decide +kernel

theorem test_meets_DeviceCommandsArePut_on_a_busy_line :
    lineQueueWf (busy (onLine 2 .query .query)).act.queue ∧ (busy (onLine 2 .query .query)).act.current.isSome = true
      ∧ waitingQuery (busy (onLine 2 .query .query)) 0 = none
      ∧ (waitingQuery (putQuery 0 .host (busy (onLine 2 .query .query))) 0).isSome = true :=
  ⟨fun _ => ⟨Nat.zero_le _, Nat.zero_le _⟩, by decide +kernel⟩

/-- The site with a busy line, and an ENGAGE of device 0 that waits: after a NAK, or never taken. -/
def behind (notBefore : Option Nat) : State :=
  site.withAct { site.act with current := some (onLine 2 .query .query), queue := [⟨0, .engage, .host, notBefore⟩] }

theorem test_meets_DeviceCommandsArePut_in_place_of_a_waiting_drive :
    (waitingDrive (behind none) 0).isSome = true
      ∧ (putDrive 0 .release .host (behind none)).act.queue = [⟨0, .release, .host, none⟩] ∧ (putDrive 0 .release .host (behind none)).last 0 = none
      ∧ (putDrive 0 .release .host (behind (some 100250000))).act.queue = [⟨0, .release, .host, none⟩]
      ∧ (putDrive 0 .release .host (behind (some 100250000))).last 0
        = some { command := .engage, orig := .host, outcome := .superseded, time := 100 } := by decide +kernel

theorem test_meets_InhibitAutoAndThePlanner :
    resultOf (.inhibitAutoOn m0 0 8) site = some .refusedRange ∧ resultOf (.inhibitAutoOff m0 0 7) site = some .refusedUnconfigured
      ∧ (after (.inhibitAutoOff m0 0 0) site).port.answering.map (fun r => r.body) = some (.inhibit none true)
      ∧ ((after (.inhibitAutoOff m0 0 0) site).order 0).map (fun o => (o.source, o.lots, o.target)) = some (.auto, 0, 100)
      ∧ (after (.inhibitAutoOn m0 0 0) site).inhibit.at_ 0 = some .host ∧ candidateUnmet (site.withInhibit (Tab.all 8 none)) 0 = none
      ∧ (candidateUnmet site 0).isSome = true ∧ anyCandidate site = false
      ∧ anyCandidate (plannerEvaluation (site.withInhibit (Tab.all 8 none))) = false := by decide +kernel

/-- The site with an idle engine, no supply, and a queue. -/
def idleWith (q : List SoundingEntry) : State := site.withSnd { Sounding.start with queue := q }

theorem test_meets_IdleEngineTakesTheFirstReadyEntry :
    waitingEntry site 0 = some (freshEntry 0 105) ∧ site.snd.engine = none
      ∧ ((after (.soundingDue m0 0) site).snd.engine.map fun f => (f.bay, f.phase)) = some (0, .bursting)
      ∧ (after (.soundingDue m0 0) site).now = 105
      ∧ ((after (.soundingDue m0 0) (idleWith [freshEntry 0 105])).snd.engine.map fun f => (f.bay, f.phase)) = some (0, .charging)
      ∧ ((after (.soundingBackoffPassed m0 0) (idleWith [⟨0, 90, none, 1, some 100040000, false⟩])).snd.engine.map fun f => (f.bay, f.attempt))
        = some (0, 1)
      ∧ (after (.soundingBackoffPassed m0 0) (idleWith [⟨0, 90, none, 1, some 100040000, false⟩])).clock.fast = 100040000
      ∧ (after (.soundingDue m0 0) (idleWith [⟨0, 90, none, 1, some 100040000, false⟩])).snd.engine = none
      ∧ (after (.soundingDue m0 1) (flying (flight .listening))).snd.engine = some (flight .listening) := by decide +kernel

theorem test_meets_ChargingEndsInABurst :
    site.snd.supplyOn = true ∧ (idleWith []).snd.supplyOn = false ∧ (flight .charging).phase = .charging ∧ (flight .listening).phase ≠ .charging
      ∧ ((after (.supplyReady m0) (flying (flight .charging))).snd.engine.map fun f => f.phase) = some .bursting
      ∧ ((after (.chargeDeadlineExpired m0) (flying (flight .charging))).snd.engine.map fun f => (f.phase, f.weak)) = some (.bursting, true)
      ∧ (after (.chargeDeadlineExpired m0) ((flying (flight .charging)).withSnd
          { (flying (flight .charging)).snd with expiries := 2 })).port.notices.length = 2
      ∧ (after (.chargeDeadlineExpired m0) (flying (flight .charging))).port.notices.length = 1 := by decide +kernel

theorem test_meets_BurstsAndEchoesEndOrFinish :
    (flying (flight .bursting)).snd.engine = some (flight .bursting) ∧ (flight .bursting).discard = false ∧ (flight .bursting).pulses = 12
      ∧ ((after (.burstEnd m0 12) (flying (flight .bursting))).snd.engine.map fun f => f.phase) = some .listening
      ∧ ((after (.burstEnd m0 11) (flying (flight .bursting))).snd.last.at_ 0).map (fun r => (r.result, r.driveFault))
        = some (.driveFault, some .short)
      ∧ ((after (.driveStuck m0) (flying (flight .bursting))).snd.channels.at_ 0).bad = 1
      ∧ ((after (.driveStuck m0) (flying { flight .bursting with discard := true })).snd.last.at_ 0) = none
      ∧ ((after (.driveStuck m0) (flying { flight .bursting with discard := true })).snd.engine.map fun f => (f.bay, f.due)) = some (0, 100)
      ∧ ((after (.echoCrossing m0 3299) (flying (flight .listening))).snd.engine.map fun f => f.phase) = some .listening
      ∧ ((after (.echoCrossing m0 3300) (flying (flight .listening))).snd.engine.map fun f => f.phase) = some .gating
      ∧ ((after (.echoCrossing m0 30319) (flying (flight .listening))).snd.engine.map fun f => f.phase) = some .gating
      ∧ ((after (.echoCrossing m0 30320) (flying (flight .listening))).snd.engine.map fun f => f.phase) = some .listening
      ∧ ((after (.listenWindowEnd m0) (flying (flight .listening))).snd.last.at_ 0).map (fun r => r.result) = some .lostEcho
      ∧ (after (.listenWindowEnd m0) (flying { flight .listening with discard := true })).snd.last.at_ 0 = none := by decide +kernel

theorem test_meets_TheGateDecides :
    (flying (flight .gating)).snd.engine = some (flight .gating) ∧ (flight .gating).phase = .gating
      ∧ gatePasses (flight .gating) 185185 8 = false ∧ gatePasses (flight .gating) 185186 8 = true
      ∧ gatePasses (flight .gating) 217391 8 = true ∧ gatePasses (flight .gating) 217392 8 = false
      ∧ rawLevel (flight .gating) = 1999 ∧ rawLevel { flight .gating with tof := 29160 } = 0
      ∧ rawLevel { flight .gating with tof := 29161 } < 0
      ∧ ((after (.soundingGateComplete m0 200000) (flying (flight .gating))).snd.last.at_ 0).map (fun r => (r.result, r.level, r.gateNanos))
        = some (.good, some 1999, some 200000)
      ∧ ((after (.soundingGateComplete m0 200000) ((flying (flight .gating)).setLevel 0 LevelRecord.blank)).level 0)
        = { LevelRecord.blank with value := some 1999, quality := .good, accepted := some 100 }
      ∧ ((after (.soundingGateComplete m0 200000) (flying { flight .gating with tof := 29161 })).snd.last.at_ 0).map (fun r => r.result)
        = some .outOfRange
      ∧ ((after (.soundingGateTimeout m0) (flying { flight .gating with attempt := 3 })).snd.last.at_ 0).map (fun r => r.result)
        = some .interfered
      ∧ (after (.soundingGateTimeout m0) (flying { flight .gating with discard := true })).snd.last.at_ 0 = none := by decide +kernel

theorem test_meets_TheGateDecides_and_hands_its_event_on :
    site.free.schedule = [] ∧ permute 4 23 [LevelTaker.site, .spill, .drain, .planner] = [.planner, .drain, .spill, .site]
      ∧ permute 4 0 [LevelTaker.site, .spill, .drain, .planner] = [.site, .spill, .drain, .planner]
      ∧ (after (.soundingGateComplete m0 200000) (flying { flight .gating with tof := 5800 })).spillState 0 = .quiet
      ∧ (after (.soundingGateComplete m0 200000) ((flying { flight .gating with tof := 5800 }).setLevel 0 LevelRecord.blank)).spillState 0
        = .spilling
      ∧ (after (.soundingGateComplete m0 200000) ((flying { flight .gating with tof := 5800 }).setLevel 0 LevelRecord.blank)).mode
        = .storm := by decide +kernel

theorem test_meets_TheGateDecides_with_a_joined_sounding :
    (retryEntry site { flight .gating with joined := true }).joined = true
      ∧ (takenEntry site { freshEntry 0 90 with attempt := 1, joined := true } .bursting).joined = true ∧ (freshEntry 0 90).joined = false
      ∧ ((after (.soundingDue m0 0) (idleWith [{ freshEntry 0 90 with attempt := 2, joined := true }])).snd.engine.map fun f =>
        (f.attempt, f.joined)) = some (2, true)
      ∧ ((after (.soundingGateTimeout m0) (flying { flight .gating with attempt := 3, joined := true })).snd.last.at_ 0).map
        (fun r => (r.attempts, r.joined)) = some (4, true) := ⟨rfl, by decide +kernel⟩

theorem test_retry_delays_lie_in_range (n : Nat) :
    (10000 ≤ backoffDelay n 1 ∧ backoffDelay n 1 ≤ 40000) ∧ (40000 ≤ backoffDelay n 2 ∧ backoffDelay n 2 ≤ 120000)
      ∧ 120000 ≤ backoffDelay n 3 ∧ backoffDelay n 3 ≤ 360000 := by
  simp only [backoffDelay, backoffRange]
  omega

/-- The record of a bay with a candidate. -/
def doubtful : LevelRecord := { held 2000 .held with candidate := some { level := 3000, time := 98 }, misses := 2 }

theorem test_meets_LevelFilterAcceptsWithinSlew :
    (site.level 0).accepted = some 90 ∧ (site.level 0).value = some 2000 ∧ LevelRecord.blank.accepted = none
      ∧ doubtful.candidate = some { level := 3000, time := 98 } ∧ site.image.staleLimit = 4
      ∧ ((levelCompletion 0 (some 2520) 100 false site).level 0).value = some 2520
      ∧ ((levelCompletion 0 (some 2521) 100 false site).level 0).quality = .held
      ∧ ((levelCompletion 0 (some 3120) 100 false (site.setLevel 0 doubtful)).level 0).value = some 3120
      ∧ ((levelCompletion 0 (some 3121) 100 false (site.setLevel 0 doubtful)).level 0).misses = 3
      ∧ ((levelCompletion 0 none 100 false (site.setLevel 0 doubtful)).level 0).quality = .held
      ∧ ((levelCompletion 0 none 100 false (site.setLevel 0 { doubtful with misses := 3 })).level 0).quality = .stale
      ∧ ((levelCompletion 0 none 100 true ((site.setLevel 0 doubtful).setFloat 0 .active)).level 0).value = some 3900
      ∧ ((levelCompletion 0 (some 7) 100 false (site.setLevel 0 LevelRecord.blank)).level 0).quality = .good := by decide +kernel

/-- A reply frame of device 0, at address 1, a gate. -/
def replyBytes (command toggle st po : Byte) : List Byte :=
  0x3C#8 :: ([1#8, 1#8, command, toggle, st, po] ++ checkBytes [1#8, 1#8, command, toggle, st, po])

/-- What a frame leaves of device 0, with the command on the line. -/
def replied (c e : LineCommand) (command toggle st po : Byte) : State :=
  after (.actuatorReply m0 (replyBytes command toggle st po)) (busy (onLine 0 c e))

/-- The site with an ENGAGE watched on device 0, and a query on the line. -/
def watched : State :=
  (busy (onLine 0 .query .query)).setDevice 0
    { DeviceVol.start with state := .moving, watch := some ⟨.opened, .host, .engage⟩, deadline := some ⟨150, .engage⟩, nextPoll := some 102 }

theorem test_meets_ActuatorRepliesTakeEffect :
    site.act.current = none ∧ (busy (onLine 0 .engage .engage)).act.current = some (onLine 0 .engage .engage)
      ∧ site.image.devices.at_ 0 = some ⟨1, .gate, .watched, 120⟩ ∧ waitingDrive (busy (onLine 0 .engage .engage)) 0 = none
      ∧ waitingQuery (busy (onLine 0 .query .query)) 0 = none ∧ site.image.actuator.nakLimit = 8 ∧ (site.device 0).watch = none
      ∧ ((replied .engage .engage 1 1 3 0).device 0).state = .hand ∧ ((replied .query .query 4 0 2 2).device 0).state = .faulted .reported
      ∧ ((replied .engage .engage 1 1 0 3).device 0).state = .faulted .reported
      ∧ ((replied .engage .engage 1 1 1 3).device 0).state = .faulted .reported
      ∧ ((replied .engage .engage 1 1 1 0).device 0).naks = 1
      ∧ ((replied .engage .engage 1 1 1 0).act.queue.map fun e => e.notBefore) = [some 100250000]
      ∧ ((after (.actuatorReply m0 (replyBytes 1 1 1 0)) ((busy (onLine 0 .engage .engage)).setDevice 0 { DeviceVol.start with naks := 7 })).device 0).state
        = .faulted .busy
      ∧ ((replied .engage .engage 1 1 0 1).device 0).state = .opened ∧ ((replied .engage .engage 1 1 0 1).device 0).toggle = true
      ∧ ((replied .engage .engage 1 1 0 0).device 0).state = .moving ∧ ((replied .engage .engage 1 1 0 2).device 0).deadline = some ⟨220, .engage⟩
      ∧ ((replied .reset .reset 3 0 0 0).device 0).inStep = true ∧ ((replied .reset .reset 3 0 0 0).device 0).state = .closed
      ∧ ((replied .engage .reset 3 0 0 0).act.current.map fun c => (c.exchange, c.toggle)) = some (.engage, true)
      ∧ ((replied .query .query 4 0 0 0).device 0).state = .closed ∧ ((replied .query .query 4 0 0 2).device 0).deadline = some ⟨220, .query⟩
      ∧ ((replied .engage .reset 3 0 0 2).device 0).deadline = some ⟨220, .engage⟩ := by
  decide +kernel

/-- The notice that a movement deadline posts names the command that began the movement (R171; log entry 24). -/
theorem test_a_movement_that_the_opening_began_names_its_engage :
    ((after (.movementDeadline m0 0) (replied .engage .reset 3 0 0 2)).port.notices.getLast?.map fun n => n.detail)
      = some (.deviceFault .faulted .moveTimeout .engage 1) := by decide +kernel

theorem test_meets_ActuatorRepliesTakeEffect_in_a_watch_and_on_bad_frames :
    (watched.device 0).watch = some ⟨.opened, .host, .engage⟩ ∧ PortFree watched
      ∧ ((after (.actuatorReply m0 (replyBytes 4 0 0 1)) watched).device 0).state = .opened
      ∧ ((after (.actuatorReply m0 (replyBytes 4 0 0 2)) watched).device 0).state = .moving
      ∧ [0#8, 0#8] ≠ checkBytes [1#8, 1#8, 1#8, 1#8, 0#8, 0#8]
      ∧ judgeReply 1 .gate .engage true (0x3C#8 :: List.replicate 8 0#8) = none ∧ (List.replicate 8 (0#8 : Byte)).length = 8
      ∧ ((after (.actuatorReply m0 (0x3C#8 :: List.replicate 8 0#8)) (busy (onLine 0 .engage .engage))).act.current.map fun c => c.resends)
        = some 1
      ∧ ((after (.actuatorReply m0 (0x3C#8 :: List.replicate 8 0#8)) (busy { onLine 0 .engage .engage with resends := 2 })).device 0).state
        = .lost .badReply := ⟨rfl, ⟨rfl, rfl, rfl⟩, by decide +kernel⟩

theorem test_meets_ActuatorRepliesTakeEffect_before_the_wait_and_behind_a_newer_entry :
    (busy { onLine 0 .engage .engage with sentAt := 99996876 }).clock.fast < 99996876 + 3125
      ∧ (after (.actuatorReply m0 (replyBytes 1 1 0 1)) (busy { onLine 0 .engage .engage with sentAt := 99996876 })).act.devices
        = site.act.devices
      ∧ ((after (.actuatorReply m0 (replyBytes 1 1 0 1)) (busy { onLine 0 .engage .engage with sentAt := 99996875 })).device 0).state = .opened
      ∧ (waitingDrive (putDrive 0 .release .host (busy (onLine 0 .engage .engage))) 0).isSome = true
      ∧ (after (.actuatorReply m0 (replyBytes 1 1 1 0)) (putDrive 0 .release .host (busy (onLine 0 .engage .engage)))).last 0
        = some { command := .engage, orig := .host, outcome := .superseded, time := 100 }
      ∧ ((after (.actuatorReply m0 (replyBytes 1 1 1 0)) (putDrive 0 .release .host (busy (onLine 0 .engage .engage)))).act.current.map
        fun c => (c.command, c.exchange)) = some (.release, .reset) := by decide +kernel

theorem test_meets_ActuatorRepliesTakeEffect_in_a_dropped_query :
    (waitingQuery (putQuery 0 .host (busy (onLine 0 .query .query))) 0).isSome = true
      ∧ ((after (.actuatorReply m0 (replyBytes 4 0 1 0)) (putQuery 0 .host (busy (onLine 0 .query .query)))).device 0).naks = 1
      ∧ (after (.actuatorReply m0 (replyBytes 4 0 1 0)) (putQuery 0 .host (busy (onLine 0 .query .query)))).act.queue = []
      ∧ ((after (.actuatorReply m0 (replyBytes 4 0 1 0)) (putQuery 0 .host (busy (onLine 0 .query .query)))).act.current.map
        fun c => (c.command, c.sentAt)) = some (.query, 100000000) := by decide +kernel

theorem test_meets_RestartIsAccepted_and_starts :
    (after (.start ⟨m0, none⟩) (after (.replySent m0) (after (.restart m0 0 (.fields ())) site))).clock.cause = .restart
      ∧ site.ret.checkGood = true
      ∧ (after (.start ⟨m0, none⟩) (after (.replySent m0) (after (.restart m0 0 (.fields ()))
        (site.withRet { site.ret with checkGood := false })))).clock.cause = .cold := by decide +kernel

/-- The site with an idle line and a query that waits for its not-before time. -/
def backingOff : State := site.withAct { site.act with queue := [⟨0, .query, .host, some 100250000⟩] }

theorem test_meets_ActuatorDeadlinesTakeEffect :
    (onLine 0 .query .query).resends = 0 ∧ (onLine 0 .query .query).retries = 2
      ∧ ((after (.actuatorResponseTimeout m0) (busy (onLine 0 .query .query))).act.current.map fun c => (c.resends, c.sentAt))
        = some (1, 100033125)
      ∧ ((after (.actuatorResponseTimeout m0) (busy { onLine 0 .engage .engage with resends := 2 })).device 0).state = .lost .timeout
      ∧ (after (.actuatorResponseTimeout m0) (busy { onLine 0 .engage .engage with resends := 2 })).last 0
        = some { command := .engage, orig := .host, outcome := .lost, time := 100 }
      ∧ deviceNotBefore site 0 = none ∧ deviceNotBefore backingOff 0 = some 100250000 ∧ backingOff.act.current = none
      ∧ ((after (.actuatorNakBackoffPassed m0 0) backingOff).act.current.map fun c => (c.command, c.sentAt)) = some (.query, 100250000)
      ∧ deviceNotBefore (site.withAct { site.act with queue := [⟨0, .engage, .host, some 100250000⟩, ⟨0, .query, .host, some 100100000⟩] }) 0
        = some 100100000
      ∧ (site.device 0).nextPoll = none ∧ (watched.device 0).nextPoll = some 102 ∧ (watched.device 0).deadline = some ⟨150, .engage⟩
      ∧ ((after (.devicePollDue m0 0) watched).device 0).nextPoll = some 104
      ∧ ((after (.devicePollDue m0 0) watched).act.queue.map fun e => (e.command, e.orig)) = [(.query, .watch)]
      ∧ ((after (.movementDeadline m0 0) watched).device 0).state = .faulted .moveTimeout
      ∧ (after (.movementDeadline m0 0) watched).last 0 = some { command := .engage, orig := .host, outcome := .faulted, time := 150 } := by
  decide +kernel

/-- What an event leaves of the order of bay 0. -/
structure Fate where
  state : OrderState
  closing : Option ClosingCause
  failure : Option Failure
  holds : HoldCauses
  deriving DecidableEq

/-- The fate of the order of bay 0 in a state. -/
def fateIn (s : State) : Option Fate := (s.order 0).map fun x => ⟨x.state, x.closing, x.failure, x.holds⟩

/-- What an outcome that the actuator line tells leaves of an order of bay 0. -/
def fate (o : Order) (c : LineCommand) (oc : LineOutcome) : Option Fate := fateIn (tell (.order 0) c oc (withOrder o))

/-- An order that holds a credit and opens its drain device. -/
def opening : Order := { orderIn .opening with credit := true }
/-- An order that closes, for a cause. -/
def closing (c : ClosingCause) : Order := { orderIn .closing with closing := some c, failure := some .lost }

theorem test_meets_ActuatorDeadlinesTakeEffect_in_an_opening_order :
    bayOfDevice site 0 = some 0 ∧ bayOfDevice site 2 = none ∧ (site.level 0).value = some 2000
      ∧ fate opening .engage .superseded = some ⟨.opening, none, none, ⟨false, false, false⟩⟩
      ∧ ((tell (.order 0) .engage .done (withOrder opening)).order 0).map (fun o => (o.state, o.lot))
        = some ⟨.running, some ⟨1500, 100, 1000, 0⟩⟩
      ∧ fate opening .engage .lost = some ⟨.closing, some .openFailed, some .lost, ⟨false, false, false⟩⟩
      ∧ fate opening .engage .faulted = some ⟨.closing, some .openFailed, some .faulted, ⟨false, false, false⟩⟩
      ∧ fate opening .engage .hand = some ⟨.held, none, none, ⟨false, false, true⟩⟩ := by decide +kernel

theorem test_meets_ActuatorDeadlinesTakeEffect_in_an_order_that_fails_to_open :
    (tell (.order 0) .engage .lost (withOrder opening)).drn.counters.forfeited = 1
      ∧ (tell (.order 0) .engage .lost (withOrder opening)).act.current.map (fun c => (c.command, c.orig)) = some (.release, .order 0)
      ∧ tell (.order 0) .release .done (withOrder opening) = withOrder opening
      ∧ tell .host .engage .done (withOrder opening) = withOrder opening := by decide +kernel

theorem test_meets_ActuatorDeadlinesTakeEffect_in_a_closing_order :
    fate (closing .done) .release .superseded = some ⟨.closing, some .done, some .lost, ⟨false, false, false⟩⟩
      ∧ fate (closing .gap) .release .faulted = some ⟨.suspect, some .gap, some .faulted, ⟨false, false, false⟩⟩
      ∧ (tell (.order 0) .release .hand (withOrder (closing .gap))).inhibit.at_ 0 = some .shutFailed
      ∧ (tell (.order 0) .release .done (withOrder (closing .done))).order 0 = none
      ∧ (tell (.order 0) .release .done (withOrder (closing .cancel))).order 0 = none
      ∧ (tell (.order 0) .release .done (withOrder (closing .stalled))).order 0 = none
      ∧ (tell (.order 0) .release .done (withOrder (closing .stalled))).inhibit.at_ 0 = some .stalled := by decide +kernel

theorem test_meets_ActuatorDeadlinesTakeEffect_in_an_order_that_closes_after_a_failure :
    (tell (.order 0) .release .done (withOrder (closing .openFailed))).order 0 = none
      ∧ (tell (.order 0) .release .done (withOrder (closing .deviceFailed))).order 0 = none
      ∧ lastNotice (tell (.order 0) .release .done (withOrder (closing .deviceFailed)))
        = some (.drainFault { lots := 0, total := 0, cause := .deviceFailed, failure := some .lost, closing := none })
      ∧ fate (closing .gap) .release .done = some ⟨.queued, none, some .lost, ⟨false, false, false⟩⟩
      ∧ fate { closing .gauge with holds := ⟨false, true, false⟩ } .release .done = some ⟨.held, none, some .lost, ⟨false, true, false⟩⟩
      ∧ (tell (.order 0) .release .done (withOrder { closing .worksStop with target := 2000 })).order 0 = none := by decide +kernel

/-- A SUSPECT order, with its RESHUT under way. -/
def reshutting : Order := { orderIn .suspect with reshut := true }

theorem test_meets_ActuatorDeadlinesTakeEffect_in_a_suspect_order :
    (tell (.order 0) .reset .done (withOrder reshutting)).order 0 = none
      ∧ ((tell (.order 0) .reset .hand (withOrder reshutting)).order 0).map (fun o => (o.state, o.reshut)) = some (.suspect, false)
      ∧ lastNotice (tell (.order 0) .reset .superseded (withOrder reshutting))
        = some (.drainFault { lots := 0, total := 0, cause := .reshutFailed, failure := some .superseded, closing := none })
      ∧ tell (.order 0) .reset .done (withOrder (orderIn .suspect)) = withOrder (orderIn .suspect) := by decide +kernel

/-- What a change of its drain device leaves of an order of bay 0. -/
def changed (o : Order) (old new : DeviceState) : Option Fate := fateIn (deviceChanged 0 old new (withOrder o))

theorem test_meets_ActuatorDeadlinesTakeEffect_in_gauge_losses :
    (gaugeLoss 0 (withOrder running)).order 0
        = some { running with holds := ⟨false, true, false⟩, state := .closing, closing := some .gauge, credit := false, lot := none }
      ∧ (gaugeLoss 0 (withOrder (orderIn .queued))).order 0 = some { orderIn .held with holds := ⟨false, true, false⟩ }
      ∧ (gaugeLoss 0 (withOrder (orderIn .suspect))).order 0 = some { orderIn .suspect with holds := ⟨false, true, false⟩ } := by decide +kernel

theorem test_meets_ActuatorDeadlinesTakeEffect_in_changes_of_the_device :
    changed running .opened .hand = some ⟨.held, none, none, ⟨false, false, true⟩⟩
      ∧ changed (orderIn .queued) .closed .hand = some ⟨.held, none, none, ⟨false, false, true⟩⟩
      ∧ changed (closing .done) .moving .hand = some ⟨.closing, some .done, some .lost, ⟨false, false, true⟩⟩
      ∧ changed running .opened (.lost .timeout) = some ⟨.closing, some .deviceFailed, some .lost, ⟨false, false, false⟩⟩
      ∧ changed running .opened (.faulted .reported) = some ⟨.closing, some .deviceFailed, some .faulted, ⟨false, false, false⟩⟩
      ∧ changed opening .closed (.lost .timeout) = some ⟨.opening, none, none, ⟨false, false, false⟩⟩
      ∧ changed running .opened .moving = some ⟨.running, none, none, ⟨false, false, false⟩⟩ := by decide +kernel

theorem test_meets_ActuatorDeadlinesTakeEffect_in_returns_from_hand :
    DeviceState.name (.faulted .busy) = DeviceState.name (.faulted .moveTimeout)
      ∧ changed { orderIn .held with holds := ⟨false, false, true⟩ } .hand .closed = some ⟨.queued, none, none, ⟨false, false, false⟩⟩
      ∧ changed { orderIn .held with holds := ⟨true, false, true⟩ } .hand (.lost .timeout) = some ⟨.held, none, none, ⟨true, false, false⟩⟩
      ∧ bayRunning (testQueued 0 (changeHolds 0 (fun h => { h with hand := false }) (withOrder (orderIn .held)))) 0 = false
      ∧ testQueued 0 (withOrder (orderIn .queued)) = withOrder (orderIn .queued)
      ∧ (testQueued 0 (withOrder { orderIn .queued with target := 2000 })).order 0 = none
      ∧ (testQueued 0 (withOrder { orderIn .queued with lots := 2, done := 2 })).order 0 = none := by decide +kernel

/-- The site in a spill, stopped or restarting, with good retained contents or not. -/
def down (run : Run) (good : Bool) : State :=
  ((inSpill .spilling).withRun run).withRet { (inSpill .spilling).ret with checkGood := good, powerLoss := some 95 }

theorem test_meets_PowerFallsAndStarts :
    (down .stopped true).run = .stopped ∧ (down .restarting true).run ≠ .stopped ∧ (down .restarting true).run ≠ .running ∧ site.run = .running
      ∧ (after (.mainPowerFail m0) site).ret.powerLoss = some 100 ∧ (after (.mainPowerFail m0) site).run = .stopped
      ∧ (after (.mainPowerFail m0) (site.withBackup false)).ret.checkGood = false
      ∧ (after (.backupSupplyLoss m0) (down .stopped true)).ret.checkGood = false ∧ (after (.start ⟨m0, none⟩) site).run = .running
      ∧ (after (.start ⟨m0, none⟩) (down .stopped true)).clock.cause = .warm ∧ (after (.start ⟨m0, none⟩) (down .restarting true)).clock.cause = .restart
      ∧ (after (.start ⟨m0, none⟩) (down .stopped false)).clock.cause = .cold ∧ (after (.start ⟨m0, none⟩) (down .stopped false)).image = Image.afterCold
      ∧ (after (.start ⟨m0, none⟩) (down .stopped true)).ret.log.map (fun e => (e.id, e.record.cause)) = [(1, some .powerLoss)]
      ∧ (after (.start ⟨m0, none⟩) (down .restarting true)).ret.log.map (fun e => (e.id, e.record.cause)) = [(1, some .restart)]
      ∧ ((after (.start ⟨m0, none⟩) (down .stopped true)).port.notices.map fun n => (n.number, n.detail.code)) = [(0, 1), (1, 5)]
      ∧ ((after (.start ⟨m0, none⟩) (down .stopped true)).act.current.map fun c => (c.device, c.command, c.orig)) = some (0, .reset, .sweep)
      ∧ ((after (.start ⟨m0, none⟩) (down .stopped true)).snd.engine.map fun f => f.bay) = some 0 := by decide +kernel

/-- All the terminals are high. -/
def allPins : Moment := { elapsed := 0, pins := 0xFFF#12 }

theorem test_meets_PowerFallsAndStarts_in_the_inputs :
    (after (.start ⟨allPins, none⟩) (down .stopped true)).term.worksStop = true
      ∧ (after (.start ⟨m0, none⟩) (down .stopped true)).term.worksStop = false
      ∧ (after (.start ⟨allPins, none⟩) (down .stopped true)).lvl.floats.toList = .active :: List.replicate 7 .absent
      ∧ (after (.start ⟨m0, none⟩) (down .stopped true)).lvl.floats.toList = .released :: List.replicate 7 .absent
      ∧ (after (.start ⟨allPins, none⟩) (down .stopped true)).level 0 = { LevelRecord.blank with quality := .float, value := some 3900 }
      ∧ (after (.start ⟨m0, none⟩) (down .stopped true)).level 0 = LevelRecord.blank
      ∧ ((after (.start ⟨allPins, none⟩) (down .stopped true)).rain.gauges.at_ 0).stuckDeadline = some ⟨110, 10⟩
      ∧ (after (.start ⟨m0, none⟩) (down .stopped true)).rain.gauges.at_ 0 = GaugeVol.enabledAt 100
      ∧ (after (.start ⟨m0, none⟩) (down .stopped true)).rain.gauges.at_ 3 = GaugeVol.blank
      ∧ ((after (.start ⟨m0, none⟩) (down .stopped true)).rain.rules.toList.map fun r => r.state) = .clear :: List.replicate 7 .disarmed
      ∧ (after (.start ⟨m0, none⟩) (down .stopped true)).rain.nextRoll = 120 := by decide +kernel

/-- The site in a spill of outfall 0 in the log, and of outfall 1 in its aggregate, stopped or restarting. -/
def downInBoth (run : Run) : State :=
  (down run true).withRet { (down run true).ret with
    slots := site.ret.slots.put 1 (some { aggregate with
      outfall := 1, openSpill := some ⟨30, .rain, 20, 5, 1, false⟩, finish := none, cause := none }) }

theorem test_meets_PowerFallsAndStarts_in_the_closes :
    ((openSpills (downInBoth .stopped)).map fun x => (x.1, x.2.1)) = [(0, some 1), (1, none)]
      ∧ ((openSpills (downInBoth .stopped)).map fun x => x.1).Nodup
      ∧ ((after (.start ⟨m0, none⟩) (downInBoth .stopped)).ret.log.map fun e => (e.id, e.record.outfall, e.record.cause, e.record.finish))
        = [(1, 0, some .powerLoss, some 95), (2, 1, some .powerLoss, some 95)]
      ∧ (after (.start ⟨m0, none⟩) (downInBoth .stopped)).ret.slots = Tab.all 4 none
      ∧ ((after (.start ⟨m0, none⟩) (downInBoth .stopped)).ret.counts.at_ 1).current.duration = 65
      ∧ ((after (.start ⟨m0, none⟩) (downInBoth .stopped)).ret.counts.at_ 1).current.volume = 5
      ∧ told (after (.start ⟨m0, none⟩) (downInBoth .stopped)) = [(0, 95, .spillEnded (some 1) .powerLoss 0), (1, 95, .spillEnded none .powerLoss 1)]
      ∧ told (after (.start ⟨m0, none⟩) (downInBoth .restarting))
        = [(0, 100, .spillEnded (some 1) .restart 0), (1, 100, .spillEnded none .restart 1)] := by decide +kernel

/-- What a fall during the start sequence leaves of the site in a spill with a closed aggregate of outfall 1. -/
def failed (good backup : Bool) (writes : Nat) : State :=
  after (.start ⟨m0, some { writes := writes, elapsed := 2500000 }⟩)
    (((down .stopped good).withRet { (down .stopped good).ret with slots := site.ret.slots.put 1 (some { aggregate with outfall := 1 }) }).withBackup
      backup)

theorem test_meets_PowerFallsAndStarts_in_a_start :
    (failed true true 0).run = .stopped ∧ (failed true true 0).ret.powerLoss = some 102 ∧ (failed true true 0).ret.checkGood = true
      ∧ (failed true false 0).ret.checkGood = false ∧ (failed true true 0).ret.log = (down .stopped true).ret.log
      ∧ (failed true true 1).ret.log.map (fun e => (e.id, e.record.cause, e.record.finish)) = [(1, some .powerLoss, some 95)]
      ∧ (failed true true 2).ret.log.map (fun e => (e.id, e.record.outfall)) = [(1, 0), (2, 1)]
      ∧ (after (.start ⟨m0, none⟩) (failed true true 0)).ret.log.map (fun e => (e.id, e.record.cause, e.record.finish))
        = [(1, some .powerLoss, some 102), (2, some .ended, some 90)]
      ∧ (after (.start ⟨m0, none⟩) (failed true true 1)).ret.log.map (fun e => (e.id, e.record.finish)) = [(1, some 95), (2, some 90)]
      ∧ (failed false true 0).ret.checkGood = false ∧ (failed false true 1).image = Image.afterCold ∧ (failed false true 1).now = 2
      ∧ (after (.start ⟨m0, none⟩) (failed false true 1)).clock.cause = .warm
      ∧ (after (.start ⟨m0, none⟩) (failed false true 0)).clock.cause = .cold
      ∧ (after (.start ⟨m0, none⟩) (down .stopped true)).port.notices.head?.map (fun n => n.detail)
        = some (.started .warm (some 95) 1 false) := by decide +kernel

/-! ### Frames -/

/-- The check of the lines (R208): the register of the nine digits, a value known of this check. -/
theorem test_check_of_nine_digits :
    crc16 [0x31#8, 0x32#8, 0x33#8, 0x34#8, 0x35#8, 0x36#8, 0x37#8, 0x38#8, 0x39#8] = 0x29B1#16 := by decide +kernel

theorem test_frames_spell_requests :
    parseRequest 0x02#8 [5#8] = .fetchNotices (.fields 5) ∧ parseRequest 0x02#8 [] = .fetchNotices .wrongLength
      ∧ parseRequest 0x04#8 [1#8, 2#8, 3#8, 4#8] = .setClock (.fields 16909060)
      ∧ parseRequest 0x08#8 [] = .setParamsEmpty ∧ parseRequest 0x08#8 [9#8, 0#8] = .setParamsNoGroup
      ∧ parseRequest 0x22#8 [3#8, 2#8, 1#8, 0#8, 0#8, 60#8] = .forecast (.fields ⟨3, 2, 256, 60⟩)
      ∧ parseRequest 0x30#8 [7#8, 1#8, 0#8] = .grant (.fields ⟨7, 256⟩) ∧ parseRequest 0x32#8 [1#8, 2#8, 3#8, 4#8] = .drain (.fields ⟨1, 2, 772⟩)
      ∧ parseRequest 0x49#8 [1#8, 2#8, 3#8, 1#8, 0x81#8] = .setAlarmLine (.fields ⟨1, 2, 3, 1, 0x81#8⟩)
      ∧ parseRequest 0x4A#8 [] = .getTerminals (.fields ()) ∧ parseRequest 0x06#8 [1#8] = .unknownKind 0x06#8 := by decide +kernel

theorem test_line_frames :
    lineFrame 31 .engage true = [0xC3#8, 31#8, 1#8, 1#8] ++ checkBytes [31#8, 1#8, 1#8]
      ∧ lineFrame 1 .query false = [0xC3#8, 1#8, 4#8, 0#8] ++ checkBytes [1#8, 4#8, 0#8]
      ∧ judgeReply 1 .gate .engage true (replyBytes 1 1 0 2) = some (.ack, .moving) ∧ judgeReply 1 .gate .engage false (replyBytes 1 1 0 2) = none
      ∧ judgeReply 1 .gate .reset false (replyBytes 3 1 0 0) = some (.ack, .closed) ∧ judgeReply 2 .gate .engage true (replyBytes 1 1 0 2) = none
      ∧ judgeReply 1 .pump .engage true (replyBytes 1 1 0 2) = none ∧ judgeReply 1 .gate .engage true (replyBytes 1 1 4 2) = none := by
  decide +kernel

theorem test_no_word_spells_a_command (nbits w : Nat) : decodeTableWord nbits w = none ∧ State.reset.withFetchWord nbits w = State.reset :=
  ⟨rfl, rfl⟩

end Sys2Proof.Tests
end

/-! PROOF. Every command answers a next state, and the weir follows its table (R12). -/

namespace Sys2Proof.Machine

/-! ### Every command -/

/-- Settles O2: every arm of `exec` ends in `.next`, whatever the state. -/
theorem noCommandStops : Obligations.NoCommandStops := by
  intro c s
  cases c
  all_goals exact ⟨_, rfl⟩

/-! ### Tables of points (R12, R55) -/

/-- Two points of a table, of which the second lies beyond the first in both figures. -/
def PointBelow (p q : Nat × Nat) : Prop := p.1 < q.1 ∧ p.2 < q.2

/-- At its first point an interpolation between two points has that point's figure. -/
theorem between_start (x0 y0 x1 y1 : Nat) : between x0 y0 x1 y1 x0 = y0 := by
  simp [between]

/-- At its second point an interpolation between two rising points has that point's figure. -/
theorem between_end {x0 y0 x1 y1 : Nat} (hx : x0 < x1) (hy : y0 ≤ y1) : between x0 y0 x1 y1 x1 = y1 := by
  have hd : 0 < x1 - x0 := by omega
  rw [between, Nat.mul_div_cancel_left _ hd]
  omega

/-- At its first point a table has that point's figure. -/
theorem interpolate_start {x0 y0 : Nat} {pts : List (Nat × Nat)} (h : ((x0, y0) :: pts).Pairwise PointBelow) :
    interpolate x0 y0 pts x0 = y0 := by
  cases pts with
  | nil => rfl
  | cons p rest =>
    have hp : x0 < p.1 := ((List.pairwise_cons.mp h).1 p (List.mem_cons_self ..)).1
    simp [interpolate, hp, between_start]

/-- From its last point on a table has that point's figure. -/
theorem interpolate_from_last {x0 y0 x : Nat} {pts : List (Nat × Nat)} {p : Nat × Nat} (h : ((x0, y0) :: pts).Pairwise PointBelow)
    (hp : ((x0, y0) :: pts).getLast? = some p) (hx : p.1 ≤ x) : interpolate x0 y0 pts x = p.2 := by
  induction pts generalizing x0 y0 with
  | nil =>
    obtain rfl : (x0, y0) = p := by simpa using hp
    rfl
  | cons q rest ih =>
    have htail := (List.pairwise_cons.mp h).2
    have hlast : (q :: rest).getLast? = some p := by simpa using hp
    have hq : q.1 ≤ p.1 := by
      rcases List.mem_cons.mp (List.mem_of_getLast? hlast) with rfl | hmem
      · exact Nat.le_refl _
      · exact Nat.le_of_lt ((List.pairwise_cons.mp htail).1 p hmem).1
    rw [interpolate, if_neg (by omega)]
    exact ih htail hlast

/-- Between two of its points a table interpolates between these two. -/
theorem interpolate_of_mem {x0 y0 x : Nat} {pts front back : List (Nat × Nat)} {p q : Nat × Nat}
    (h : ((x0, y0) :: pts).Pairwise PointBelow) (hsplit : (x0, y0) :: pts = front ++ p :: q :: back) (hp : p.1 ≤ x) (hq : x ≤ q.1) :
    interpolate x0 y0 pts x = between p.1 p.2 q.1 q.2 x := by
  induction front generalizing x0 y0 pts with
  | nil =>
    obtain ⟨rfl, rfl⟩ : (x0, y0) = p ∧ pts = q :: back := by simpa using hsplit
    have hpq : PointBelow (x0, y0) q := (List.pairwise_cons.mp h).1 q (List.mem_cons_self ..)
    rcases Nat.lt_or_ge x q.1 with hlt | hge
    · rw [interpolate, if_pos hlt]
    · obtain rfl : x = q.1 := Nat.le_antisymm hq hge
      rw [interpolate, if_neg (Nat.lt_irrefl _), interpolate_start (List.pairwise_cons.mp h).2]
      exact (between_end hpq.1 (Nat.le_of_lt hpq.2)).symm
  | cons f rest ih =>
    obtain ⟨rfl, rfl⟩ : (x0, y0) = f ∧ pts = rest ++ p :: q :: back := by simpa using hsplit
    have htail := (List.pairwise_cons.mp h).2
    cases rest with
    | nil =>
      rw [List.nil_append, interpolate, if_neg (by omega)]
      exact ih htail rfl
    | cons g rest =>
      have hgp : g.1 < p.1 := ((List.pairwise_cons.mp htail).1 p (by simp)).1
      rw [List.cons_append, interpolate, if_neg (by omega)]
      exact ih htail rfl

/-! ### The weir (R12) -/

/-- A point of a weir table as a point of an interpolation. -/
def weirPair (p : WeirPoint) : Nat × Nat := (p.head, p.flow)

/-- At a head that is not below 0 the flow is read from the table after the implied point (0, 0). -/
theorem weirFlow_nat {weir : List WeirPoint} (h : ((0, 0) :: weir.map weirPair).Pairwise PointBelow) (head : Nat) :
    weirFlow weir (head : Int) = interpolate 0 0 (weir.map weirPair) head := by
  rcases Nat.eq_zero_or_pos head with rfl | hpos
  · rw [interpolate_start h]; rfl
  · rw [weirFlow, if_neg (by omega)]; rfl

/-- Settles O11: the flow over a weir is the interpolation through its table after the implied point (0, 0). -/
theorem weirFlowFollowsTheTable : Obligations.WeirFlowFollowsTheTable := by
  intro weir hrise
  have hpairs : ((0, 0) :: weir.map weirPair).Pairwise PointBelow :=
    (List.pairwise_map (f := weirPair) (R := PointBelow)).mpr hrise
  refine ⟨fun h hh => by simp [weirFlow, hh], fun p h hp hh => ?_, fun front back p q h hsplit hp hq => ?_⟩
  · have hlast : ((0, 0) :: weir.map weirPair).getLast? = some (weirPair p) := by
      rw [List.getLast?_cons, List.getLast?_map, hp]; rfl
    rw [weirFlow_nat hpairs, interpolate_from_last hpairs hlast hh]
    rfl
  · have hsplit_pairs : (0, 0) :: weir.map weirPair = front.map weirPair ++ weirPair p :: weirPair q :: back.map weirPair := by
      simpa [weirPair] using congrArg (List.map weirPair) hsplit
    rw [weirFlow_nat hpairs, interpolate_of_mem hpairs hsplit_pairs hp hq]
    rfl

end Sys2Proof.Machine

/-! PROOF. Requests that are refused, good frames, and the records of bays, outfalls and alarm lines (R3 to R11, R181, R195 to R199, R212). -/

namespace Sys2Proof.Machine

/-! ### Requests that are refused (R198) -/

/-- A request that finds the port free and is refused changes nothing: it is answered on the state it found. -/
theorem hostRequest_refused {m : Moment} {q : Byte} {r : Request} {s : State} {res : Result} (h : PortFree s)
    (hr : handleRequest r (arrive m s) = refuse res (arrive m s)) (hok : res ≠ .ok) (hacc : res ≠ .accepted) :
    hostRequest m q r s = .next (answered q (replyKind r) res .empty (arrive m s)) := by
  have hok' : (res == Result.ok) = false := by simpa using hok
  have hacc' : (res == Result.accepted) = false := by simpa using hacc
  rw [hostRequest_free m q r s h]
  simp [takeRequest, hr, refuse, answered, clearReported, buildReply, hok', hacc']

/-- A request that finds the port free and is answered OK, and is neither FETCH_NOTICES nor RESTART. -/
theorem hostRequest_ok {m : Moment} {q : Byte} {r : Request} {s t : State} {body : ReplyBody} (h : PortFree s)
    (hr : handleRequest r (arrive m s) = answerOk body t) (hf : isFetch r = false)
    (hs : isRestart r = false) : hostRequest m q r s = .next (answered q (replyKind r) .ok body t) := by
  rw [hostRequest_answered m q r s h hf hs, hr]
  rfl

/-- What has been answered is being sent. -/
theorem replies_answered (q kind : Byte) (res : Result) (body : ReplyBody) (s : State) :
    Replies (answered q kind res body s) q kind res body :=
  ⟨_, rfl, rfl, rfl, rfl, rfl⟩

/-- An answer changes the port and the alarm lines alone. -/
@[simp] theorem answered_fields (q kind : Byte) (res : Result) (body : ReplyBody) (s : State) :
    (answered q kind res body s).image = s.image ∧ (answered q kind res body s).ret = s.ret ∧ (answered q kind res body s).mode = s.mode
      ∧ (answered q kind res body s).snd = s.snd ∧ (answered q kind res body s).lvl = s.lvl ∧ (answered q kind res body s).rain = s.rain
      ∧ (answered q kind res body s).spill = s.spill ∧ (answered q kind res body s).drn = s.drn
      ∧ (answered q kind res body s).inhibit = s.inhibit ∧ (answered q kind res body s).act = s.act :=
  ⟨rfl, rfl, rfl, rfl, rfl, rfl, rfl, rfl, rfl, rfl⟩

@[simp] theorem onFields_wrongLength {α : Type} (s : State) (f : α → Answer) : onFields .wrongLength s f = refuse .refusedLength s := rfl
@[simp] theorem onFields_fields {α : Type} (x : α) (s : State) (f : α → Answer) : onFields (.fields x) s f = f x := rfl

@[simp] theorem unlessRefused_nil (s : State) (a : Answer) : unlessRefused [] s a = a := rfl

/-- The first check decides where it applies, and the others where it does not. -/
@[simp] theorem unlessRefused_cons (c : Bool) (r : Result) (cs : List (Bool × Result)) (s : State) (a : Answer) :
    unlessRefused ((c, r) :: cs) s a = if c then refuse r s else unlessRefused cs s a := by
  cases c <;> rfl

/-- An index in range is an index of the table. -/
@[simp] theorem index?_val {n : Nat} (i : Fin n) : index? n i.val = some i := by
  simp [index?]

/-- An index out of range is none. -/
theorem index?_of_le {n i : Nat} (h : n ≤ i) : index? n i = none := by
  simp [index?, h]

/-- A kind that R211 does not list spells no request, whatever its body. -/
theorem parseRequest_unlisted {kind : Byte} (h : kind.toNat ∉ listedKinds) (body : List Byte) :
    parseRequest kind body = .unknownKind kind := by
  unfold parseRequest
  split
  case h_37 => rfl
  all_goals
    rename_i hk
    exact absurd (by rw [hk]; decide) h

/-! ### A good frame (R195, R196, R209) -/

/-- Of two states of the receiver the later one stays. -/
@[simp] theorem setReceiver_setReceiver (r r' : Receiver) (s : State) : setReceiver r (setReceiver r' s) = setReceiver r s := rfl

/-- A receiver that takes the state it has. -/
theorem setReceiver_self {r : Receiver} {s : State} (h : s.port.receiver = r) : setReceiver r s = s := by
  subst h; rfl

/-- The bytes up to the last one of a frame with a length byte up to 240 complete it. -/
theorem receiveBytes_complete {len : Byte} (hlen : len.toNat ≤ Config.maxBody) (got bs : List Byte) (s : State)
    (hbs : bs ≠ []) (hcount : (len :: got).length + bs.length = 5 + len.toNat) :
    receiveBytes bs (setReceiver (.receiving (len :: got)) s) = frameComplete (len :: got ++ bs) (setReceiver .hunting s) := by
  induction bs generalizing got with
  | nil => exact absurd rfl hbs
  | cons b rest ih =>
    have hstep : receiveByte (setReceiver (.receiving (len :: got)) s) b = collect (len :: got ++ [b]) (setReceiver (.receiving (len :: got)) s) :=
      rfl
    rw [receiveBytes, List.foldl_cons, hstep]
    simp only [List.length_cons] at hcount
    by_cases hrest : rest = []
    · subst hrest
      simp only [List.length_nil] at hcount
      simp [collect, Nat.not_lt.mpr hlen, show got.length + 1 + 1 = 5 + len.toNat by omega]
    · have hpos : 0 < rest.length := List.length_pos_of_ne_nil hrest
      have hnext : collect (len :: got ++ [b]) (setReceiver (.receiving (len :: got)) s) = setReceiver (.receiving (len :: (got ++ [b]))) s := by
        simp [collect, Nat.not_lt.mpr hlen, show got.length + 1 + 1 ≠ 5 + len.toNat by omega]
      rw [hnext]
      have := ih (got ++ [b]) hrest (by simp; omega)
      simpa [receiveBytes] using this

/-- The frame of a sequence byte, a kind and a body, as it comes on the line (R209). -/
def goodFrame (q kind : Byte) (body : List Byte) : List Byte :=
  0xA5#8 :: byteOf body.length :: q :: kind :: (body ++ checkBytes (byteOf body.length :: q :: kind :: body))

/-- The bytes of a good frame reach a hunting receiver: the request that they spell is offered to the receive slot. -/
theorem receiveBytes_goodFrame {q kind : Byte} {body : List Byte} {s : State} (h : s.port.receiver = .hunting) (hlen : body.length ≤ 240) :
    receiveBytes (goodFrame q kind body) s = offer { seq := q, request := parseRequest kind body } s := by
  have hbyte : (byteOf body.length).toNat = body.length := by
    rw [byteOf, BitVec.toNat_ofNat]
    omega
  have hstart : receiveBytes (goodFrame q kind body) s
      = receiveBytes (q :: kind :: (body ++ checkBytes (byteOf body.length :: q :: kind :: body)))
          (setReceiver (.receiving (byteOf body.length :: [])) s) := by
    have hfirst : receiveByte s 0xA5#8 = setReceiver (.receiving []) s := by simp [receiveByte, h]
    have hsecond : receiveByte (setReceiver (.receiving []) s) (byteOf body.length)
        = setReceiver (.receiving [byteOf body.length]) s := by
      have hle : ¬ Config.maxBody < (byteOf body.length).toNat := by rw [hbyte, Config.maxBody]; omega
      simp [receiveByte, setReceiver, collect, hle, show ¬ 1 = 5 + (byteOf body.length).toNat by omega, State.withPort]
    rw [goodFrame, receiveBytes, List.foldl_cons, List.foldl_cons, hfirst, hsecond]
    rfl
  rw [hstart, receiveBytes_complete (by rw [hbyte]; exact hlen) [] _ _ (by simp) (by simp [hbyte, checkBytes, be16]; omega),
    setReceiver_self h]
  have hcovered : ((byteOf body.length :: q :: kind :: body) ++ checkBytes (byteOf body.length :: q :: kind :: body)).take (3 + body.length)
      = byteOf body.length :: q :: kind :: body := List.take_left' (by simp; omega)
  simp only [List.cons_append] at hcovered
  simp [frameComplete, hbyte, hcovered]

/-- HOST_FRAME_COMPLETE with a good frame is the request that the frame spells (R197; log entry 14). -/
theorem exec_goodFrame {m : Moment} {q kind : Byte} {body : List Byte} {s : State} (hrun : s.run = .running)
    (h : s.port.receiver = .hunting) (hlen : body.length ≤ 240) :
    exec (.hostFrameComplete m (goodFrame q kind body)) s = hostRequest m q (parseRequest kind body) s := by
  have hexec : exec (.hostFrameComplete m (goodFrame q kind body)) s = whileRunning m (receiveBytes (goodFrame q kind body)) s := rfl
  rw [hexec, hostRequest, whileRunning_running _ _ _ hrun, whileRunning_running _ _ _ hrun, receiveBytes_goodFrame (by simpa using h) hlen]

/-- A good frame whose request is refused. -/
theorem exec_goodFrame_refused {m : Moment} {q kind : Byte} {body : List Byte} {s : State} {res : Result} (hfree : PortFree s)
    (h : s.port.receiver = .hunting) (hlen : body.length ≤ 240)
    (hr : handleRequest (parseRequest kind body) (arrive m s) = refuse res (arrive m s)) (hok : res ≠ .ok) (hacc : res ≠ .accepted) :
    exec (.hostFrameComplete m (goodFrame q kind body)) s
      = .next (answered q (replyKind (parseRequest kind body)) res .empty (arrive m s)) := by
  rw [exec_goodFrame hfree.1 h hlen, hostRequest_refused hfree hr hok hacc]

/-- A body of another length than its kind asks for is a wrong one (R212). -/
theorem ofLength_ne {α : Type} {n : Nat} {bs : List Byte} (h : bs.length ≠ n) (f : List Byte → α) : ofLength n bs f = .wrongLength := by
  simp [ofLength, h]

/-- SET_MODE with a value that is not listed is refused (R17). -/
theorem handleSetMode_unlisted {n : Nat} (h : 1 < n) (s : State) : handleSetMode (.fields n) s = refuse .refusedRange s := by
  simp [handleSetMode, show n ≠ 0 by omega, show n ≠ 1 by omega]

/-- INHIBIT_AUTO of a bay out of range, or with a value that is not listed, is refused (R151; log entry 59). -/
theorem handleInhibit_outside {f : InhibitFields} (h : 8 ≤ f.bay ∨ 1 < f.value) (s : State) :
    handleInhibit (.fields f) s = refuse .refusedRange s := by
  rw [handleInhibit, onFields_fields]
  split
  · rename_i hvalue
    rw [onBay, index?_of_le (by omega)]
  · rfl

/-- SET_PARAMS of a group that is not known (R21). -/
theorem parseParams_noGroup {group : Byte} (h : group.toNat = 0 ∨ 6 < group.toNat) (rest : List Byte) :
    parseParams (group :: rest) = .setParamsNoGroup := by
  unfold parseParams
  dsimp only
  split
  case h_7 => rfl
  all_goals
    rename_i hk
    omega

/-- A command is a request of the host that is refused for its length, with a reply of a kind. -/
def RefusedForLength (m : Moment) (q : Byte) (s : State) (p : Instr × Byte) : Prop :=
  ∃ r, exec p.1 s = hostRequest m q r s ∧ p.2 = replyKind r ∧ ∀ a, handleRequest r a = refuse .refusedLength a

/-- Every request tests the length of its body first (R212). -/
theorem wrongLengthRequests_refused (m : Moment) (q : Byte) (s : State) : ∀ p ∈ wrongLengthRequests m q, RefusedForLength m q s p := by
  simp only [wrongLengthRequests, List.cons_append, List.nil_append, List.forall_mem_cons, List.not_mem_nil, IsEmpty.forall_iff, implies_true,
    and_true]
  repeat' apply And.intro
  all_goals exact ⟨_, rfl, rfl, fun _ => rfl⟩

/-- Settles O17: each of these requests is refused before its block looks at the state. -/
theorem wrongLengthAndKindRefused : Obligations.WrongLengthAndKindRefused := by
  intro m q s hfree
  refine ⟨fun p hp => ?_, fun kind hkind => ?_, fun hhunting => ?_⟩
  · obtain ⟨r, hexec, hkind, hr⟩ := wrongLengthRequests_refused m q s p hp
    rw [hexec, hkind]
    exact hostRequest_refused hfree (hr _) (by decide) (by decide)
  · have hparse := parseRequest_unlisted hkind []
    have hexec : exec (.unknownKindRequest m q kind) s = hostRequest m q (parseRequest kind []) s := rfl
    rw [hexec, hparse]
    exact hostRequest_refused hfree rfl (by decide) (by decide)
  · refine ⟨fun body hlen => ⟨fun hne => ?_, fun hne => ?_⟩, fun value hvalue => ?_, fun bay value hout => ?_, ?_, fun group rest hlen hgroup => ?_⟩
    · refine exec_goodFrame_refused hfree hhunting hlen ?_ (by decide) (by decide)
      change handleSetMode (byteBody body) _ = _
      rw [byteBody, ofLength_ne hne, handleSetMode, onFields_wrongLength]
    · refine exec_goodFrame_refused hfree hhunting hlen ?_ (by decide) (by decide)
      change handleInhibit (ofLength 2 body _) _ = _
      rw [ofLength_ne hne, handleInhibit, onFields_wrongLength]
    · exact exec_goodFrame_refused hfree hhunting (by simp) (handleSetMode_unlisted hvalue _) (by decide) (by decide)
    · exact exec_goodFrame_refused hfree hhunting (by simp) (handleInhibit_outside (f := ⟨bay.toNat, value.toNat⟩) hout _) (by decide) (by decide)
    · exact exec_goodFrame_refused hfree hhunting (by simp) rfl (by decide) (by decide)
    · have hparse : parseRequest 0x08#8 (group :: rest) = .setParamsNoGroup := parseParams_noGroup hgroup rest
      have hrefused := exec_goodFrame_refused (m := m) (q := q) (kind := 0x08#8) (body := group :: rest) (res := .refusedRange) hfree hhunting
        (by simp; omega) (by rw [hparse]; rfl) (by decide) (by decide)
      rwa [hparse] at hrefused

/-! ### Records of bays, outfalls and alarm lines (R3 to R6, R11, R181) -/

/-- The first checks of SET_BAY read the image alone, which no moment changes. -/
@[simp] theorem deviceMissing_arrive (m : Moment) (s : State) (r : BayRec) : deviceMissing (arrive m s) r = deviceMissing s r := by
  simp [deviceMissing]

@[simp] theorem crossFails_arrive (m : Moment) (s : State) (b : Fin 8) (r : BayRec) :
    crossFails (arrive m s) b r = crossFails s b r := by
  simp [crossFails, crossFailsEnabled, successorEnabled, otherBays]

/-- The state check of SET_BAY reads the image, the orders and the spill states, which no moment changes. -/
@[simp] theorem bayStateFails_arrive (m : Moment) (s : State) (b : Fin 8) (r : BayRec) :
    bayStateFails (arrive m s) b r = bayStateFails s b r := by
  simp [bayStateFails, outfallOf, notQuiet]

/-- SET_BAY of a bay: its checks in their order, and then its effects (R3). -/
theorem handleSetBay_of_bay {b : Fin 8} {f : BayFields} (h : f.bay = b.val) (s : State) :
    handleSetBay (.fields f) s = unlessRefused
      [(!bayFieldsValid f, .refusedRange), (deviceMissing s (bayRecord f), .refusedUnconfigured), (crossFails s b (bayRecord f), .refusedRange),
        (bayStateFails s b (bayRecord f), .refusedState)] s (answerOk .empty (applyBay b (bayRecord f) s)) := by
  rw [handleSetBay, onFields_fields, h, index?_val]

/-- Settles O29: the checks of SET_BAY stand in the manual's order, and the first that applies decides. -/
theorem setBayIsRefusedInOrder : Obligations.SetBayIsRefusedInOrder := by
  intro m q f s hfree
  have refused (res : Result) (hr : handleSetBay (.fields f) (arrive m s) = refuse res (arrive m s)) (hok : res ≠ .ok)
      (hacc : res ≠ .accepted) : exec (.setBay m q (.fields f)) s = .next (answered q 0x90#8 res .empty (arrive m s)) :=
    hostRequest_refused (r := .setBay (.fields f)) hfree hr hok hacc
  refine ⟨fun hbay => ?_, fun b hbay => ⟨fun hvalid => ?_, fun hvalid hmissing => ?_, fun hvalid hmissing hcross => ?_,
    fun hvalid hmissing hcross hstate => ?_⟩⟩
  · exact refused _ (by rw [handleSetBay, onFields_fields, index?_of_le hbay]) (by decide) (by decide)
  · exact refused _ (by simp [handleSetBay_of_bay hbay, hvalid]) (by decide) (by decide)
  · exact refused _ (by simp [handleSetBay_of_bay hbay, hvalid, hmissing]) (by decide) (by decide)
  · exact refused _ (by simp [handleSetBay_of_bay hbay, hvalid, hmissing, hcross]) (by decide) (by decide)
  · exact refused _ (by simp [handleSetBay_of_bay hbay, hvalid, hmissing, hcross, hstate]) (by decide) (by decide)

/-- SET_OUTFALL of an outfall: its checks in their order, and then its record (R11). -/
theorem handleSetOutfall_of_outfall {k : Fin 4} {f : OutfallFields} (h : f.outfall = k.val) (s : State) :
    handleSetOutfall (.fields f) s = unlessRefused
      [(!outfallFieldsValid f, .refusedRange), ((s.outfall k).configured && notQuiet s k, .refusedState)] s
      (answerOk .empty (writeImage { s.image with outfalls := s.image.outfalls.put k (outfallRecord f) } s)) := by
  rw [handleSetOutfall, onFields_fields, h, index?_val]

/-- SET_OUTFALL of no outfall, or with a field out of range, is refused (R11). -/
theorem handleSetOutfall_outside {f : OutfallFields} (h : 4 ≤ f.outfall ∨ outfallFieldsValid f = false) (s : State) :
    handleSetOutfall (.fields f) s = refuse .refusedRange s := by
  rcases Nat.lt_or_ge f.outfall 4 with hlt | hge
  · have hvalid : outfallFieldsValid f = false := h.resolve_left (by omega)
    simp [handleSetOutfall_of_outfall (k := ⟨f.outfall, hlt⟩) rfl, hvalid]
  · rw [handleSetOutfall, onFields_fields, index?_of_le hge]

/-- A configured outfall whose record SET_OUTFALL may not write is one that is not QUIET (R11). -/
theorem outfallBusy_eq_true (s : State) (k : Fin 4) :
    ((s.outfall k).configured && notQuiet s k) = true ↔ (s.outfall k).configured = true ∧ s.spillState k ≠ .quiet := by
  simp [notQuiet]

/-- SET_ALARM_LINE of a line with a condition and a grouping: its check, and then its record (R181). -/
theorem handleSetAlarmLine_of_line {l : Fin 4} {c : AlarmCondition} {g : Grouping} {f : AlarmFields} (hl : f.line = l.val)
    (hc : AlarmCondition.ofCode? f.condition = some c) (hg : Grouping.ofCode? f.grouping = some g) (s : State) :
    handleSetAlarmLine (.fields f) s = unlessRefused [(c == .alert && !inRange 1 3 f.level, .refusedRange)] s
      (answerOk .empty (writeImage { s.image with
        alarms := s.image.alarms.put l { condition := c, level := f.level, grouping := g, mask := f.mask } } s)) := by
  rw [handleSetAlarmLine, onFields_fields, hl, index?_val, hc, hg]

theorem alarmCondition_ofCode?_of_lt {n : Nat} (h : 4 < n) : AlarmCondition.ofCode? n = none := by
  unfold AlarmCondition.ofCode?
  split
  case h_6 => rfl
  all_goals omega

theorem grouping_ofCode?_of_lt {n : Nat} (h : 2 < n) : Grouping.ofCode? n = none := by
  unfold Grouping.ofCode?
  split
  case h_4 => rfl
  all_goals omega

/-- SET_ALARM_LINE of no line, no condition or no grouping is refused (R181). -/
theorem handleSetAlarmLine_outside {f : AlarmFields} (h : 4 ≤ f.line ∨ 4 < f.condition ∨ 2 < f.grouping) (s : State) :
    handleSetAlarmLine (.fields f) s = refuse .refusedRange s := by
  rw [handleSetAlarmLine, onFields_fields]
  split
  · rename_i hl hc hg
    rcases h with h | h | h
    · rw [index?_of_le h] at hl
      cases hl
    · rw [alarmCondition_ofCode?_of_lt h] at hc
      cases hc
    · rw [grouping_ofCode?_of_lt h] at hg
      cases hg
  · rfl

/-- Settles O30: a record in range is written, and the request does nothing else. -/
theorem outfallAndAlarmRecordsAreStored : Obligations.OutfallAndAlarmRecordsAreStored := by
  intro m q s hfree
  refine ⟨fun k f hk hvalid => ⟨fun hquiet => ?_, fun hbusy => ?_⟩, fun f hout => ?_, fun l c g f hl hc hg => ⟨fun hlevel => ?_, fun hlevel => ?_⟩,
    fun f hout => ?_⟩
  · have hfree_to_write : ((s.outfall k).configured && notQuiet (arrive m s) k) = false := by
      rw [← Bool.not_eq_true, ← outfall_arrive m s, outfallBusy_eq_true]
      rcases hquiet with h | h <;> simp [h]
    refine hostRequest_ok (r := .setOutfall (.fields f)) hfree ?_ rfl rfl
    change handleSetOutfall (.fields f) (arrive m s) = _
    simp [handleSetOutfall_of_outfall hk, hvalid, hfree_to_write]
    rfl
  · have hnot_free : ((s.outfall k).configured && notQuiet (arrive m s) k) = true := by
      rw [← outfall_arrive m s, outfallBusy_eq_true]
      simpa using hbusy
    refine hostRequest_refused (r := .setOutfall (.fields f)) hfree ?_ (by decide) (by decide)
    change handleSetOutfall (.fields f) (arrive m s) = _
    simp [handleSetOutfall_of_outfall hk, hvalid, hnot_free]
  · exact hostRequest_refused (r := .setOutfall (.fields f)) hfree (handleSetOutfall_outside hout _) (by decide) (by decide)
  · have hcheck : (c == .alert && !inRange 1 3 f.level) = false := by
      rcases hlevel with h | h <;> simp [h, inRange]
    refine hostRequest_ok (r := .setAlarmLine (.fields f)) hfree ?_ rfl rfl
    change handleSetAlarmLine (.fields f) (arrive m s) = _
    simp [handleSetAlarmLine_of_line hl hc hg, hcheck]
  · obtain ⟨rfl, hout⟩ := hlevel
    have hcheck : inRange 1 3 f.level = false := by
      simp [inRange]
      omega
    refine hostRequest_refused (r := .setAlarmLine (.fields f)) hfree ?_ (by decide) (by decide)
    change handleSetAlarmLine (.fields f) (arrive m s) = _
    simp [handleSetAlarmLine_of_line hl hc hg, hcheck]
  · exact hostRequest_refused (r := .setAlarmLine (.fields f)) hfree (handleSetAlarmLine_outside hout _) (by decide) (by decide)

end Sys2Proof.Machine

/-! PROOF. What the reactions of the planner, the drain scheduler and the two queues leave of the mode and of the sounding scheduler. -/

namespace Sys2Proof.Machine

/-! ### Operations that leave the mode and the sounding scheduler alone -/

@[simp] theorem mode_snd_postAt (t i : Nat) (d : NoticeDetail) (s : State) :
    (postAt t i d s).mode = s.mode ∧ (postAt t i d s).snd = s.snd := ⟨rfl, rfl⟩

@[simp] theorem mode_snd_post (i : Nat) (d : NoticeDetail) (s : State) :
    (post i d s).mode = s.mode ∧ (post i d s).snd = s.snd := ⟨rfl, rfl⟩

@[simp] theorem mode_snd_dropChoice (s : State) : (dropChoice s).mode = s.mode ∧ (dropChoice s).snd = s.snd := ⟨rfl, rfl⟩

@[simp] theorem mode_snd_consume (s : State) : (consume s).mode = s.mode ∧ (consume s).snd = s.snd := ⟨rfl, rfl⟩

@[simp] theorem mode_snd_withCounters (s : State) (c : CreditCounters) :
    (s.withCounters c).mode = s.mode ∧ (s.withCounters c).snd = s.snd := ⟨rfl, rfl⟩

@[simp] theorem mode_snd_recordOutcome (d : Fin 16) (c : LineCommand) (o : Originator) (oc : LineOutcome) (s : State) :
    (recordOutcome d c o oc s).mode = s.mode ∧ (recordOutcome d c o oc s).snd = s.snd := ⟨rfl, rfl⟩

@[simp] theorem mode_snd_reshutFailed (b : Fin 8) (f : Failure) (s : State) :
    (reshutFailed b f s).mode = s.mode ∧ (reshutFailed b f s).snd = s.snd := by
  unfold reshutFailed; split <;> simp

@[simp] theorem mode_snd_tellSuperseded (o : Originator) (c : LineCommand) (s : State) :
    (tellSuperseded o c s).mode = s.mode ∧ (tellSuperseded o c s).snd = s.snd := by
  unfold tellSuperseded
  repeat' split
  all_goals simp

@[simp] theorem mode_snd_supersede (w : LineEntry) (s : State) : (supersede w s).mode = s.mode ∧ (supersede w s).snd = s.snd := by
  unfold supersede; dsimp only; split <;> simp

@[simp] theorem mode_snd_lineTake (s : State) : (lineTake s).mode = s.mode ∧ (lineTake s).snd = s.snd := by
  unfold lineTake; split <;> simp

@[simp] theorem mode_snd_putDrive (d : Fin 16) (c : LineCommand) (o : Originator) (s : State) :
    (putDrive d c o s).mode = s.mode ∧ (putDrive d c o s).snd = s.snd := by
  unfold putDrive; split <;> simp

@[simp] theorem mode_snd_putForOrder (b : Fin 8) (c : LineCommand) (s : State) :
    (putForOrder b c s).mode = s.mode ∧ (putForOrder b c s).snd = s.snd := by
  unfold putForOrder; split <;> simp

@[simp] theorem mode_snd_forfeit (b : Fin 8) (s : State) : (forfeit b s).mode = s.mode ∧ (forfeit b s).snd = s.snd := by
  unfold forfeit
  repeat' split
  all_goals simp

@[simp] theorem mode_snd_changeHolds (b : Fin 8) (f : HoldCauses → HoldCauses) (s : State) :
    (changeHolds b f s).mode = s.mode ∧ (changeHolds b f s).snd = s.snd := by
  unfold changeHolds; split <;> simp

@[simp] theorem mode_snd_enterOpening (b : Fin 8) (s : State) :
    (enterOpening b s).mode = s.mode ∧ (enterOpening b s).snd = s.snd := by
  unfold enterOpening; split <;> simp

@[simp] theorem mode_snd_creditsWanted (s : State) : (creditsWanted s).mode = s.mode ∧ (creditsWanted s).snd = s.snd := by
  unfold creditsWanted
  repeat' split
  all_goals simp

@[simp] theorem mode_snd_slotGrantRounds (n : Nat) (s : State) :
    (slotGrantRounds n s).mode = s.mode ∧ (slotGrantRounds n s).snd = s.snd := by
  induction n generalizing s with
  | zero => exact mode_snd_creditsWanted s
  | succ n ih =>
    unfold slotGrantRounds
    repeat' split
    all_goals simp [ih]

@[simp] theorem mode_snd_slotGrant (s : State) : (slotGrant s).mode = s.mode ∧ (slotGrant s).snd = s.snd :=
  mode_snd_slotGrantRounds 8 s

@[simp] theorem mode_snd_plannerBay (s : State) (b : Fin 8) : (plannerBay s b).mode = s.mode ∧ (plannerBay s b).snd = s.snd := by
  unfold plannerBay; split <;> simp

/-- A fold of steps that leave the mode and the sounding scheduler alone. -/
theorem mode_snd_foldl {α : Type} (f : State → α → State) (h : ∀ s a, (f s a).mode = s.mode ∧ (f s a).snd = s.snd) (l : List α) (s : State) :
    (l.foldl f s).mode = s.mode ∧ (l.foldl f s).snd = s.snd := by
  induction l generalizing s with
  | nil => exact ⟨rfl, rfl⟩
  | cons a t ih =>
    obtain ⟨hm, hs⟩ := ih (f s a)
    exact ⟨hm.trans (h s a).1, hs.trans (h s a).2⟩

@[simp] theorem mode_snd_plannerEvaluation (s : State) :
    (plannerEvaluation s).mode = s.mode ∧ (plannerEvaluation s).snd = s.snd :=
  mode_snd_foldl _ mode_snd_plannerBay _ _

/-! ### Operations of the sounding scheduler leave the mode alone -/

@[simp] theorem mode_supplyOn (s : State) : (supplyOn s).mode = s.mode := by
  unfold supplyOn; split <;> simp

@[simp] theorem mode_supplyOff (s : State) : (supplyOff s).mode = s.mode := rfl

@[simp] theorem mode_supplyFollowsMode (s : State) : (supplyFollowsMode s).mode = s.mode := by
  unfold supplyFollowsMode
  repeat' split
  all_goals simp

@[simp] theorem mode_engineTake (s : State) : (engineTake s).mode = s.mode := by
  unfold engineTake; dsimp only
  repeat' split
  all_goals simp

@[simp] theorem mode_queueEntry (e : SoundingEntry) (s : State) : (queueEntry e s).mode = s.mode := rfl

@[simp] theorem mode_reviseEntry (b : Fin 8) (s : State) : (reviseEntry b s).mode = s.mode := by
  unfold reviseEntry; split <;> simp

@[simp] theorem mode_intervalChanged (b : Fin 8) (s : State) : (intervalChanged b s).mode = s.mode := by
  simp [intervalChanged]

/-- A fold of steps that leave the mode alone. -/
theorem mode_foldl {α : Type} (f : State → α → State) (h : ∀ s a, (f s a).mode = s.mode) (l : List α) (s : State) :
    (l.foldl f s).mode = s.mode := by
  induction l generalizing s with
  | nil => rfl
  | cons a t ih => rw [List.foldl_cons, ih, h]

@[simp] theorem mode_intervalsChanged (s : State) : (intervalsChanged s).mode = s.mode := by
  rw [intervalsChanged, mode_engineTake]
  exact mode_foldl _ (fun s b => mode_reviseEntry b s) _ _

/-- A change of mode leaves the mode that it changes to. -/
@[simp] theorem mode_changeMode (m : Mode) (o : ModeOrigin) (s : State) : (changeMode m o s).mode = m := by
  simp [changeMode]

/-! ### The settled mode (R15) -/

/-- An evaluation ends in the settled mode. -/
@[simp] theorem mode_evaluateMode (s : State) : (evaluateMode s).mode = settledFrom s s.mode := by
  unfold evaluateMode
  split
  · rename_i h
    exact h.symm
  · simp

/-- Where no transition of a mode holds, the evaluation ends there. -/
theorem settle_of_stable {n : Nat} {a : Alert} {f sp e : Bool} {m : Mode} (h : modeTransition a f sp e m = none) :
    settle n a f sp e m = m := by
  cases n <;> simp [settle, h]

/-- A transition that holds is taken, and the evaluation goes on from there. -/
theorem settle_of_transition {n : Nat} {a : Alert} {f sp e : Bool} {m m' : Mode} (h : modeTransition a f sp e m = some m') :
    settle (n + 1) a f sp e m = settle n a f sp e m' := by
  simp [settle, h]

/-- MAINTENANCE has no transition. -/
@[simp] theorem settledFrom_maintenance (s : State) : settledFrom s .maintenance = .maintenance := settle_of_stable rfl

/-- The inputs of the site mode are read from the image, the rain watch, the levels, the spill states and the orders. -/
theorem settledFrom_congr {s t : State} (hi : t.image = s.image) (hr : t.rain = s.rain) (hl : t.lvl = s.lvl) (hs : t.spill = s.spill)
    (ho : t.drn.orders = s.drn.orders) (m : Mode) : settledFrom t m = settledFrom s m := by
  have hbay (b : Fin 8) : t.bay b = s.bay b := by simp [State.bay, hi]
  have hlevel (b : Fin 8) : t.level b = s.level b := by simp [State.level, hl]
  have horder (b : Fin 8) : t.order b = s.order b := by simp [State.order, ho]
  have hspill (k : Fin 4) : t.spillState k = s.spillState k := by simp [State.spillState, hs]
  have hspilling : spilling t = spilling s := by
    unfold spilling notQuiet; simp only [hspill]
  have hfilled : filled t = filled s := by
    unfold filled bayFilled; simp only [hbay, hlevel]
  have hempty : allEmpty t = allEmpty s := by
    unfold allEmpty bayEmpty; simp only [hbay, hlevel, horder]
  simp only [settledFrom, hr, hspilling, hfilled, hempty]

/-- No bay with rising thresholds counts as filled and as empty, so no station does. -/
theorem allEmpty_of_filled {s : State} (hrange : RecordsInRange s) (h : filled s = true) : allEmpty s = false := by
  obtain ⟨b, hmem, hb⟩ := List.any_eq_true.mp h
  simp only [bayFilled, Bool.and_eq_true] at hb
  obtain ⟨⟨henabled, -⟩, hvalue⟩ := hb
  have hnot : bayEmpty s b = false := by
    have hrise := (hrange.1 b henabled).1
    unfold bayEmpty
    cases hv : (s.level b).value with
    | none => simp
    | some v =>
      rw [hv] at hvalue
      have : (s.bay b).fill < v := by simpa using hvalue
      simp
      omega
  simp only [allEmpty, Bool.and_eq_false_iff, List.all_eq_false]
  exact Or.inl ⟨b, hmem, by simp [henabled, hnot]⟩

/-- An alert level above none has a rank of 1 at least. -/
theorem one_le_rank_iff (a : Alert) : 1 ≤ a.rank ↔ a ≠ .none := by
  cases a <;> decide

section
variable {a : Alert} {f sp e : Bool}

/-- The evaluation from DRY or WATCH of a station that is filled, and so not empty. -/
theorem settle_filled {m : Mode} (hm : m = .dry ∨ m = .watch) (n : Nat) :
    settle (n + 2) a true sp false m = if a = .none ∧ sp = false then .recovery else .storm := by
  have hstorm : modeTransition a true sp false m = some .storm := by
    rcases hm with rfl | rfl <;> rfl
  rw [settle_of_transition hstorm]
  split
  · rename_i hquiet
    rw [settle_of_transition (m' := .recovery) (by simp [modeTransition, hquiet])]
    exact settle_of_stable (by simp [modeTransition, hquiet, Alert.rank])
  · rename_i hloud
    exact settle_of_stable (by simp only [modeTransition, if_neg hloud])

/-- The evaluation from DRY or WATCH of a station that is not filled: the alert level decides. -/
theorem settle_unfilled {m : Mode} (hm : m = .dry ∨ m = .watch) (n : Nat) :
    settle (n + 1) a false sp e m = if a = .none then .dry else .watch := by
  have hdry : modeTransition a false sp e .dry = if a = .none then none else some .watch := by
    by_cases ha : a = .none
    · simp [modeTransition, ha, Alert.rank]
    · simp [modeTransition, ha, (one_le_rank_iff a).mpr ha]
  have hwatch : modeTransition a false sp e .watch = if a = .none then some .dry else none := rfl
  by_cases ha : a = .none
  · rw [if_pos ha] at hdry hwatch ⊢
    rcases hm with rfl | rfl
    · exact settle_of_stable hdry
    · rw [settle_of_transition hwatch, settle_of_stable hdry]
  · rw [if_neg ha] at hdry hwatch ⊢
    rcases hm with rfl | rfl
    · rw [settle_of_transition hdry, settle_of_stable hwatch]
    · exact settle_of_stable hwatch

/-- The evaluation from RECOVERY, where a station that is empty is not filled. -/
theorem settle_recovery (hfe : f = true → e = false) (n : Nat) :
    settle (n + 2) a f sp e .recovery
      = if 2 ≤ a.rank ∨ sp = true then .storm else if e = true then (if a = .none then .dry else .watch) else .recovery := by
  split
  · rename_i hloud
    have hstays : ¬ (a = .none ∧ sp = false) := by
      rintro ⟨rfl, rfl⟩
      simp [Alert.rank] at hloud
    rw [settle_of_transition (m' := .storm) (by simp [modeTransition, hloud])]
    exact settle_of_stable (by simp only [modeTransition, if_neg hstays])
  · rename_i hcalm
    split
    · rename_i he
      obtain rfl : f = false := by
        rw [← Bool.not_eq_true]
        intro hf
        simp [hfe hf] at he
      rw [settle_of_transition (m' := .dry) (by simp only [modeTransition, if_neg hcalm, if_pos he])]
      exact settle_unfilled (Or.inl rfl) n
    · rename_i he
      exact settle_of_stable (by simp only [modeTransition, if_neg hcalm, if_neg he])

/-- The evaluation from STORM, where a station that is empty is not filled. -/
theorem settle_storm (hfe : f = true → e = false) (n : Nat) :
    settle (n + 3) a f sp e .storm
      = if a = .none ∧ sp = false then (if e = true then .dry else .recovery) else .storm := by
  split
  · rename_i hquiet
    rw [settle_of_transition (m' := .recovery) (by simp only [modeTransition, if_pos hquiet]), settle_recovery hfe]
    simp [hquiet, Alert.rank]
  · rename_i hloud
    exact settle_of_stable (by simp only [modeTransition, if_neg hloud])

end

/-- Settles O35: `settle` taken mode by mode, and `evaluateMode` by whether the settled mode is another one. -/
theorem modeSettlesByTheTable : Obligations.ModeSettlesByTheTable := by
  intro s hrange
  have hfe : filled s = true → allEmpty s = false := allEmpty_of_filled hrange
  have hfilled (m : Mode) (hm : m = .dry ∨ m = .watch) (hf : filled s = true) :
      settledFrom s m = if s.rain.alert = .none ∧ spilling s = false then .recovery else .storm := by
    rw [settledFrom, hf, hfe hf, settle_filled hm]
  have hunfilled (m : Mode) (hm : m = .dry ∨ m = .watch) (hf : filled s = false) :
      settledFrom s m = if s.rain.alert = .none then .dry else .watch := by
    rw [settledFrom, hf, settle_unfilled hm]
  have hstorm : settledFrom s .storm
      = if s.rain.alert = .none ∧ spilling s = false then (if allEmpty s = true then .dry else .recovery) else .storm :=
    settle_storm hfe 1
  have hrecovery : settledFrom s .recovery = if 2 ≤ s.rain.alert.rank ∨ spilling s = true then .storm
      else if allEmpty s = true then (if s.rain.alert = .none then .dry else .watch) else .recovery :=
    settle_recovery hfe 2
  refine ⟨settledFrom_maintenance s, fun m hm => ⟨fun hf hq => ?_, fun hf hq => ?_, fun hf ha => ?_, fun hf ha => ?_⟩,
    ⟨fun hq he => ?_, fun hq he => ?_, fun hq => ?_⟩, ⟨fun h => ?_, fun hr hsp he => ?_, fun ha hsp he => ?_, fun hq he => ?_⟩,
    mode_evaluateMode s, fun h => ?_, fun h => ?_⟩
  · rw [hfilled m hm hf, if_pos hq]
  · rw [hfilled m hm hf, if_neg hq]
  · rw [hunfilled m hm hf, if_pos ha]
  · rw [hunfilled m hm hf, if_neg ha]
  · rw [hstorm, if_pos hq, if_pos he]
  · simp [hstorm, hq, he]
  · rw [hstorm, if_neg hq]
  · rw [hrecovery, if_pos h]
  · simp [hrecovery, Nat.not_le.mpr hr, hsp, he]
  · simp [hrecovery, ha, hsp, he, Alert.rank]
  · simp [hrecovery, hq, he, Alert.rank]
  · rw [evaluateMode, if_pos h]
  · rw [evaluateMode, if_neg h]
    rfl

end Sys2Proof.Machine

/-! PROOF. SET_MODE: what the planner's cancellations leave of the orders (R17, R18, R149). -/

namespace Sys2Proof.Machine

/-! ### MAINTENANCE: the planner makes no order, and the mode stays -/

/-- In MAINTENANCE the planner calls for no drain. -/
theorem plannerTarget_maintenance {s : State} (h : s.mode = .maintenance) : plannerTarget s = .none := by
  simp [plannerTarget, h]

theorem plannerBay_maintenance {s : State} (h : s.mode = .maintenance) (b : Fin 8) : plannerBay s b = s := by
  simp [plannerBay, plannerTarget_maintenance h, targetLevel]

/-- In MAINTENANCE an evaluation of the planner changes nothing. -/
theorem plannerEvaluation_maintenance {s : State} (h : s.mode = .maintenance) : plannerEvaluation s = s := by
  have hfold (l : List (Fin 8)) : l.foldl plannerBay s = s := by
    induction l with
    | nil => rfl
    | cons b t ih => rw [List.foldl_cons, plannerBay_maintenance h, ih]
  exact hfold allBays

/-- In MAINTENANCE an evaluation of the mode changes nothing. -/
theorem evaluateMode_maintenance {s : State} (h : s.mode = .maintenance) : evaluateMode s = s := by
  simp [evaluateMode, h]

/-- In MAINTENANCE the planner takes an event without an effect. -/
theorem plannerTake_maintenance {s : State} (h : s.mode = .maintenance) : plannerTake s = s := by
  simp [plannerTake, plannerEvaluation_maintenance h, evaluateMode_maintenance h]

/-- In MAINTENANCE a retirement reaches the site model and the planner without an effect. -/
theorem sitePlanner_maintenance {s : State} (h : s.mode = .maintenance) : sitePlanner s = dropChoice s := by
  have hd : (dropChoice s).mode = .maintenance := h
  simp [sitePlanner, evaluateMode_maintenance hd, plannerTake_maintenance hd]

/-! ### The source and the state of an order -/

/-- The source and the state of a bay's order. -/
def orderShape (s : State) (b : Fin 8) : Option (Source × OrderState) := (s.order b).map fun o => (o.source, o.state)

theorem orderShape_of_order {s : State} {b : Fin 8} {o : Order} (h : s.order b = some o) : orderShape s b = some (o.source, o.state) := by
  simp [orderShape, h]

/-- An order of a known shape. -/
theorem order_of_orderShape {s : State} {b : Fin 8} {x : Source × OrderState} (h : orderShape s b = some x) :
    ∃ o, s.order b = some o ∧ o.source = x.1 ∧ o.state = x.2 := by
  obtain ⟨o, ho, rfl⟩ := Option.map_eq_some_iff.mp h
  exact ⟨o, ho, rfl, rfl⟩

/-- Equal orders have equal shapes. -/
theorem orderShape_congr {s t : State} (h : t.drn.orders = s.drn.orders) (b : Fin 8) : orderShape t b = orderShape s b := by
  simp [orderShape, State.order, h]

theorem orderShape_setOrder (s : State) (b c : Fin 8) (o : Option Order) :
    orderShape (s.setOrder b o) c = if b = c then o.map (fun o => (o.source, o.state)) else orderShape s c := by
  unfold orderShape
  rw [State.order_setOrder]
  split <;> rfl

/-- An order that is written with another content of the same source and state keeps every shape. -/
theorem orderShape_setOrder_same {s : State} {b : Fin 8} {o x : Order} (h : s.order b = some o) (hs : x.source = o.source)
    (ht : x.state = o.state) (c : Fin 8) : orderShape (s.setOrder b (some x)) c = orderShape s c := by
  rw [orderShape_setOrder]
  split
  · rename_i hb
    subst hb
    simp [orderShape, h, hs, ht]
  · rfl

@[simp] theorem orderShape_post (i : Nat) (d : NoticeDetail) (s : State) (c : Fin 8) : orderShape (post i d s) c = orderShape s c := rfl
@[simp] theorem orderShape_dropChoice (s : State) (c : Fin 8) : orderShape (dropChoice s) c = orderShape s c := rfl
@[simp] theorem orderShape_withAct (s : State) (x : Actuator) (c : Fin 8) : orderShape (s.withAct x) c = orderShape s c := rfl
@[simp] theorem orderShape_withMode (s : State) (m : Mode) (c : Fin 8) : orderShape (s.withMode m) c = orderShape s c := rfl
@[simp] theorem orderShape_recordOutcome (d : Fin 16) (k : LineCommand) (o : Originator) (oc : LineOutcome) (s : State) (c : Fin 8) :
    orderShape (recordOutcome d k o oc s) c = orderShape s c := rfl

@[simp] theorem orderShape_reshutFailed (b : Fin 8) (f : Failure) (s : State) (c : Fin 8) :
    orderShape (reshutFailed b f s) c = orderShape s c := by
  unfold reshutFailed
  split
  · rename_i o ho
    rw [orderShape_post]
    exact orderShape_setOrder_same (x := { o with reshut := false }) ho rfl rfl c
  · rfl

@[simp] theorem orderShape_tellSuperseded (o : Originator) (k : LineCommand) (s : State) (c : Fin 8) :
    orderShape (tellSuperseded o k s) c = orderShape s c := by
  unfold tellSuperseded
  repeat' split
  all_goals simp

@[simp] theorem orderShape_supersede (w : LineEntry) (s : State) (c : Fin 8) : orderShape (supersede w s) c = orderShape s c := by
  unfold supersede; dsimp only; split <;> simp

@[simp] theorem orderShape_lineTake (s : State) (c : Fin 8) : orderShape (lineTake s) c = orderShape s c := by
  unfold lineTake; split <;> simp

@[simp] theorem orderShape_putDrive (d : Fin 16) (k : LineCommand) (o : Originator) (s : State) (c : Fin 8) :
    orderShape (putDrive d k o s) c = orderShape s c := by
  unfold putDrive; split <;> simp

@[simp] theorem orderShape_putForOrder (b : Fin 8) (k : LineCommand) (s : State) (c : Fin 8) :
    orderShape (putForOrder b k s) c = orderShape s c := by
  unfold putForOrder; split <;> simp

@[simp] theorem drn_supplyOn (s : State) : (supplyOn s).drn = s.drn := by
  unfold supplyOn; split <;> simp

@[simp] theorem drn_supplyFollowsMode (s : State) : (supplyFollowsMode s).drn = s.drn := by
  unfold supplyFollowsMode supplyOff
  repeat' split
  all_goals simp

@[simp] theorem drn_engineTake (s : State) : (engineTake s).drn = s.drn := by
  unfold engineTake; dsimp only
  repeat' split
  all_goals simp

@[simp] theorem drn_reviseEntry (b : Fin 8) (s : State) : (reviseEntry b s).drn = s.drn := by
  unfold reviseEntry; split <;> rfl

@[simp] theorem drn_intervalChanged (b : Fin 8) (s : State) : (intervalChanged b s).drn = s.drn := by
  simp [intervalChanged]

@[simp] theorem drn_intervalsChanged (s : State) : (intervalsChanged s).drn = s.drn := by
  have hfold (l : List (Fin 8)) (s : State) : (l.foldl (fun s b => reviseEntry b s) s).drn = s.drn := by
    induction l generalizing s with
    | nil => rfl
    | cons b t ih => rw [List.foldl_cons, ih, drn_reviseEntry]
  rw [intervalsChanged, drn_engineTake, hfold]

@[simp] theorem orderShape_intervalChanged (b : Fin 8) (s : State) (c : Fin 8) :
    orderShape (intervalChanged b s) c = orderShape s c := orderShape_congr (by simp) c

@[simp] theorem orderShape_forfeit (b : Fin 8) (s : State) (c : Fin 8) : orderShape (forfeit b s) c = orderShape s c := by
  unfold forfeit
  split
  · rename_i o ho
    split
    · have hdrained : o.creditDrained.source = o.source := by
        unfold Order.creditDrained; split <;> rfl
      exact orderShape_setOrder_same (s := s.withCounters _) (x := { o.creditDrained with credit := false }) ho hdrained (creditDrained_state o) c
    · rfl
  · rfl

/-- An order that is overtaken enters CLOSING; no other order changes its shape (R134). -/
theorem orderShape_overtake {s : State} {b : Fin 8} {x : Source × OrderState} (h : orderShape s b = some x) (k : ClosingCause) (c : Fin 8) :
    orderShape (overtake b k s) c = if b = c then some (x.1, .closing) else orderShape s c := by
  have hforfeit : orderShape (forfeit b s) b = some x := by rw [orderShape_forfeit, h]
  obtain ⟨o, ho, hsource, -⟩ := order_of_orderShape hforfeit
  rw [overtake, enterClosing, ho]
  have hshape : orderShape (putForOrder b .release ((forfeit b s).setOrder b
      (some { o with state := .closing, closing := some k, lot := none }))) c = if b = c then some (x.1, .closing) else orderShape s c := by
    rw [orderShape_putForOrder, orderShape_setOrder, orderShape_forfeit]
    simp [hsource]
  dsimp only
  split
  · rw [orderShape_intervalChanged, hshape]
  · exact hshape

/-! ### The planner's cancellations (R149) -/

/-- What a cancellation leaves of an order by its state: one that waits is retired, one that drains closes. -/
def cancelledState : OrderState → Option OrderState
  | .queued | .held => none
  | .opening | .running | .closing => some .closing
  | .suspect => some .suspect

/-- What the planner's cancellation leaves of an order: it reaches the AUTO orders alone. -/
def cancelledShape : Option (Source × OrderState) → Option (Source × OrderState)
  | some (.auto, st) => (cancelledState st).map fun st => (.auto, st)
  | some (.host, st) => some (.host, st)
  | none => none

/-- A second cancellation finds nothing to do. -/
theorem cancelledShape_idem (x : Option (Source × OrderState)) : cancelledShape (cancelledShape x) = cancelledShape x := by
  rcases x with - | ⟨_ | _, _ | _ | _ | _ | _ | _⟩ <;> rfl

/-- In MAINTENANCE an order that waits is retired, and nothing takes its place. -/
theorem orderShape_retire {s : State} (hmode : s.mode = .maintenance) {b : Fin 8} {o : Order} (ho : s.order b = some o)
    (hslot : o.state.holdsSlot = false) (n : DrainDetail → NoticeDetail) (k : DrainCause) (f : Option Failure) (c : Fin 8) :
    orderShape (retire b n k f s) c = if b = c then none else orderShape s c := by
  have hdropped : (dropOrder b o n k f s).mode = .maintenance := by simpa [dropOrder] using hmode
  simp only [retire, ho, hslot, sitePlanner_maintenance hdropped]
  exact orderShape_setOrder s b c none

/-- An order that waits is retired at a cancellation (R141, R149). -/
theorem cancel_waiting {s : State} {b : Fin 8} {o : Order} (ho : s.order b = some o) (h : o.state = .queued ∨ o.state = .held)
    (k : CancelCause) : cancel b k s = retireCancelled b k s := by
  rcases h with h | h <;> simp only [cancel, ho, h]

/-- An order that drains is overtaken at a cancellation (R141, R149). -/
theorem cancel_draining {s : State} {b : Fin 8} {o : Order} (ho : s.order b = some o) (h : o.state = .opening ∨ o.state = .running)
    (k : CancelCause) : cancel b k s = overtake b .cancel (s.setOrder b (some { o with cancelCause := some k })) := by
  rcases h with h | h <;> simp only [cancel, ho, h]

/-- An order that closes, or is SUSPECT, takes the cancel cause at most at a cancellation (R141, R149). -/
theorem cancel_slotEnding {s : State} {b : Fin 8} {o : Order} (ho : s.order b = some o) (h : o.state = .closing ∨ o.state = .suspect)
    (k : CancelCause) : cancel b k s = s ∨ cancel b k s = s.setOrder b (some { o with closing := some .cancel, cancelCause := some k }) := by
  rcases h with h | h
  · simp only [cancel, ho, h]
    split
    all_goals simp
  · left
    simp only [cancel, ho, h]

/-- In MAINTENANCE a cancellation reaches the order of its bay alone. -/
theorem orderShape_cancel {s : State} (hmode : s.mode = .maintenance) {b : Fin 8} {o : Order} (ho : s.order b = some o) (k : CancelCause)
    (c : Fin 8) : orderShape (cancel b k s) c
      = if b = c then (cancelledState o.state).map fun st => (o.source, st) else orderShape s c := by
  have waiting (h : o.state = .queued ∨ o.state = .held) : orderShape (cancel b k s) c = if b = c then none else orderShape s c := by
    rw [cancel_waiting ho h]
    exact orderShape_retire hmode ho (by rcases h with h | h <;> rw [h] <;> rfl) _ _ _ c
  have draining (h : o.state = .opening ∨ o.state = .running) :
      orderShape (cancel b k s) c = if b = c then some (o.source, .closing) else orderShape s c := by
    rw [cancel_draining ho h, orderShape_overtake (x := (o.source, o.state)) (by simp [orderShape_setOrder]), orderShape_setOrder]
    split <;> rfl
  have ending (h : o.state = .closing ∨ o.state = .suspect) :
      orderShape (cancel b k s) c = if b = c then some (o.source, o.state) else orderShape s c := by
    have hsame : orderShape (cancel b k s) c = orderShape s c := by
      rcases cancel_slotEnding ho h k with hc | hc
      · rw [hc]
      · rw [hc]
        exact orderShape_setOrder_same (x := { o with closing := some .cancel, cancelCause := some k }) ho rfl rfl c
    rw [hsame, ← orderShape_of_order ho]
    split
    · rename_i hb
      rw [hb]
    · rfl
  cases hstate : o.state with
  | queued => exact waiting (Or.inl hstate)
  | held => exact waiting (Or.inr hstate)
  | opening => exact draining (Or.inl hstate)
  | running => exact draining (Or.inr hstate)
  | closing => simpa [hstate, cancelledState] using ending (Or.inl hstate)
  | suspect => simpa [hstate, cancelledState] using ending (Or.inr hstate)

@[simp] theorem mode_overtake (b : Fin 8) (k : ClosingCause) (s : State) : (overtake b k s).mode = s.mode := by
  unfold overtake enterClosing
  repeat' split
  all_goals simp

/-- A retirement in MAINTENANCE leaves the mode. -/
theorem mode_retire {s : State} (hmode : s.mode = .maintenance) (b : Fin 8) (n : DrainDetail → NoticeDetail) (k : DrainCause)
    (f : Option Failure) : (retire b n k f s).mode = .maintenance := by
  unfold retire
  split
  · rename_i o ho
    have hdropped : (dropOrder b o n k f s).mode = .maintenance := by simpa [dropOrder] using hmode
    rw [sitePlanner_maintenance hdropped]
    dsimp only
    split <;> simpa using hdropped
  · exact hmode

/-- A cancellation in MAINTENANCE leaves the mode. -/
theorem mode_cancel {s : State} (hmode : s.mode = .maintenance) (b : Fin 8) (k : CancelCause) : (cancel b k s).mode = .maintenance := by
  cases ho : s.order b with
  | none => simpa only [cancel, ho] using hmode
  | some o =>
    have waiting (h : o.state = .queued ∨ o.state = .held) : (cancel b k s).mode = .maintenance := by
      rw [cancel_waiting ho h]
      exact mode_retire hmode _ _ _ _
    have draining (h : o.state = .opening ∨ o.state = .running) : (cancel b k s).mode = .maintenance := by
      rw [cancel_draining ho h]
      simpa using hmode
    have ending (h : o.state = .closing ∨ o.state = .suspect) : (cancel b k s).mode = .maintenance := by
      rcases cancel_slotEnding ho h k with hc | hc <;> simpa [hc] using hmode
    cases hstate : o.state with
    | queued => exact waiting (Or.inl hstate)
    | held => exact waiting (Or.inr hstate)
    | opening => exact draining (Or.inl hstate)
    | running => exact draining (Or.inr hstate)
    | closing => exact ending (Or.inl hstate)
    | suspect => exact ending (Or.inr hstate)

/-- The planner's cancellation leaves a bay without an AUTO order alone. -/
theorem cancelAuto_other {s : State} {b : Fin 8} (h : ∀ o, s.order b = some o → o.source = .host) : cancelAuto s b = s := by
  unfold cancelAuto
  split
  · rename_i o ho
    rw [h o ho, if_neg (by decide)]
  · rfl

/-- The planner's cancellation of an AUTO order (R149). -/
theorem cancelAuto_auto {s : State} {b : Fin 8} {o : Order} (ho : s.order b = some o) (h : o.source = .auto) :
    cancelAuto s b = cancel b .planner s := by
  simp only [cancelAuto, ho, h, if_true]

/-- In MAINTENANCE the planner cancels the AUTO order of a bay, and leaves every other one. -/
theorem orderShape_cancelAuto {s : State} (hmode : s.mode = .maintenance) (b c : Fin 8) :
    orderShape (cancelAuto s b) c = if b = c then cancelledShape (orderShape s c) else orderShape s c := by
  have same (hother : ∀ o, s.order b = some o → o.source = .host) (h : cancelledShape (orderShape s b) = orderShape s b) :
      orderShape (cancelAuto s b) c = if b = c then cancelledShape (orderShape s c) else orderShape s c := by
    rw [cancelAuto_other hother]
    split
    · rename_i hb
      rw [← hb, h]
    · rfl
  cases ho : s.order b with
  | none => exact same (by simp [ho]) (by simp [orderShape, ho, cancelledShape])
  | some o =>
    have hshape := orderShape_of_order ho
    cases hsource : o.source with
    | host => exact same (by simp [ho, hsource]) (by rw [hshape, hsource]; rfl)
    | auto =>
      rw [cancelAuto_auto ho hsource, orderShape_cancel hmode ho]
      split
      · rename_i hb
        rw [← hb, hshape, hsource]
        rfl
      · rfl

theorem mode_cancelAuto {s : State} (hmode : s.mode = .maintenance) (b : Fin 8) : (cancelAuto s b).mode = .maintenance := by
  unfold cancelAuto
  repeat' split
  · exact mode_cancel hmode _ _
  · exact hmode
  · exact hmode

/-- In MAINTENANCE the cancellations of a list of bays leave the mode, and reach the orders of those bays alone. -/
theorem cancelAuto_foldl (l : List (Fin 8)) {s : State} (hmode : s.mode = .maintenance) :
    (l.foldl cancelAuto s).mode = .maintenance
      ∧ ∀ c, orderShape (l.foldl cancelAuto s) c = if c ∈ l then cancelledShape (orderShape s c) else orderShape s c := by
  induction l generalizing s with
  | nil => exact ⟨hmode, fun c => by simp⟩
  | cons b t ih =>
    obtain ⟨hm, hshape⟩ := ih (mode_cancelAuto hmode b)
    refine ⟨hm, fun c => ?_⟩
    rw [List.foldl_cons, hshape, orderShape_cancelAuto hmode]
    by_cases hbc : b = c
    · simp [hbc, cancelledShape_idem]
    · simp [hbc, Ne.symm hbc]

/-- After the entry into MAINTENANCE the mode is MAINTENANCE, and the planner has cancelled the order of every bay (R149). -/
theorem orderShape_enterMaintenance (s : State) (c : Fin 8) :
    (enterMaintenance s).mode = .maintenance ∧ orderShape (enterMaintenance s) c = cancelledShape (orderShape s c) := by
  have hentered : (intervalsChanged (supplyFollowsMode ((post 0 (.modeChanged s.mode .maintenance .host) s).withMode .maintenance))).mode
      = .maintenance := by simp
  obtain ⟨hm, hshape⟩ := cancelAuto_foldl allBays hentered
  rw [enterMaintenance, plannerEvaluation_maintenance hm]
  refine ⟨hm, ?_⟩
  have hbay : c ∈ allBays := by fin_cases c <;> simp [allBays]
  have horders : orderShape (intervalsChanged (supplyFollowsMode
      ((post 0 (.modeChanged s.mode .maintenance .host) s).withMode .maintenance))) c = orderShape s c :=
    orderShape_congr (by rw [drn_intervalsChanged, drn_supplyFollowsMode]; rfl) c
  rw [hshape, if_pos hbay, horders]

/-- An order that is left of a cancelled AUTO order closes or is SUSPECT. -/
theorem cancelledShape_auto {x : Option (Source × OrderState)} {st : OrderState} (h : cancelledShape x = some (.auto, st)) :
    st = .closing ∨ st = .suspect := by
  rcases x with - | ⟨_ | _, _ | _ | _ | _ | _ | _⟩ <;> simp_all [cancelledShape, cancelledState]

/-! ### SET_MODE -/

/-- SET_MODE finds its moment and answers from there. -/
theorem exec_setModeAutomatic {m : Moment} {q : Byte} {s : State} (h : PortFree s) :
    exec (.setModeAutomatic m q) s = .next (answered q 0x92#8 .ok .empty
      (if (arrive m s).mode = .maintenance then changeMode (settledFrom (arrive m s) .dry) .host (arrive m s) else arrive m s)) :=
  hostRequest_ok (r := .setMode (.fields 0)) h rfl rfl rfl

theorem exec_setModeMaintenance {m : Moment} {q : Byte} {s : State} (h : PortFree s) :
    exec (.setModeMaintenance m q) s = .next (answered q 0x92#8 .ok .empty
      (if (arrive m s).mode = .maintenance then arrive m s else enterMaintenance (arrive m s))) :=
  hostRequest_ok (r := .setMode (.fields 1)) h rfl rfl rfl

/-- An answer leaves the orders alone. -/
theorem order_answered (q kind : Byte) (res : Result) (body : ReplyBody) (s : State) (b : Fin 8) :
    (answered q kind res body s).order b = s.order b := rfl

/-- What a change of mode leaves alone. -/
structure ModeStays (s a t : State) : Prop where
  image : t.image = s.image
  ret : t.ret = a.ret
  lvl : t.lvl = s.lvl
  rain : t.rain = s.rain
  spill : t.spill = s.spill
  inhibit : t.inhibit = s.inhibit
  devices : t.act.devices = s.act.devices
  last : ∀ d, LastFollows s t d (s.last d)
  channels : t.snd.channels = s.snd.channels
  readings : t.snd.last = s.snd.last

/-- What keeps the kept part, and whose last outcomes follow, changes neither records, levels, rain, spills, inhibit flags nor devices. -/
theorem modeStays_answered {m : Moment} {q kind : Byte} {s u : State} (hkept : kept u = kept (arrive m s)) (hfollows : Follows (arrive m s) u) :
    ModeStays s (arrive m s) (answered q kind .ok .empty u) := by
  obtain ⟨-, -, -, himage, -, hsnd, hlvl, hrain, hspill, -, hinhibit, hact, -⟩ := arrive_fields m s
  exact {
    image := (congrArg Kept.image hkept).trans himage
    ret := congrArg Kept.ret hkept
    lvl := (congrArg Kept.lvl hkept).trans hlvl
    rain := (congrArg Kept.rain hkept).trans hrain
    spill := (congrArg Kept.spill hkept).trans hspill
    inhibit := (congrArg Kept.inhibit hkept).trans hinhibit
    devices := (congrArg Kept.devices hkept).trans (congrArg Actuator.devices hact)
    last := fun d => by
      have hlast := (lastFollows_congr (congrArg Actuator.queue hact)).mp (hfollows.last d)
      rw [State.last, hact] at hlast
      exact hlast
    channels := (congrArg Kept.channels hkept).trans (congrArg Sounding.channels hsnd)
    readings := (congrArg Kept.last hkept).trans (congrArg Sounding.last hsnd) }

/-- The orders that the entry into MAINTENANCE leaves: an AUTO order closes or is SUSPECT, a HOST order keeps its state (R149). -/
theorem auto_orders_enterMaintenance {s : State} {b : Fin 8} {o : Order} (ho : (enterMaintenance s).order b = some o) (h : o.source = .auto) :
    o.state = .closing ∨ o.state = .suspect := by
  obtain ⟨-, hshape⟩ := orderShape_enterMaintenance s b
  rw [orderShape_of_order ho, h] at hshape
  exact cancelledShape_auto hshape.symm

theorem host_orders_enterMaintenance {s : State} {b : Fin 8} {o : Order} (ho : s.order b = some o) (h : o.source = .host) :
    ∃ x, (enterMaintenance s).order b = some x ∧ x.source = .host ∧ x.state = o.state := by
  obtain ⟨-, hshape⟩ := orderShape_enterMaintenance s b
  rw [orderShape_of_order ho, h] at hshape
  exact order_of_orderShape hshape

/-- Settles O36: AUTOMATIC is a change to the settled mode, MAINTENANCE the planner's entry, whose cancellations are followed order by order. -/
theorem setModeTakesEffect : Obligations.SetModeTakesEffect := by
  unfold Obligations.SetModeTakesEffect
  intro m q s hport a stays
  have hmode : a.mode = s.mode := by simp [a]
  have hdrn : a.drn = s.drn := by simp [a]
  have hsettled : settledFrom a .dry = settledFrom s .dry := by
    apply settledFrom_congr <;> simp [a]
  have hstays (u : State) (hkept : kept u = kept a) (hfollows : Follows a u) : stays (answered q 0x92#8 .ok .empty u) := by
    obtain ⟨hi, hr, hl, hrain, hsp, hinh, hd, hlast, hch, hread⟩ := modeStays_answered (q := q) (kind := 0x92#8) hkept hfollows
    exact ⟨hi, hr, hl, hrain, hsp, hinh, hd, hlast, hch, hread⟩
  have hauto := exec_setModeAutomatic (m := m) (q := q) hport
  have hmaintenance := exec_setModeMaintenance (m := m) (q := q) hport
  refine ⟨fun h => ?_, fun h => ?_, fun h => ?_, fun h => ?_⟩
  · rw [hauto, if_neg (hmode ▸ h)]
  · rw [hmaintenance, if_pos (hmode.trans h)]
  · rw [if_pos (hmode.trans h)] at hauto
    refine ⟨_, hauto, replies_answered _ _ _ _ _, ?_, hstays _ (kept_changeMode _ _ _) (follows_changeMode (.refl a) _ _), ?_⟩
    · simpa using hsettled
    · rw [← h, ← hmode]
      rfl
  · rw [if_neg (hmode ▸ h)] at hmaintenance
    refine ⟨_, hmaintenance, replies_answered _ _ _ _ _, ?_, hstays _ (kept_enterMaintenance a) (follows_enterMaintenance (.refl a)), ?_,
      fun b o ho hs => ?_, fun b o ho hs => ?_⟩
    · simpa using (orderShape_enterMaintenance a 0).1
    · rw [← hmode]
      rfl
    · rw [order_answered] at ho
      exact auto_orders_enterMaintenance ho hs
    · have hao : a.order b = some o := (congrArg (·.orders.at_ b) hdrn).trans ho
      rw [order_answered]
      exact host_orders_enterMaintenance hao hs

end Sys2Proof.Machine

/-! PROOF. SET_BAY: the record, the bay's blank state, and what the reactions of the other blocks leave of it (R3, R7, R34, R51). -/

namespace Sys2Proof.Machine

/-! ### The engine takes an entry (R35) -/

/-- The engine takes nothing, or, being idle, an entry of the queue, whose bay then has no entry. -/
theorem engineTake_cases (s : State) : engineTake s = s
    ∨ (s.snd.engine = none ∧ ∃ e ∈ s.snd.queue, ∃ phase, (engineTake s).snd.engine = some (takenEntry s e phase)
      ∧ (engineTake s).snd.queue = withoutBay e.bay s.snd.queue) := by
  unfold engineTake
  split
  · rename_i e hengine hfind
    right
    refine ⟨hengine, e, List.mem_of_find?_eq_some hfind, ?_⟩
    dsimp only
    split
    · exact ⟨_, rfl, rfl⟩
    · refine ⟨_, rfl, ?_⟩
      unfold supplyOn
      split <;> rfl
  · exact Or.inl rfl

theorem mem_withoutBay {b : Fin 8} {q : List SoundingEntry} {e : SoundingEntry} : e ∈ withoutBay b q ↔ e ∈ q ∧ e.bay ≠ b := by
  simp [withoutBay]

/-- The queue that an entry joins holds the entry, and of its bay no other. -/
theorem mem_queueEntry {e x : SoundingEntry} {s : State} :
    x ∈ (queueEntry e s).snd.queue ↔ x = e ∨ (x ∈ s.snd.queue ∧ x.bay ≠ e.bay) := by
  show x ∈ insertEntry e (withoutBay e.bay s.snd.queue) ↔ _
  rw [(insertEntry_perm e _).mem_iff, List.mem_cons, mem_withoutBay]

/-- A fresh entry that joins stands in the queue, or the engine has taken it at once (R35). -/
theorem freshEntryJoined_engineTake (b : Fin 8) (due : Nat) (s : State) :
    FreshEntryJoined (engineTake (queueEntry (freshEntry b due) s)) b due := by
  have hfresh : freshEntry b due ∈ (queueEntry (freshEntry b due) s).snd.queue := mem_queueEntry.mpr (Or.inl rfl)
  rcases engineTake_cases (queueEntry (freshEntry b due) s) with hsame | ⟨-, e, he, phase, hengine, hqueue⟩
  · left
    rwa [hsame]
  · by_cases hbay : e.bay = b
    · right
      have heq : e = freshEntry b due := (mem_queueEntry.mp he).resolve_right fun h => h.2 hbay
      subst heq
      exact ⟨_, hengine, rfl, rfl, rfl, rfl, rfl, rfl⟩
    · left
      rw [hqueue]
      exact mem_withoutBay.mpr ⟨hfresh, fun h => hbay h.symm⟩

/-! ### What the reactions leave -/

/-- From `s` to `t` other blocks have reacted: the image, COLD, the time, the levels, the channels and the last readings stay, a sounding in
flight goes on, and the engine takes, and the queue holds, entries of bays alone that had one. -/
structure Reacts (s t : State) : Prop where
  image : t.image = s.image
  cold : t.ret.cold = s.ret.cold
  now : t.now = s.now
  lvl : t.lvl = s.lvl
  channels : t.snd.channels = s.snd.channels
  last : t.snd.last = s.snd.last
  flies : ∀ x, s.snd.engine = some x → t.snd.engine = some x
  taken : ∀ x, t.snd.engine = some x → s.snd.engine = some x ∨ ∃ e ∈ s.snd.queue, e.bay = x.bay
  queue : ∀ e ∈ t.snd.queue, ∃ x ∈ s.snd.queue, x.bay = e.bay

section Reactions
variable {r s t : State}

/-- Two reactions make one. -/
theorem Reacts.trans (h : Reacts r s) (g : Reacts s t) : Reacts r t where
  image := g.image.trans h.image
  cold := g.cold.trans h.cold
  now := g.now.trans h.now
  lvl := g.lvl.trans h.lvl
  channels := g.channels.trans h.channels
  last := g.last.trans h.last
  flies x hx := g.flies x (h.flies x hx)
  taken x hx := by
    rcases g.taken x hx with hs | ⟨e, he, hbay⟩
    · exact h.taken x hs
    · obtain ⟨y, hy, hyb⟩ := h.queue e he
      exact Or.inr ⟨y, hy, hyb.trans hbay⟩
  queue e he := by
    obtain ⟨x, hx, hxb⟩ := g.queue e he
    obtain ⟨y, hy, hyb⟩ := h.queue x hx
    exact ⟨y, hy, hyb.trans hxb⟩

/-- An operation that keeps the kept part, and does with the engine and the queue what a reaction may. -/
theorem Reacts.of_kept (hk : kept t = kept s) (hflies : ∀ x, s.snd.engine = some x → t.snd.engine = some x)
    (htaken : ∀ x, t.snd.engine = some x → s.snd.engine = some x ∨ ∃ e ∈ s.snd.queue, e.bay = x.bay)
    (hqueue : ∀ e ∈ t.snd.queue, ∃ x ∈ s.snd.queue, x.bay = e.bay) : Reacts s t where
  image := congrArg Kept.image hk
  cold := congrArg (fun k => k.ret.cold) hk
  now := now_of_kept hk
  lvl := congrArg Kept.lvl hk
  channels := congrArg Kept.channels hk
  last := congrArg Kept.last hk
  flies := hflies
  taken := htaken
  queue := hqueue

/-- An operation that keeps the kept part, the engine and the queue. -/
theorem Reacts.same (h : Reacts r s) (hk : kept t = kept s) (he : t.snd.engine = s.snd.engine) (hq : t.snd.queue = s.snd.queue) :
    Reacts r t :=
  h.trans (.of_kept hk (fun _ hx => he.trans hx) (fun _ hx => Or.inl (he ▸ hx)) fun e hx => ⟨e, hq ▸ hx, rfl⟩)

/-- Nothing has happened yet. -/
theorem Reacts.refl (s : State) : Reacts s s :=
  .of_kept rfl (fun _ hx => hx) (fun _ hx => Or.inl hx) fun e he => ⟨e, he, rfl⟩

/-- A fold of reactions. -/
theorem Reacts.foldl {α : Type} (f : State → α → State) (hf : ∀ {r s : State} (a : α), Reacts r s → Reacts r (f s a)) (l : List α)
    (h : Reacts r s) : Reacts r (l.foldl f s) := by
  induction l generalizing s with
  | nil => exact h
  | cons a t ih => exact ih (hf a h)

theorem reacts_engineTake (h : Reacts r s) : Reacts r (engineTake s) := by
  rcases engineTake_cases s with hsame | ⟨hidle, e, he, phase, hengine, hqueue⟩
  · rwa [hsame]
  · refine h.trans (.of_kept (kept_engineTake s) (fun x hx => ?_) (fun x hx => Or.inr ⟨e, he, ?_⟩) fun y hy => ?_)
    · rw [hidle] at hx
      contradiction
    · rw [hengine] at hx
      cases hx
      rfl
    · rw [hqueue] at hy
      exact ⟨y, (mem_withoutBay.mp hy).1, rfl⟩

theorem reacts_reviseEntry (h : Reacts r s) (b : Fin 8) : Reacts r (reviseEntry b s) := by
  unfold reviseEntry
  split
  · rename_i e _ hwait _
    refine h.trans (.of_kept (by simp) (fun _ hx => hx) (fun _ hx => Or.inl hx) fun x hx => ?_)
    rcases mem_queueEntry.mp hx with rfl | ⟨hx, -⟩
    · exact ⟨e, List.mem_of_find?_eq_some hwait, rfl⟩
    · exact ⟨x, hx, rfl⟩
  · exact h

theorem reacts_intervalChanged (h : Reacts r s) (b : Fin 8) : Reacts r (intervalChanged b s) :=
  reacts_engineTake (reacts_reviseEntry h b)

theorem reacts_intervalsChanged (h : Reacts r s) : Reacts r (intervalsChanged s) :=
  reacts_engineTake (Reacts.foldl (fun s b => reviseEntry b s) (fun b h => reacts_reviseEntry h b) _ h)

theorem reacts_supplyFollowsMode (h : Reacts r s) : Reacts r (supplyFollowsMode s) := by
  have hsnd : (supplyFollowsMode s).snd.engine = s.snd.engine ∧ (supplyFollowsMode s).snd.queue = s.snd.queue := by
    unfold supplyFollowsMode supplyOn supplyOff
    repeat' split
    all_goals exact ⟨rfl, rfl⟩
  exact h.same (kept_supplyFollowsMode s) hsnd.1 hsnd.2

theorem reacts_plannerEvaluation (h : Reacts r s) : Reacts r (plannerEvaluation s) :=
  h.same (kept_plannerEvaluation s) (by simp) (by simp)

theorem reacts_evaluateMode (h : Reacts r s) : Reacts r (evaluateMode s) := by
  unfold evaluateMode
  split
  · exact h
  · exact reacts_plannerEvaluation (reacts_intervalsChanged (reacts_supplyFollowsMode (h.same (by simp) rfl rfl)))

theorem reacts_plannerTake (h : Reacts r s) : Reacts r (plannerTake s) := by
  unfold plannerTake
  split
  · exact reacts_evaluateMode (reacts_plannerEvaluation h)
  · exact reacts_plannerEvaluation h

theorem reacts_enterClosing (h : Reacts r s) (b : Fin 8) (k : ClosingCause) : Reacts r (enterClosing b k s) := by
  unfold enterClosing
  split
  · rename_i o _
    have hput : Reacts r (putForOrder b .release (s.setOrder b (some { o with state := .closing, closing := some k, lot := none }))) :=
      h.same (by simp) (by simp) (by simp)
    dsimp only
    split
    · exact reacts_intervalChanged hput b
    · exact hput
  · exact h

theorem reacts_gaugeLoss (h : Reacts r s) (b : Fin 8) : Reacts r (gaugeLoss b s) := by
  have hheld : Reacts r (changeHolds b (fun h => { h with gauge := true }) s) := h.same (by simp) (by simp) (by simp)
  have hover : Reacts r (overtake b .gauge (changeHolds b (fun h => { h with gauge := true }) s)) :=
    reacts_enterClosing (hheld.same (kept_forfeit b _) (by simp) (by simp)) b _
  unfold gaugeLoss
  dsimp only
  split
  · split
    · exact hover
    · exact hover
    all_goals exact hheld
  · exact hheld

/-- A loss at the spill accountant concerns the open record and the state of an outfall alone (R83). -/
theorem reacts_spillLoss (h : Reacts r s) (b : Fin 8) : Reacts r (spillLoss b s) := by
  have hopen (k : Fin 4) : Reacts r (updateOpen k SpillRecord.setGap (enterSpillState k .blind s)) :=
    h.trans ⟨rfl, rfl, rfl, rfl, rfl, rfl, fun _ hx => hx, fun _ hx => Or.inl hx, fun e he => ⟨e, he, rfl⟩⟩
  unfold spillLoss
  split
  · split
    · exact hopen _
    · exact hopen _
    all_goals exact h
  · exact h

/-- Every block takes a change of quality as a reaction (R53). -/
theorem reacts_takeLevelEvent (h : Reacts r s) (b : Fin 8) (before after : Quality) (v w : Option Nat) (taker : LevelTaker) :
    Reacts r (takeLevelEvent b (.qualityChange before after v w) s taker) := by
  cases taker with
  | site => exact reacts_evaluateMode h
  | planner => exact reacts_plannerTake h
  | spill =>
    simp only [takeLevelEvent]
    split
    · exact reacts_spillLoss h b
    · exact h
  | drain =>
    simp only [takeLevelEvent]
    split
    · exact reacts_gaugeLoss h b
    · exact h

theorem reacts_handQualityChange (h : Reacts r s) (b : Fin 8) (before : Quality) : Reacts r (handQualityChange b before s) := by
  unfold handQualityChange
  split
  · exact h
  · exact Reacts.foldl _ (fun taker h => reacts_takeLevelEvent h b _ _ _ _ taker) _ (h.same (kept_dropChoice s) rfl rfl)

end Reactions

/-! ### SET_BAY (R7) -/

/-- The state with the record of a bay in the image. -/
def bayStored (b : Fin 8) (r : BayRec) (s : State) : State := writeImage { s.image with bays := s.image.bays.put b r } s

/-- The bay starts blank: the record, NONE or FLOAT, a channel in order, no reading, no waiting entry, and no use for a sounding in flight (R7). -/
def bayRestarted (b : Fin 8) (r : BayRec) (s : State) : State :=
  let blank := setChannel b { health := .ok, bad := 0 } ((bayStored b r s).setLevel b (levelAfterSetBay (bayStored b r s) b))
  discardInFlight b (blank.withSnd { blank.snd with last := blank.snd.last.put b none, queue := withoutBay b blank.snd.queue })

/-- SET_BAY: the bay starts blank, the other blocks react, and a fresh entry joins (R7). -/
theorem applyBay_eq (b : Fin 8) (r : BayRec) (s : State) :
    applyBay b r s = joinFresh b (evaluateMode (handQualityChange b (s.level b).quality (bayRestarted b r s))) := rfl

@[simp] theorem discardInFlight_fields (b : Fin 8) (s : State) :
    (discardInFlight b s).image = s.image ∧ (discardInFlight b s).ret = s.ret ∧ (discardInFlight b s).lvl = s.lvl
      ∧ (discardInFlight b s).snd.channels = s.snd.channels ∧ (discardInFlight b s).snd.last = s.snd.last
      ∧ (discardInFlight b s).snd.queue = s.snd.queue := by
  unfold discardInFlight
  repeat' split
  all_goals exact ⟨rfl, rfl, rfl, rfl, rfl, rfl⟩

/-- The sounding in flight of the bay is marked. -/
theorem discardInFlight_engine {b : Fin 8} {x : InFlight} {s : State} (hx : s.snd.engine = some x) (hb : x.bay = b) :
    (discardInFlight b s).snd.engine = some { x with discard := true } := by
  simp [discardInFlight, hx, hb, setEngine]

/-- Any other sounding goes on as it was. -/
theorem discardInFlight_other {b : Fin 8} {s : State} (h : ∀ x, s.snd.engine = some x → x.bay ≠ b) : discardInFlight b s = s := by
  unfold discardInFlight
  split
  · rename_i x hx
    rw [if_neg (h x hx)]
  · rfl

theorem inFlightOf_eq_true {s : State} {b : Fin 8} : inFlightOf s b = true ↔ ∃ x, s.snd.engine = some x ∧ x.bay = b := by
  unfold inFlightOf
  split
  · rename_i x hx
    simp [hx]
  · rename_i hx
    simp [hx]

/-- The level that SET_BAY leaves keeps nothing of the former one but the mark of a disagreement. -/
theorem levelAfterSetBay_blank (s : State) (b : Fin 8) :
    (levelAfterSetBay s b).candidate = none ∧ (levelAfterSetBay s b).misses = 0 ∧ (levelAfterSetBay s b).accepted = none := by
  unfold levelAfterSetBay floatRule
  dsimp only
  repeat' split
  all_goals exact ⟨rfl, rfl, rfl⟩

/-- An enabled bay with an active float takes FLOAT (R51). -/
theorem levelAfterSetBay_float {s : State} {b : Fin 8} (he : (s.bay b).enabled = true) (hf : s.lvl.floats.at_ b = .active) :
    (levelAfterSetBay s b).quality = .float ∧ (levelAfterSetBay s b).value = some (s.bay b).floatHeight := by
  simp [levelAfterSetBay, floatRule, he, hf, LevelRecord.blank]

/-- Any other bay takes NONE (R7). -/
theorem levelAfterSetBay_none {s : State} {b : Fin 8} (h : (s.bay b).enabled = false ∨ s.lvl.floats.at_ b ≠ .active) :
    (levelAfterSetBay s b).quality = .none ∧ (levelAfterSetBay s b).value = none := by
  rcases h with h | h <;> simp [levelAfterSetBay, floatRule, h, LevelRecord.blank]

/-- The fresh entry of an enabled bay without a sounding in flight joins. -/
theorem joinFresh_joins {b : Fin 8} {s : State} (he : (s.bay b).enabled = true) (hf : inFlightOf s b = false) :
    joinFresh b s = engineTake (queueEntry (freshEntry b s.now) s) := by
  simp [joinFresh, he, hf]

/-- A bay that is not enabled, or that is being sounded, receives no entry. -/
theorem joinFresh_stays {b : Fin 8} {s : State} (h : (s.bay b).enabled = false ∨ inFlightOf s b = true) : joinFresh b s = s := by
  rcases h with h | h <;> simp [joinFresh, h]

@[simp] theorem kept_joinFresh (b : Fin 8) (s : State) : kept (joinFresh b s) = kept s := by
  unfold joinFresh
  split
  · simp [queueEntry]
  · rfl

/-- What starting blank leaves of the state. -/
theorem bayRestarted_fields (b : Fin 8) (r : BayRec) (s : State) :
    (bayRestarted b r s).image = { s.image with bays := s.image.bays.put b r } ∧ (bayRestarted b r s).ret = { s.ret with cold := false }
      ∧ (bayRestarted b r s).lvl = { s.lvl with records := s.lvl.records.put b (levelAfterSetBay (bayStored b r s) b) }
      ∧ (bayRestarted b r s).snd.channels = s.snd.channels.put b { health := .ok, bad := 0 }
      ∧ (bayRestarted b r s).snd.last = s.snd.last.put b none ∧ (bayRestarted b r s).snd.queue = withoutBay b s.snd.queue :=
  discardInFlight_fields b _

/-- A sounding of another bay goes on. -/
theorem bayRestarted_engine {b : Fin 8} (r : BayRec) {s : State} (hx : ∀ x, s.snd.engine = some x → x.bay ≠ b) :
    (bayRestarted b r s).snd.engine = s.snd.engine := by
  unfold bayRestarted
  rw [discardInFlight_other]
  · rfl
  · exact hx

/-- After the blank bay and the reactions to it an entry joins, where one does; till then the queue holds none of the bay. -/
theorem applyBay_reacts (b : Fin 8) (r : BayRec) (s : State) :
    ∃ u, applyBay b r s = joinFresh b u ∧ Reacts (bayRestarted b r s) u ∧ ∀ e ∈ u.snd.queue, e.bay ≠ b := by
  have hr : Reacts (bayRestarted b r s) (evaluateMode (handQualityChange b (s.level b).quality (bayRestarted b r s))) :=
    reacts_evaluateMode (reacts_handQualityChange (.refl _) b _)
  refine ⟨_, applyBay_eq b r s, hr, fun e he => ?_⟩
  obtain ⟨x, hx, hbay⟩ := hr.queue e he
  obtain ⟨-, -, -, -, -, hqueue⟩ := bayRestarted_fields b r s
  rw [hqueue] at hx
  exact hbay ▸ (mem_withoutBay.mp hx).2

/-- An accepted SET_BAY stores the record, and leaves the bay's level, channel and reading, and no other bay's, as it sets them (R3, R7). -/
theorem applyBay_fields (b : Fin 8) (r : BayRec) (s : State) :
    (applyBay b r s).image = { s.image with bays := s.image.bays.put b r } ∧ (applyBay b r s).ret.cold = false
      ∧ (applyBay b r s).lvl = { s.lvl with records := s.lvl.records.put b (levelAfterSetBay (bayStored b r s) b) }
      ∧ (applyBay b r s).snd.channels = s.snd.channels.put b { health := .ok, bad := 0 }
      ∧ (applyBay b r s).snd.last = s.snd.last.put b none := by
  obtain ⟨u, hu, hr, -⟩ := applyBay_reacts b r s
  obtain ⟨himage, hret, hlvl, hchannels, hlast, -⟩ := bayRestarted_fields b r s
  have hk := kept_joinFresh b u
  rw [hu]
  refine ⟨(congrArg Kept.image hk).trans (hr.image.trans himage), ?_, (congrArg Kept.lvl hk).trans (hr.lvl.trans hlvl),
    (congrArg Kept.channels hk).trans (hr.channels.trans hchannels), (congrArg Kept.last hk).trans (hr.last.trans hlast)⟩
  exact (congrArg (fun k => k.ret.cold) hk).trans (hr.cold.trans (congrArg Retained.cold hret))

/-- The levels that an accepted SET_BAY leaves. -/
theorem level_applyBay (b c : Fin 8) (r : BayRec) (s : State) :
    (applyBay b r s).level c = if b = c then levelAfterSetBay (bayStored b r s) b else s.level c := by
  obtain ⟨-, -, hlvl, -⟩ := applyBay_fields b r s
  rw [State.level, hlvl]
  exact Tab.at_put ..

/-- The record that SET_BAY stores is the bay's. -/
theorem bay_bayStored (b : Fin 8) (r : BayRec) (s : State) : (bayStored b r s).bay b = r := by
  show (s.image.bays.put b r).at_ b = r
  rw [Tab.at_put, if_pos rfl]

/-- A sounding in flight of the bay is marked, and the bay receives no entry (R7). -/
theorem applyBay_inFlight {b : Fin 8} {x : InFlight} {s : State} (r : BayRec) (hx : s.snd.engine = some x) (hb : x.bay = b) :
    (applyBay b r s).snd.engine = some { x with discard := true } ∧ ∀ e ∈ (applyBay b r s).snd.queue, e.bay ≠ b := by
  obtain ⟨u, hu, hr, hqueue⟩ := applyBay_reacts b r s
  have hmarked : u.snd.engine = some { x with discard := true } := hr.flies _ (discardInFlight_engine hx hb)
  rw [hu, joinFresh_stays (Or.inr (inFlightOf_eq_true.mpr ⟨_, hmarked, hb⟩))]
  exact ⟨hmarked, hqueue⟩

/-- A bay that is not enabled receives no entry (R7). -/
theorem applyBay_disabled {b : Fin 8} {r : BayRec} (he : r.enabled = false) (s : State) :
    ∀ e ∈ (applyBay b r s).snd.queue, e.bay ≠ b := by
  obtain ⟨u, hu, hr, hqueue⟩ := applyBay_reacts b r s
  obtain ⟨himage, -⟩ := bayRestarted_fields b r s
  have hbay : u.bay b = r := (congrArg (·.bays.at_ b) (hr.image.trans himage)).trans (bay_bayStored b r s)
  rw [hu, joinFresh_stays (Or.inl (hbay ▸ he))]
  exact hqueue

/-- An enabled bay that is not being sounded receives its fresh entry, due at once: no reaction lets the engine sound it (R7). -/
theorem applyBay_joins {b : Fin 8} {r : BayRec} {s : State} (he : r.enabled = true) (hx : ∀ x, s.snd.engine = some x → x.bay ≠ b) :
    FreshEntryJoined (applyBay b r s) b s.now := by
  obtain ⟨u, hu, hr, -⟩ := applyBay_reacts b r s
  obtain ⟨himage, hret, -, -, -, hqueue⟩ := bayRestarted_fields b r s
  have hbay : u.bay b = r := (congrArg (·.bays.at_ b) (hr.image.trans himage)).trans (bay_bayStored b r s)
  have hseconds := congrArg Retained.seconds hret
  have hnow : u.now = s.now := hr.now.trans hseconds
  have hengine := bayRestarted_engine r hx
  have hidle : inFlightOf u b = false := by
    rw [Bool.eq_false_iff, ne_eq, inFlightOf_eq_true]
    rintro ⟨x, hux, hxb⟩
    rcases hr.taken x hux with hs | ⟨e, he, heb⟩
    · exact hx x (hengine ▸ hs) hxb
    · rw [hqueue] at he
      exact (mem_withoutBay.mp he).2 (heb.trans hxb)
  rw [hu, joinFresh_joins (hbay ▸ he) hidle, hnow]
  exact freshEntryJoined_engineTake b s.now u

/-- A SET_BAY that no check refuses is answered OK, and the answer leaves alone what it sets. -/
theorem exec_setBay {m : Moment} {q : Byte} {b : Fin 8} {f : BayFields} {s : State} (h : PortFree s) (hbay : f.bay = b.val)
    (hvalid : bayFieldsValid f = true) (hmissing : deviceMissing s (bayRecord f) = false) (hcross : crossFails s b (bayRecord f) = false)
    (hstate : bayStateFails s b (bayRecord f) = false) :
    ∃ t, exec (.setBay m q (.fields f)) s = .next t ∧ Replies t q 0x90#8 .ok .empty
      ∧ t.image = (applyBay b (bayRecord f) (arrive m s)).image ∧ t.ret = (applyBay b (bayRecord f) (arrive m s)).ret
      ∧ t.lvl = (applyBay b (bayRecord f) (arrive m s)).lvl ∧ t.snd = (applyBay b (bayRecord f) (arrive m s)).snd := by
  have hanswer : handleRequest (.setBay (.fields f)) (arrive m s) = answerOk .empty (applyBay b (bayRecord f) (arrive m s)) := by
    show handleSetBay (.fields f) (arrive m s) = _
    simp [handleSetBay_of_bay hbay, hvalid, hmissing, hcross, hstate]
  have hexec := hostRequest_ok (q := q) h hanswer rfl rfl
  generalize applyBay b (bayRecord f) (arrive m s) = u at hexec
  exact ⟨_, hexec, replies_answered _ _ _ _ _, rfl, rfl, rfl, rfl⟩

/-- Whether a fresh entry has joined is read from the sounding scheduler. -/
theorem freshEntryJoined_congr {t u : State} (h : t.snd = u.snd) (b : Fin 8) (due : Nat) :
    FreshEntryJoined t b due ↔ FreshEntryJoined u b due := by
  simp only [FreshEntryJoined, h]

/-- The enabled flag of the stored record is that of the field. -/
theorem bayRecord_enabled (f : BayFields) : (bayRecord f).enabled = (f.enabled == 1) := rfl

/-- Settles O28: the bay starts blank, the reactions of the other blocks leave that alone, and the fresh entry joins last. -/
theorem setBayTakesTheRecord : Obligations.SetBayTakesTheRecord := by
  unfold Obligations.SetBayTakesTheRecord
  intro m q b f s hport hbay hvalid hmissing hcross hstate
  obtain ⟨-, -, -, ha_image, -, ha_snd, ha_lvl, -⟩ := arrive_fields m s
  obtain ⟨t, hexec, hreplies, htimage, htret, htlvl, htsnd⟩ := exec_setBay (m := m) (q := q) hport hbay hvalid hmissing hcross hstate
  obtain ⟨himage, hcold, -, hchannels, hlast⟩ := applyBay_fields b (bayRecord f) (arrive m s)
  have hlevel (c : Fin 8) : t.level c = if b = c then levelAfterSetBay (bayStored b (bayRecord f) (arrive m s)) b else s.level c := by
    rw [← level_arrive m s, ← level_applyBay, State.level, State.level, htlvl]
  have hown := (hlevel b).trans (if_pos rfl)
  have hstored := bay_bayStored b (bayRecord f) (arrive m s)
  have hfloats : (bayStored b (bayRecord f) (arrive m s)).lvl.floats = s.lvl.floats := congrArg Levels.floats ha_lvl
  obtain ⟨hcandidate, hmisses, haccepted⟩ := levelAfterSetBay_blank (bayStored b (bayRecord f) (arrive m s)) b
  rw [ha_image] at himage
  rw [ha_snd] at hchannels hlast
  refine ⟨t, hexec, hreplies, htimage.trans himage, htret ▸ hcold, ?_, ?_, ?_, fun h => ?_, fun h => ?_, ?_, ?_, fun c hc => ⟨?_, ?_, ?_⟩,
    fun x hx hxb => ?_, fun he hx => ?_, fun h => ?_⟩
  · rw [hown, hcandidate]
  · rw [hown, hmisses]
  · rw [hown, haccepted]
  · obtain ⟨he, hactive⟩ := h
    have hfloat := levelAfterSetBay_float (by rw [hstored, bayRecord_enabled, he]; rfl) (hfloats ▸ hactive)
    rw [hstored] at hfloat
    rwa [hown]
  · rw [hown]
    refine levelAfterSetBay_none (h.imp (fun he => ?_) fun hf => hfloats ▸ hf)
    rw [hstored, bayRecord_enabled, he]
    rfl
  · simp [htsnd, hchannels]
  · simp [htsnd, hlast]
  · rw [hlevel, if_neg (Ne.symm hc)]
  · simp [htsnd, hchannels, Ne.symm hc]
  · simp [htsnd, hlast, Ne.symm hc]
  · rw [htsnd]
    exact (applyBay_inFlight _ (ha_snd ▸ hx) hxb).1
  · rw [freshEntryJoined_congr htsnd]
    exact applyBay_joins (by rw [bayRecord_enabled, he]; rfl) (ha_snd ▸ hx)
  · rw [htsnd]
    rcases h with he | ⟨x, hx, hxb⟩
    · exact applyBay_disabled (by rw [bayRecord_enabled, he]; rfl) _
    · exact (applyBay_inFlight _ (ha_snd ▸ hx) hxb).2

end Sys2Proof.Machine

/-! PROOF. The invariant of the bounded collections along every step (R34, R101, R102, R115, R120, R121, R161, R197, R203, R204). -/

namespace Sys2Proof.Machine

/-- A command that answers a state computed from the moment's arrival keeps the invariant where the computation does. -/
theorem inv_arrived {s t : State} (h : s.Inv) (m : Moment) (f : State → State) (hf : ∀ {s : State}, s.Inv → (f s).Inv)
    (ht : Host.Outcome.next (f (arrive m s)) = (.next t : Step)) : t.Inv := by
  cases ht
  exact hf (inv_arrive h m)

/-- An event of the running part keeps the invariant where its effect does. -/
theorem inv_ofWhileRunning {s t : State} {m : Moment} {f : State → State} (ht : whileRunning m f s = .next t) (h : s.Inv)
    (hf : ∀ {s : State}, s.Inv → (f s).Inv) : t.Inv :=
  inv_whileRunning h m f hf ht

/-- An event of one phase of the engine keeps the invariant where its effect on the sounding in flight does. -/
theorem inv_ofWhileInPhase {s t : State} {m : Moment} {p : EngineState} {f : InFlight → State → State}
    (ht : whileRunning m (inPhase p f) s = .next t) (h : s.Inv) (hf : ∀ x {s : State}, s.Inv → (f x s).Inv) : t.Inv :=
  inv_whileRunning h m _ (fun h => inv_inPhase h p f hf) ht

/-! ### Bytes from the host -/

theorem inv_execHostFrameComplete {s t : State} {m : Moment} {bytes : List Byte} (h : s.Inv)
    (ht : execHostFrameComplete m bytes s = .next t) : t.Inv :=
  inv_ofWhileRunning ht h fun h => inv_receiveBytes h bytes

theorem inv_execHostLengthOver240 {s t : State} {m : Moment} {bytes : List Byte} (h : s.Inv)
    (ht : execHostLengthOver240 m bytes s = .next t) : t.Inv :=
  inv_ofWhileRunning ht h fun h => inv_receiveBytes h bytes

theorem inv_execHostFrameGap {s t : State} {m : Moment} {bytes : List Byte} {ending : Byte} (h : s.Inv)
    (ht : execHostFrameGap m bytes ending s = .next t) : t.Inv :=
  inv_ofWhileRunning ht h fun h => inv_receiveByte (inv_discardPartial (inv_receiveBytes h bytes)) ending

theorem inv_execHostLineBreak {s t : State} {m : Moment} {bytes : List Byte} (h : s.Inv)
    (ht : execHostLineBreak m bytes s = .next t) : t.Inv :=
  inv_ofWhileRunning ht h fun h => inv_discardPartial (inv_receiveBytes h bytes)

/-! ### The sounding in flight -/

theorem inv_execChargeDeadlineExpired {s t : State} {m : Moment} (h : s.Inv) (ht : execChargeDeadlineExpired m s = .next t) : t.Inv :=
  inv_ofWhileInPhase ht h fun f _ h => inv_chargeExpires (inv_reachFast h _) f

theorem inv_execDriveStuck {s t : State} {m : Moment} (h : s.Inv) (ht : execDriveStuck m s = .next t) : t.Inv :=
  inv_ofWhileInPhase ht h fun f _ h => inv_finish h f _ _ _ _

theorem inv_execBurstEnd {s t : State} {m : Moment} {n : Nat} (h : s.Inv) (ht : execBurstEnd m n s = .next t) : t.Inv :=
  inv_ofWhileInPhase ht h fun f _ h => inv_burstEnds h n f

theorem inv_execEchoCrossing {s t : State} {m : Moment} {n : Nat} (h : s.Inv) (ht : execEchoCrossing m n s = .next t) : t.Inv :=
  inv_ofWhileInPhase ht h fun f _ h => inv_echoCrosses (inv_reachFast h _) n f

theorem inv_execListenWindowEnd {s t : State} {m : Moment} (h : s.Inv) (ht : execListenWindowEnd m s = .next t) : t.Inv :=
  inv_ofWhileInPhase ht h fun f _ h => inv_finish (inv_reachFast h _) f _ _ _ _

theorem inv_execSoundingGateComplete {s t : State} {m : Moment} {n : Nat} (h : s.Inv) (ht : execSoundingGateComplete m n s = .next t) : t.Inv :=
  inv_ofWhileInPhase ht h fun f _ h => inv_gateCompletes h n f

theorem inv_execSoundingGateTimeout {s t : State} {m : Moment} (h : s.Inv) (ht : execSoundingGateTimeout m s = .next t) : t.Inv :=
  inv_ofWhileInPhase ht h fun f _ h => inv_gateFailed h f

/-! ### Seconds that are reached -/

theorem inv_execBlockEndReached {s t : State} {m : Moment} {k : Fin 4} (h : s.Inv) (ht : execBlockEndReached m k s = .next t) : t.Inv :=
  inv_ofWhileRunning ht h fun h => inv_blockEndReached (inv_reachSecond h _) k

theorem inv_execMinuteRoll {s t : State} {m : Moment} (h : s.Inv) (ht : execMinuteRoll m s = .next t) : t.Inv :=
  inv_ofWhileRunning ht h fun h => inv_minuteRoll (inv_reachSecond h _)

/-! ### Every command -/

/-- Every command keeps the invariant: a request by what it leaves, an event of the running part by its effect, a power event by what it
leaves of the retained contents. -/
theorem inv_exec {s t : State} (h : s.Inv) (c : Instr) (ht : exec c s = .next t) : t.Inv := by
  cases c
  case hostFrameComplete m bytes => exact inv_execHostFrameComplete h ht
  case hostLengthOver240 m bytes => exact inv_execHostLengthOver240 h ht
  case hostFrameGap m bytes ending => exact inv_execHostFrameGap h ht
  case hostLineBreak m bytes => exact inv_execHostLineBreak h ht
  case chargeDeadlineExpired m => exact inv_execChargeDeadlineExpired h ht
  case driveStuck m => exact inv_execDriveStuck h ht
  case burstEnd m n => exact inv_execBurstEnd h ht
  case echoCrossing m n => exact inv_execEchoCrossing h ht
  case listenWindowEnd m => exact inv_execListenWindowEnd h ht
  case soundingGateComplete m n => exact inv_execSoundingGateComplete h ht
  case soundingGateTimeout m => exact inv_execSoundingGateTimeout h ht
  case blockEndReached m k => exact inv_execBlockEndReached h ht
  case minuteRoll m => exact inv_execMinuteRoll h ht
  case replySent m => exact inv_whileRunning h m _ inv_replySent ht
  case soundingDue m b => exact inv_whileRunning h m _ (inv_dueReached · b) ht
  case soundingBackoffPassed m b => exact inv_whileRunning h m _ (inv_backoffPassed · b) ht
  case supplyReady m => exact inv_whileRunning h m _ inv_supplyReports ht
  case tailDeadline m k => exact inv_whileRunning h m _ (inv_tailDeadlineReached · k) ht
  case debounceComplete m x => exact inv_whileRunning h m _ (inv_debounced · x) ht
  case gaugeStuckDeadline m g => exact inv_whileRunning h m _ (inv_stuckDeadlineReached · g) ht
  case forecastSlotStart m i => exact inv_whileRunning h m _ (inv_slotStarts · i) ht
  case forecastSlotEnd m i => exact inv_whileRunning h m _ (inv_slotEnds · i) ht
  case grantExpiry m => exact inv_whileRunning h m _ inv_expiryReached ht
  case lotDeadline m b => exact inv_whileRunning h m _ (inv_lotDeadlineReached · b) ht
  case actuatorReply m bytes => exact inv_whileRunning h m _ (inv_frameArrives · bytes) ht
  case actuatorResponseTimeout m => exact inv_whileRunning h m _ inv_responseTimesOut ht
  case actuatorNakBackoffPassed m d => exact inv_whileRunning h m _ (inv_nakBackoffPassed · d) ht
  case devicePollDue m d => exact inv_whileRunning h m _ (inv_pollReached · d) ht
  case movementDeadline m d => exact inv_whileRunning h m _ (inv_movementDeadlineReached · d) ht
  case mainPowerFail m => exact inv_arrived h m _ inv_mainFalls ht
  case backupSupplyLoss m => exact inv_arrived h m _ inv_backupFalls ht
  case start e => exact inv_arrived h e.moment _ (inv_startWhereDue · e.fall) ht
  case backupSupplyReturn m => exact inv_arrived h m (·.withBackup true) (inv_withBackup · true) ht
  all_goals exact inv_hostRequest h _ _ _ ht

/-- Settles O7: with no command waiting the state stays, and the command at the front keeps the invariant, which does not read the queue. -/
theorem everyStepKeepsInvariant : Obligations.EveryStepKeepsInvariant := by
  intro s t h ht
  unfold step at ht
  split at ht
  · cases ht
    exact h
  · exact inv_exec (inv_withPending h _) _ ht

end Sys2Proof.Machine

/-! PROOF. The parameter groups that other blocks follow: SOUNDING, DRAIN and PLANNER (R21, R121, R145). -/

namespace Sys2Proof.Machine

theorem inRange_iff {lo hi x : Nat} : inRange lo hi x = true ↔ lo ≤ x ∧ x ≤ hi := by simp [inRange]

theorem zeroOrIn_iff {lo hi x : Nat} : zeroOrIn lo hi x = true ↔ x = 0 ∨ lo ≤ x ∧ x ≤ hi := by
  simp [zeroOrIn, inRange_iff]

/-- The parameters of the DRAIN group lie in their ranges (R121). -/
def drainInRange (p : DrainParams) : Bool := zeroOrIn 1 3 p.slots && zeroOrIn 10 50000 p.lotVolume && zeroOrIn 60 3600 p.lotTime

theorem drainInRange_iff {p : DrainParams} : drainInRange p = true ↔
    p.slots ≤ 3 ∧ (p.lotVolume = 0 ∨ 10 ≤ p.lotVolume ∧ p.lotVolume ≤ 50000) ∧ (p.lotTime = 0 ∨ 60 ≤ p.lotTime ∧ p.lotTime ≤ 3600) := by
  simp only [drainInRange, Bool.and_eq_true, zeroOrIn_iff]
  omega

/-- A change of the return slots is tested while a slot is held. -/
def slotsRefused (p : DrainParams) (s : State) : Bool := (drainStored p).slots != s.image.drain.slots && !(slotHolders s).isEmpty

theorem slotsRefused_iff {p : DrainParams} {s : State} :
    slotsRefused p s = true ↔ (drainStored p).slots ≠ s.image.drain.slots ∧ slotHolders s ≠ [] := by
  simp [slotsRefused]

@[simp] theorem slotHolders_arrive (m : Moment) (s : State) : slotHolders (arrive m s) = slotHolders s :=
  slotHolders_congr (by simp)

@[simp] theorem slotsRefused_arrive (p : DrainParams) (m : Moment) (s : State) : slotsRefused p (arrive m s) = slotsRefused p s := by
  simp [slotsRefused]

/-- SET_PARAMS of the DRAIN group is checked for its ranges first, and then for a slot that is held (log entry 59). -/
theorem handleParamsDrain_fields (p : DrainParams) (s : State) : handleParamsDrain (.fields p) s =
    if !drainInRange p then refuse .refusedRange s
    else if slotsRefused p s then refuse .refusedState s
    else answerOk .empty (slotGrant (writeImage { s.image with drain := drainStored p } s)) := by
  rw [handleParamsDrain, onFields_fields, unlessRefused_cons, unlessRefused_cons, unlessRefused_nil]
  rfl

/-- SET_PARAMS of the SOUNDING group is checked for its ranges. -/
theorem handleParamsSounding_fields (p : SoundingParams) (s : State) : handleParamsSounding (.fields p) s =
    if !soundingInRange p then refuse .refusedRange s
    else answerOk .empty (intervalsChanged (writeImage { s.image with sounding := soundingStored p } s)) := by
  rw [handleParamsSounding, onFields_fields, unlessRefused_cons, unlessRefused_nil]

/-- SET_PARAMS of the PLANNER group is checked for the range of the margin. -/
theorem handleParamsPlanner_fields (n : Nat) (s : State) : handleParamsPlanner (.fields n) s =
    if 500 < n then refuse .refusedRange s else answerOk .empty (plannerTake (writeImage { s.image with margin := n } s)) := by
  simp [handleParamsPlanner, inRange]

/-- Settles O27: each group is refused by the first check that applies, and its write is followed by what the other blocks do. -/
theorem followedParameterGroups : Obligations.FollowedParameterGroups := by
  intro m q s hfree
  have himage : (arrive m s).image = s.image := by simp
  refine ⟨fun p hp => ?_, fun p hp => ?_, fun p hslots hvolume htime => ⟨fun hstate => ?_, fun hstate => ?_⟩, fun p hp => ?_, fun n hn => ?_,
    fun n hn => ?_⟩
  · refine hostRequest_ok (r := .setParamsSounding (.fields p)) hfree ?_ rfl rfl
    exact (handleParamsSounding_fields p _).trans (by rw [if_neg (by simp [hp]), himage])
  · refine hostRequest_refused (r := .setParamsSounding (.fields p)) hfree ?_ (by decide) (by decide)
    exact (handleParamsSounding_fields p _).trans (if_pos (by simp [hp]))
  · have hin : drainInRange p = true := drainInRange_iff.mpr ⟨hslots, hvolume, htime⟩
    have hkeep : slotsRefused p s ≠ true := fun h => by
      obtain ⟨hne, hheld⟩ := slotsRefused_iff.mp h
      exact hstate.elim hne hheld
    refine hostRequest_ok (r := .setParamsDrain (.fields p)) hfree ?_ rfl rfl
    refine (handleParamsDrain_fields p _).trans ?_
    rw [if_neg (by simp [hin]), slotsRefused_arrive, if_neg hkeep, himage]
    rfl
  · have hin : drainInRange p = true := drainInRange_iff.mpr ⟨hslots, hvolume, htime⟩
    refine hostRequest_refused (r := .setParamsDrain (.fields p)) hfree ?_ (by decide) (by decide)
    refine (handleParamsDrain_fields p _).trans ?_
    rw [if_neg (by simp [hin]), slotsRefused_arrive, if_pos (slotsRefused_iff.mpr hstate)]
  · have hout : drainInRange p = false := by
      rw [Bool.eq_false_iff, ne_eq, drainInRange_iff]
      omega
    refine hostRequest_refused (r := .setParamsDrain (.fields p)) hfree ?_ (by decide) (by decide)
    exact (handleParamsDrain_fields p _).trans (if_pos (by simp [hout]))
  · refine hostRequest_ok (r := .setParamsPlanner (.fields n)) hfree ?_ rfl rfl
    exact (handleParamsPlanner_fields n _).trans (by rw [if_neg (by omega), himage])
  · refine hostRequest_refused (r := .setParamsPlanner (.fields n)) hfree ?_ (by decide) (by decide)
    exact (handleParamsPlanner_fields n _).trans (if_pos hn)

end Sys2Proof.Machine

/-! PROOF. SOUND (R37). -/

namespace Sys2Proof.Machine

/-- A request that finds the port free and is accepted. -/
theorem hostRequest_accepted {m : Moment} {q : Byte} {r : Request} {s t : State} {body : ReplyBody} (h : PortFree s)
    (hr : handleRequest r (arrive m s) = answerAccepted body t) (hf : isFetch r = false) (hs : isRestart r = false) :
    hostRequest m q r s = .next (answered q (replyKind r) .accepted body t) := by
  rw [hostRequest_answered m q r s h hf hs, hr]
  rfl

/-- A bay that is named out of range is refused. -/
theorem onBay_outside {n : Nat} (h : 8 ≤ n) (s : State) (f : Fin 8 → Answer) : onBay n s f = refuse .refusedRange s := by
  rw [onBay, index?_of_le h]

/-- A bay that is not enabled is refused. -/
theorem onBay_disabled {b : Fin 8} {s : State} (h : (s.bay b).enabled = false) (f : Fin 8 → Answer) :
    onBay b.val s f = refuse .refusedUnconfigured s := by
  simp [onBay, h]

theorem onBay_enabled {b : Fin 8} {s : State} (h : (s.bay b).enabled = true) (f : Fin 8 → Answer) : onBay b.val s f = f b := by
  simp [onBay, h]

@[simp] theorem waitingEntry_arrive (m : Moment) (s : State) (b : Fin 8) : waitingEntry (arrive m s) b = waitingEntry s b := by
  simp [waitingEntry]

/-- A bay whose sounding is not in flight: its waiting entry decides. -/
theorem soundBay_waiting {b : Fin 8} {s : State} (h : ∀ f, s.snd.engine = some f → f.bay ≠ b) :
    soundBay b s = soundBay.soundWaiting (waitingEntry s b) s := by
  unfold soundBay
  cases hengine : s.snd.engine with
  | none => rfl
  | some f => exact if_neg (h f hengine)

/-- The sounding of the bay is in flight. -/
theorem soundBay_inFlight {b : Fin 8} {s : State} {f : InFlight} (h : s.snd.engine = some f) (hb : f.bay = b) :
    soundBay b s = answerAccepted (.sound .joined) (setEngine { f with joined := true } s) := by
  simp [soundBay, h, hb]

/-- Settles O37: the bay is tested first, then the sounding in flight, and the waiting entry last. -/
theorem soundJoinsOrMarks : Obligations.SoundJoinsOrMarks := by
  intro m q s hfree
  have hsnd : (arrive m s).snd = s.snd := by simp
  refine ⟨fun n hn => ?_, fun b => ⟨fun hoff => ?_, fun f hon hengine hb => ?_, fun e hon hother he => ⟨fun hurgent => ?_, fun hplain => ?_⟩⟩⟩
  · exact hostRequest_refused (r := .sound (.fields n)) hfree (onBay_outside hn _ _) (by decide) (by decide)
  · exact hostRequest_refused (r := .sound (.fields b.val)) hfree (onBay_disabled (by simpa using hoff) _) (by decide) (by decide)
  · refine hostRequest_accepted (r := .sound (.fields b.val)) hfree ?_ rfl rfl
    exact (onBay_enabled (by simpa using hon) _).trans (soundBay_inFlight (hsnd ▸ hengine) hb)
  all_goals
    have hentry : soundBay b (arrive m s) = soundBay.soundWaiting (some e) (arrive m s) := by
      rw [soundBay_waiting (hsnd ▸ hother), waitingEntry_arrive, he]
    refine hostRequest_accepted (r := .sound (.fields b.val)) hfree ((onBay_enabled (by simpa using hon) _).trans (hentry.trans ?_)) rfl rfl
  · exact if_pos hurgent
  · refine (if_neg (by simp [hplain])).trans ?_
    rw [← hsnd]
    rfl

end Sys2Proof.Machine

/-! PROOF. The engine's next entry, and the end of charging (R23 to R26, R35). -/

namespace Sys2Proof.Machine

/-! ### Taking an entry (R23, R35) -/

/-- An entry is ready past its not-before time, where it is urgent or due (R35). -/
theorem SoundingEntry.ready_iff {s : State} {e : SoundingEntry} :
    e.ready s = true ↔ (∀ n, e.notBefore = some n → n ≤ s.clock.fast) ∧ (e.urgent.isSome = true ∨ e.due ≤ s.now) := by
  unfold SoundingEntry.ready
  cases e.notBefore <;> simp

/-- A busy engine takes nothing. -/
theorem engineTake_busy {s : State} (h : s.snd.engine.isSome = true) : engineTake s = s := by
  unfold engineTake
  cases hengine : s.snd.engine with
  | none => simp [hengine] at h
  | some f => rfl

/-- With no entry ready, nothing is taken. -/
theorem engineTake_noneReady {s : State} (h : s.snd.queue.find? (SoundingEntry.ready s) = none) : engineTake s = s := by
  unfold engineTake
  rw [h]
  cases s.snd.engine <;> rfl

/-- What a take of an entry leaves: the supply is on, and ready if it was on and ready, which decides the phase. -/
def takenState (s : State) (e : SoundingEntry) : State :=
  let ready := s.snd.supplyOn && s.snd.supplyReady
  s.withSnd { s.snd with
    queue := withoutBay e.bay s.snd.queue, engine := some (takenEntry s e (if ready then .bursting else .charging))
    supplyOn := true, supplyReady := ready }

/-- An idle engine takes the first entry that is ready. -/
theorem engineTake_ready {s : State} {e : SoundingEntry} (hidle : s.snd.engine = none)
    (h : s.snd.queue.find? (SoundingEntry.ready s) = some e) : engineTake s = takenState s e := by
  simp only [engineTake, hidle, h, takenState, supplyOn]
  cases hon : s.snd.supplyOn <;> cases hready : s.snd.supplyReady <;> simp [State.withSnd, *]

/-- The first ready entry of a queue. -/
theorem find?_firstReady {s : State} {queue front back : List SoundingEntry} {e : SoundingEntry} (hq : queue = front ++ e :: back)
    (hfront : ∀ x ∈ front, ¬ x.ready s = true) (he : e.ready s = true) : queue.find? (SoundingEntry.ready s) = some e := by
  rw [hq, List.find?_append, List.find?_eq_none.mpr hfront, List.find?_cons_of_pos he]
  rfl

/-- Settles O53: a due time or a not-before time that is reached has the engine look for an entry, and it takes the first that is ready. -/
theorem idleEngineTakesTheFirstReadyEntry : Obligations.IdleEngineTakesTheFirstReadyEntry := by
  intro m b e0 s hrun he0
  have hdue : exec (.soundingDue m b) s = .next (refreshAlarms (engineTake (reachSecond e0.due (arrive m s)))) := by
    refine (whileRunning_running m (dueReached b) s hrun).trans ?_
    rw [dueReached, waitingEntry_arrive, he0]
  have hpassed (n : Nat) (hn : e0.notBefore = some n) :
      exec (.soundingBackoffPassed m b) s = .next (refreshAlarms (engineTake (reachFast n (arrive m s)))) := by
    refine (whileRunning_running m (backoffPassed b) s hrun).trans ?_
    simp only [backoffPassed, waitingEntry_arrive, he0, hn]
  have hstays (u : State) (hu : u.snd = s.snd) (h : s.snd.engine.isSome = true ∨ ∀ x ∈ s.snd.queue, ¬ x.ready u = true) :
      engineTake u = u := by
    rcases h with h | h
    · exact engineTake_busy (hu ▸ h)
    · exact engineTake_noneReady (List.find?_eq_none.mpr (hu ▸ h))
  have htakes (u : State) (hu : u.snd = s.snd) (hidle : s.snd.engine = none) {front back : List SoundingEntry} {e : SoundingEntry}
      (hq : s.snd.queue = front ++ e :: back) (hfront : ∀ x ∈ front, ¬ x.ready u = true) (he : e.ready u = true) :
      engineTake u = takenState u e :=
    engineTake_ready (hu ▸ hidle) (find?_firstReady (hu ▸ hq) hfront he)
  refine ⟨fun h => ?_, fun n hn h => ?_, fun hidle front e back hq => ⟨fun hfront he => ?_, fun n hn hfront he => ?_⟩⟩
  · rw [hdue, hstays _ (by simp) (by simpa only [SoundingEntry.ready_iff] using h)]
  · rw [hpassed n hn, hstays _ (by simp) (by simpa only [SoundingEntry.ready_iff] using h)]
  · rw [hdue, htakes _ (by simp) hidle hq (by simpa only [SoundingEntry.ready_iff] using hfront) (SoundingEntry.ready_iff.mpr he)]
    simp [takenState, takenEntry, withoutBay]
  · rw [hpassed n hn, htakes _ (by simp) hidle hq (by simpa only [SoundingEntry.ready_iff] using hfront) (SoundingEntry.ready_iff.mpr he)]
    simp [takenState, takenEntry, withoutBay]

/-! ### The end of charging (R25, R26) -/

/-- What an event of a phase does to a sounding that is in that phase. -/
theorem inPhase_of_engine {p : EngineState} {s : State} {x : InFlight} (h : s.snd.engine = some x) (hp : x.phase = p)
    (f : InFlight → State → State) : inPhase p f s = f x s := by
  simp [inPhase, h, hp]

/-- An event of a phase does nothing in another. -/
theorem inPhase_other {p : EngineState} {s : State} (h : ∀ x, s.snd.engine = some x → x.phase ≠ p) (f : InFlight → State → State) :
    inPhase p f s = s := by
  unfold inPhase
  cases hengine : s.snd.engine with
  | none => rfl
  | some x => exact if_neg (h x hengine)

/-- An event of a phase that comes while the part runs and the sounding is in that phase. -/
theorem whileInPhase {m : Moment} {s : State} {p : EngineState} {x : InFlight} (hrun : s.run = .running) (h : s.snd.engine = some x)
    (hp : x.phase = p) (f : InFlight → State → State) :
    whileRunning m (inPhase p f) s = .next (refreshAlarms (f x (arrive m s))) := by
  rw [whileRunning_running m _ s hrun, inPhase_of_engine (by simpa using h) hp]

/-- An event of a phase that comes while the part runs and no sounding is in that phase. -/
theorem whileInOtherPhase {m : Moment} {s : State} {p : EngineState} (hrun : s.run = .running)
    (h : ∀ x, s.snd.engine = some x → x.phase ≠ p) (f : InFlight → State → State) :
    whileRunning m (inPhase p f) s = .next (refreshAlarms (arrive m s)) := by
  rw [whileRunning_running m _ s hrun, inPhase_other (by simpa using h)]

/-- SUPPLY_READY of a supply that is off changes nothing. -/
theorem supplyReports_off {s : State} (h : s.snd.supplyOn = false) : supplyReports s = s := by simp [supplyReports, h]

/-- SUPPLY_READY without a charging engine. -/
theorem supplyReports_notCharging {s : State} (hon : s.snd.supplyOn = true) (h : ∀ x, s.snd.engine = some x → x.phase ≠ .charging) :
    supplyReports s = s.withSnd { s.snd with supplyReady := true, expiries := 0 } := by
  unfold supplyReports
  rw [if_pos hon]
  cases hengine : s.snd.engine with
  | none => simp [State.withSnd, hengine]
  | some x => simp [State.withSnd, hengine, h x hengine]

/-- SUPPLY_READY with a charging engine begins the burst. -/
theorem supplyReports_charging {s : State} {x : InFlight} (hon : s.snd.supplyOn = true) (h : s.snd.engine = some x)
    (hp : x.phase = .charging) : supplyReports s
      = s.withSnd { s.snd with supplyReady := true, expiries := 0, engine := some { x with phase := .bursting, burstStart := s.clock.fast } } := by
  simp [supplyReports, hon, h, hp, State.withSnd, beginBurst, setEngine]

/-- The count of expiries, held at 255, becomes 3 where it was 2. -/
theorem third_expiry_iff {n : Nat} : (addHeld 255 n 1 = Config.supplyFaultAt ∧ n < addHeld 255 n 1) ↔ n = 2 := by
  simp only [addHeld, Config.supplyFaultAt]
  omega

/-- The end of a charge that has waited too long: the expiry is counted, and the burst begins marked WEAK_DRIVE. -/
theorem chargeExpires_eq (f : InFlight) (u : State) :
    let burst := u.withSnd { u.snd with
      expiries := min 255 (u.snd.expiries + 1), engine := some { f with phase := .bursting, weak := true, burstStart := u.clock.fast } }
    chargeExpires f u = if u.snd.expiries = 2 then post 0 (.supplyFault 3 f.bay.val) burst else burst := by
  intro burst
  by_cases h : u.snd.expiries = 2
  · rw [if_pos h]
    refine (congrArg (beginBurst _) (if_pos (third_expiry_iff.mpr h))).trans ?_
    change post 0 (.supplyFault (min 255 (u.snd.expiries + 1)) f.bay.val) burst = _
    rw [show min 255 (u.snd.expiries + 1) = 3 by omega]
  · rw [if_neg h]
    exact congrArg (beginBurst _) (if_neg (mt third_expiry_iff.mp h))

/-- Settles O54: the supply decides first, and then whether the sounding in flight is charging. -/
theorem chargingEndsInABurst : Obligations.ChargingEndsInABurst := by
  intro m s hrun
  have hsnd : (arrive m s).snd = s.snd := by simp
  have hready : exec (.supplyReady m) s = .next (refreshAlarms (supplyReports (arrive m s))) := whileRunning_running m _ s hrun
  refine ⟨fun hoff => ?_, fun hon => ⟨fun hother => ?_, fun f hf hp => ?_⟩, fun hother => whileInOtherPhase hrun hother _, fun f hf hp => ?_⟩
  · rw [hready, supplyReports_off (hsnd ▸ hoff)]
  · rw [hready, supplyReports_notCharging (hsnd ▸ hon) (hsnd ▸ hother), hsnd]
  · rw [hready, supplyReports_charging (hsnd ▸ hon) (hsnd ▸ hf) hp, hsnd]
  · refine (whileInPhase hrun hf hp _).trans ?_
    have hreached : (reachFast (f.chargeStart + f.charge * 1000) (arrive m s)).snd = s.snd := by simp
    rw [← hreached]
    exact congrArg (fun t => Host.Outcome.next (refreshAlarms t)) (chargeExpires_eq f _)

end Sys2Proof.Machine

/-! PROOF. The reports on the whole station (R42, R75, R143, R152, R184). -/

namespace Sys2Proof.Machine

/-- The states that hold a slot (R121). -/
theorem holdsSlot_eq (x : OrderState) : x.holdsSlot = (x == .opening || x == .running || x == .closing || x == .suspect) := by
  cases x <;> rfl

theorem two_le_rank_iff (l : Alert) : 2 ≤ l.rank ↔ l = .warning ∨ l = .severe := by
  cases l <;> simp [Alert.rank]

/-- The planner target by the mode and the alert level (R147). -/
theorem plannerTarget_eq (s : State) : plannerTarget s =
    if s.mode = .recovery then .empty else if s.mode = .watch ∧ (s.rain.alert = .warning ∨ s.rain.alert = .severe) then .drawdown else .none := by
  unfold plannerTarget
  cases h : s.mode <;> simp [two_le_rank_iff]

/-- A level by the polarity of its terminal (R179, R183). -/
theorem inputActive_eq (s : State) (t : Fin 12) : inputActive s t =
    if (s.image.terminals.at_ t).polarity = .activeHigh then s.term.debounced.getLsbD t.val else !s.term.debounced.getLsbD t.val := by
  unfold inputActive
  cases h : (s.image.terminals.at_ t).polarity <;> rfl

theorem drivenHigh_eq (s : State) (t : Fin 12) (l : Fin 4) : drivenHigh s t l =
    if (s.image.terminals.at_ t).polarity = .activeHigh then s.term.lineActive.at_ l else !s.term.lineActive.at_ l := by
  unfold drivenHigh
  cases h : (s.image.terminals.at_ t).polarity <;> rfl

/-- A request that only reports is answered with its report, and changes nothing. -/
theorem reportEmpty_fields {s : State} {body report : ReplyBody} (h : report = body) : reportEmpty (.fields ()) s report = answerOk body s :=
  congrArg (answerOk · s) h

/-- Settles O20: each report is the items of its rule. -/
theorem stationReportsChangeNothing : Obligations.StationReportsChangeNothing := by
  intro m q s hfree a holderOf
  refine ⟨?sounding, ?rain, ?credits, ?planner, ?terminals⟩
  case sounding => exact hostRequest_ok (r := .getSounding (.fields ())) hfree (reportEmpty_fields rfl) rfl rfl
  case rain => exact hostRequest_ok (r := .getRain (.fields ())) hfree (reportEmpty_fields rfl) rfl rfl
  case credits =>
    refine hostRequest_ok (r := .getCredits (.fields ())) hfree (reportEmpty_fields ?_) rfl rfl
    refine congrArg (fun holders => ReplyBody.credits { creditsReport a with holders := holders })
      (congrArg (List.filter · allBays) (funext fun b => ?_))
    cases a.order b with
    | none => rfl
    | some o => exact holdsSlot_eq o.state
  case planner =>
    rw [← plannerTarget_eq]
    exact hostRequest_ok (r := .getPlanner (.fields ())) hfree (reportEmpty_fields rfl) rfl rfl
  case terminals =>
    simp only [← inputActive_eq, ← drivenHigh_eq]
    exact hostRequest_ok (r := .getTerminals (.fields ())) hfree (reportEmpty_fields rfl) rfl rfl

end Sys2Proof.Machine

/-! PROOF. What the takers of a level event, and a completion, leave alone (R46 to R53). -/

namespace Sys2Proof.Machine

/-! ### The takers of a level event (R53) -/

/-- What no taker of a level event touches: the image, the channels and the last readings, the levels, the rain watch and the devices. -/
structure Spared where
  image : Image
  channels : Tab 8 Channel
  last : Tab 8 (Option Reading)
  lvl : Levels
  rain : Rain
  devices : Tab 16 DeviceVol

/-- The spared part of a state. -/
def spared (s : State) : Spared :=
  { image := s.image, channels := s.snd.channels, last := s.snd.last, lvl := s.lvl, rain := s.rain, devices := s.act.devices }

/-- What keeps the kept part spares the spared part. -/
theorem spared_of_kept {s t : State} (h : kept t = kept s) : spared t = spared s := by
  have hpart (u : State) : spared u = { image := (kept u).image, channels := (kept u).channels, last := (kept u).last, lvl := (kept u).lvl
                                        rain := (kept u).rain, devices := (kept u).devices } := rfl
  rw [hpart t, hpart s, h]

theorem spared_foldl {α : Type} {f : State → α → State} (h : ∀ s x, spared (f s x) = spared s) (l : List α) (s : State) :
    spared (l.foldl f s) = spared s := by
  induction l generalizing s with
  | nil => rfl
  | cons x rest ih => exact (ih (f s x)).trans (h s x)

@[simp] theorem spared_postAt (t i : Nat) (d : NoticeDetail) (s : State) : spared (postAt t i d s) = spared s := rfl
@[simp] theorem spared_post (i : Nat) (d : NoticeDetail) (s : State) : spared (post i d s) = spared s := spared_of_kept (kept_post i d s)
@[simp] theorem spared_setOutfall (s : State) (k : Fin 4) (v : OutfallVol) : spared (s.setOutfall k v) = spared s := rfl
@[simp] theorem spared_updateOpen (k : Fin 4) (f : SpillRecord → SpillRecord) (s : State) : spared (updateOpen k f s) = spared s := rfl
@[simp] theorem spared_enterSpillState (k : Fin 4) (x : SpillState) (s : State) : spared (enterSpillState k x s) = spared s := rfl
@[simp] theorem spared_creditPeriod (k : Fin 4) (f : PeriodSet → PeriodSet) (s : State) : spared (creditPeriod k f s) = spared s := rfl
@[simp] theorem spared_accrue (k : Fin 4) (head : Int) (n : Nat) (s : State) : spared (accrue k head n s) = spared s := rfl
@[simp] theorem spared_openBlock (k : Fin 4) (start : Nat) (s : State) : spared (openBlock k start s) = spared s := rfl
@[simp] theorem spared_carryBlock (k : Fin 4) (start : Nat) (s : State) : spared (carryBlock k start s) = spared s := rfl
@[simp] theorem spared_beginTail (k : Fin 4) (time : Nat) (s : State) : spared (beginTail k time s) = spared s := rfl

@[simp] theorem spared_enterLog (id : Nat) (r : SpillRecord) (s : State) : spared (enterLog id r s) = spared s := by
  unfold enterLog
  dsimp only
  split
  · exact (spared_post _ _ _).trans rfl
  · rfl

@[simp] theorem spared_placeSpill (k : Fin 4) (start : Nat) (cls : SpillClass) (head : Nat) (s : State) :
    spared (placeSpill k start cls head s) = spared s := by
  have hslot : spared (placeSpill.placeSlot k start cls head s) = spared s := rfl
  unfold placeSpill
  split
  · split
    · exact spared_enterLog _ _ s
    · exact hslot
  · exact hslot

@[simp] theorem spared_outfallChanged (k : Fin 4) (s : State) : spared (outfallChanged k s) = spared s :=
  spared_of_kept (by simp [outfallChanged])

@[simp] theorem spared_startSpill (k : Fin 4) (head : Int) (time : Nat) (s : State) : spared (startSpill k head time s) = spared s := by
  unfold startSpill
  dsimp only
  simp only [spared_outfallChanged, spared_postAt, spared_enterSpillState, apply_ite spared, spared_openBlock, spared_creditPeriod,
    spared_placeSpill, spared_setOutfall, ite_self]

@[simp] theorem spared_spillTransition (k : Fin 4) (head : Int) (time : Nat) (s : State) :
    spared (spillTransition k head time s) = spared s := by
  unfold spillTransition
  cases s.spillState k with
  | quiet => simp only [apply_ite spared, spared_startSpill, ite_self]
  | spilling => simp only [apply_ite spared, spared_beginTail, ite_self]
  | tailing d1 d2 => simp only [apply_ite spared, spared_carryBlock, spared_enterSpillState, ite_self]
  | blind => simp only [apply_ite spared, spared_beginTail, spared_enterSpillState, ite_self]

@[simp] theorem spared_accrueAndPeak (k : Fin 4) (head : Int) (time : Nat) (previous : Option Nat) (s : State) :
    spared (accrueAndPeak k head time previous s) = spared s := by
  unfold accrueAndPeak
  cases s.spillState k <;> rfl

@[simp] theorem spared_spillAcceptance (b : Fin 8) (value time : Nat) (previous : Option Nat) (s : State) :
    spared (spillAcceptance b value time previous s) = spared s := by
  unfold spillAcceptance
  cases outfallOf s b with
  | none => rfl
  | some k => simp only [apply_ite spared, spared_spillTransition, spared_accrueAndPeak, ite_self]

@[simp] theorem spared_spillLoss (b : Fin 8) (s : State) : spared (spillLoss b s) = spared s := by
  unfold spillLoss
  cases outfallOf s b with
  | none => rfl
  | some k => cases h : s.spillState k <;> simp [h]

/-- Each block takes a level event without touching the spared part. -/
theorem spared_takeLevelEvent (b : Fin 8) (ev : LevelEvent) (s : State) (taker : LevelTaker) :
    spared (takeLevelEvent b ev s taker) = spared s := by
  cases taker with
  | site => exact spared_of_kept (kept_evaluateMode s)
  | planner => exact spared_of_kept (kept_plannerTake s)
  | spill =>
    cases ev with
    | acceptance before value volume time previous => exact spared_spillAcceptance b value time previous s
    | qualityChange before after value volume => simp only [takeLevelEvent, apply_ite spared, spared_spillLoss, ite_self]
  | drain =>
    cases ev with
    | acceptance before value volume time previous => exact spared_of_kept (kept_drainAcceptance b value volume s)
    | qualityChange before after value volume =>
      simp only [takeLevelEvent, apply_ite spared, spared_of_kept (kept_gaugeLoss b s), ite_self]

/-- A level event that is handed on touches nothing of the spared part, in whichever order it is taken. -/
theorem spared_handLevelEvent (b : Fin 8) (ev : LevelEvent) (s : State) : spared (handLevelEvent b ev s) = spared s :=
  (spared_foldl (spared_takeLevelEvent b ev) _ _).trans (spared_of_kept (kept_dropChoice s))

theorem level_handLevelEvent (b c : Fin 8) (ev : LevelEvent) (s : State) : (handLevelEvent b ev s).level c = s.level c :=
  congrArg (fun p => p.lvl.records.at_ c) (spared_handLevelEvent b ev s)

/-! ### A completion (R46 to R49) -/

/-- From `s` to `t` the level of one bay may have changed, and no other bay's; the image, the channels, the last readings, the rain watch and
the devices are the same. -/
structure OnlyLevel (b : Fin 8) (s t : State) : Prop where
  image : t.image = s.image
  channels : t.snd.channels = s.snd.channels
  last : t.snd.last = s.snd.last
  rain : t.rain = s.rain
  devices : t.act.devices = s.act.devices
  others : ∀ c, c ≠ b → t.level c = s.level c

theorem OnlyLevel.refl (b : Fin 8) (s : State) : OnlyLevel b s s := ⟨rfl, rfl, rfl, rfl, rfl, fun _ _ => rfl⟩

theorem OnlyLevel.trans {b : Fin 8} {r s t : State} (h : OnlyLevel b r s) (g : OnlyLevel b s t) : OnlyLevel b r t where
  image := g.image.trans h.image
  channels := g.channels.trans h.channels
  last := g.last.trans h.last
  rain := g.rain.trans h.rain
  devices := g.devices.trans h.devices
  others c hc := (g.others c hc).trans (h.others c hc)

theorem OnlyLevel.of_spared {b : Fin 8} {s t : State} (h : spared t = spared s) : OnlyLevel b s t where
  image := congrArg Spared.image h
  channels := congrArg Spared.channels h
  last := congrArg Spared.last h
  rain := congrArg Spared.rain h
  devices := congrArg Spared.devices h
  others c _ := congrArg (fun p => p.lvl.records.at_ c) h

theorem onlyLevel_setLevel (b : Fin 8) (r : LevelRecord) (s : State) : OnlyLevel b s (s.setLevel b r) where
  image := rfl
  channels := rfl
  last := rfl
  rain := rfl
  devices := rfl
  others c hc := by rw [State.level_setLevel, if_neg (Ne.symm hc)]

theorem onlyLevel_testDisagreement (b : Fin 8) (s : State) : OnlyLevel b s (testDisagreement b s) := by
  unfold testDisagreement
  split
  · exact (onlyLevel_setLevel b _ s).trans (.of_spared (spared_post _ _ _))
  · exact .refl b s

theorem onlyLevel_handQualityChange (b : Fin 8) (before : Quality) (s : State) : OnlyLevel b s (handQualityChange b before s) := by
  unfold handQualityChange
  split
  · exact .refl b s
  · exact .of_spared (spared_handLevelEvent b _ s)

theorem onlyLevel_acceptReading (b : Fin 8) (level time : Nat) (s : State) : OnlyLevel b s (acceptReading b level time s) :=
  ((onlyLevel_setLevel b _ s).trans (onlyLevel_testDisagreement b _)).trans (.of_spared (spared_handLevelEvent b _ _))

theorem onlyLevel_withoutAcceptance (b : Fin 8) (r : LevelRecord) (s : State) : OnlyLevel b s (withoutAcceptance b r s) := by
  have hset := onlyLevel_setLevel b r s
  unfold withoutAcceptance
  dsimp only
  split
  · exact (hset.trans (onlyLevel_testDisagreement b _)).trans (onlyLevel_handQualityChange b _ _)
  · exact hset.trans (onlyLevel_handQualityChange b _ _)

/-- A completion of a bay changes no other bay's level. -/
theorem onlyLevel_levelCompletion (b : Fin 8) (level : Option Nat) (time : Nat) (failed : Bool) (s : State) :
    OnlyLevel b s (levelCompletion b level time failed s) := by
  unfold levelCompletion
  cases level with
  | none => exact onlyLevel_withoutAcceptance b _ s
  | some l =>
    dsimp only
    split
    · exact onlyLevel_acceptReading b l time s
    · exact onlyLevel_withoutAcceptance b _ s

theorem level_post (i : Nat) (d : NoticeDetail) (s : State) (b : Fin 8) : (post i d s).level b = s.level b :=
  congrArg (fun k => k.lvl.records.at_ b) (kept_post i d s)

/-- The test of disagreement leaves the value, the quality and the acceptance time of the record. -/
theorem level_testDisagreement (b : Fin 8) (s : State) : ((testDisagreement b s).level b).value = (s.level b).value
    ∧ ((testDisagreement b s).level b).quality = (s.level b).quality ∧ ((testDisagreement b s).level b).accepted = (s.level b).accepted := by
  unfold testDisagreement
  split
  · rw [level_post, State.level_setLevel, if_pos rfl]
    exact ⟨rfl, rfl, rfl⟩
  · exact ⟨rfl, rfl, rfl⟩

/-- An accepted reading is the bay's level. -/
theorem level_acceptReading (b : Fin 8) (level time : Nat) (s : State) : ((acceptReading b level time s).level b).value = some level
    ∧ ((acceptReading b level time s).level b).quality = .good ∧ ((acceptReading b level time s).level b).accepted = some time := by
  have htested := level_testDisagreement b (s.setLevel b ((s.level b).accept level time))
  rw [State.level_setLevel, if_pos rfl] at htested
  unfold acceptReading
  dsimp only
  rw [level_handLevelEvent]
  exact htested

/-- A bay without an acceptance time accepts any level (R46). -/
theorem levelCompletion_first {b : Fin 8} {s : State} (h : (s.level b).accepted = none) (level time : Nat) (failed : Bool) :
    levelCompletion b (some level) time failed s = acceptReading b level time s := by
  simp [levelCompletion, accepts, h]

end Sys2Proof.Machine

/-! PROOF. The ends of a sounding (R7, R32, R38, R40, R41). -/

namespace Sys2Proof.Machine

/-! ### The moment of an event -/

/-- `u` is `s` at another moment: the clocks have moved on, and nothing that a sounding's end is told by has changed. -/
structure LaterOf (s u : State) : Prop where
  image : u.image = s.image
  snd : u.snd = s.snd
  lvl : u.lvl = s.lvl
  rain : u.rain = s.rain
  spill : u.spill = s.spill
  drn : u.drn = s.drn
  act : u.act = s.act

theorem laterOf_arrive (m : Moment) (s : State) : LaterOf s (arrive m s) := by constructor <;> simp

theorem laterOf_reachFast (t : Nat) (m : Moment) (s : State) : LaterOf s (reachFast t (arrive m s)) := by constructor <;> simp

theorem LaterOf.lastFollows_iff {s u t : State} (h : LaterOf s u) (d : Fin 16) :
    LastFollows s t d (s.last d) ↔ LastFollows u t d (u.last d) := by
  have hlast : u.last d = s.last d := congrArg (·.lasts.at_ d) h.act
  rw [hlast]
  exact lastFollows_congr (congrArg (·.queue) h.act.symm)

theorem LaterOf.finishedWith {s u t : State} (h : LaterOf s u) {f : InFlight} {result : ReadingResult} {level : Option Nat}
    {fault : Option DriveFault} {nanos : Option Nat} (hu : FinishedWith u u t f result level fault nanos) :
    FinishedWith s u t f result level fault nanos := by
  obtain ⟨ht, hlast, hchannels, hjoined, hlevels, himage, hrain, hdevices, hfollows⟩ := hu
  have hlevel (b : Fin 8) : u.level b = s.level b := congrArg (·.records.at_ b) h.lvl
  unfold FinishedWith
  simp only [← h.image, ← h.snd, ← h.rain, ← h.act, ← hlevel, h.lastFollows_iff]
  exact ⟨ht, hlast, hchannels, hjoined, hlevels, himage, hrain, hdevices, hfollows⟩

theorem LaterOf.discardEnded {s u t : State} (h : LaterOf s u) {f : InFlight} (hu : DiscardEnded u u t f) : DiscardEnded s u t f := by
  have hbay : u.bay f.bay = s.bay f.bay := congrArg (·.bays.at_ f.bay) h.image
  unfold DiscardEnded at hu ⊢
  rwa [hbay, h.snd, h.lvl, h.image, h.rain, h.spill, h.drn, h.act] at hu

/-! ### Channel health (R40, R41) -/

/-- A result fails a channel: it is bad, and the count reaches the fault limit (R40). -/
def resultFails (limit : Nat) (result : ReadingResult) (c : Channel) : Bool :=
  result ≠ .good ∧ c.health = .ok ∧ limit ≤ min 255 (c.bad + 1)

/-- A channel after a result (R40, R41). -/
def channelAfter (limit : Nat) (result : ReadingResult) (c : Channel) : Channel :=
  if result = .good then { health := .ok, bad := 0 }
  else { health := if limit ≤ min 255 (c.bad + 1) then .failed else c.health, bad := min 255 (c.bad + 1) }

/-- A result reaches channel health: the channel takes it, and a recovery or a fault is posted (R40, R41). -/
theorem channelTakes_eq (r : Reading) (s : State) :
    let c := s.snd.channels.at_ r.bay
    let limit := s.image.sounding.faultLimit
    let taken := setChannel r.bay (channelAfter limit r.result c) s
    channelTakes r s =
      if r.result = .good ∧ c.health = .failed then post r.bay.val (.gaugeRecovered c.bad) taken
      else if resultFails limit r.result c then post r.bay.val (.gaugeFault r.result (min 255 (c.bad + 1)) r.driveFault) taken
      else taken := by
  intro c limit taken
  unfold channelTakes
  by_cases hgood : r.result = .good
  · simp [channelGood, hgood, resultFails, taken, channelAfter, c]
  · by_cases hlimit : limit ≤ min 255 (c.bad + 1)
    · cases hhealth : c.health <;>
        simp [channelBad, hgood, resultFails, taken, channelAfter, hlimit, hhealth, addHeld, c, limit]
    · simp [channelBad, hgood, resultFails, taken, channelAfter, hlimit, addHeld, c, limit]

/-- The channels after a result. -/
theorem channels_channelTakes (r : Reading) (s : State) : (channelTakes r s).snd.channels
    = s.snd.channels.put r.bay (channelAfter s.image.sounding.faultLimit r.result (s.snd.channels.at_ r.bay)) := by
  rw [channelTakes_eq]
  simp [apply_ite State.snd, setChannel]

/-- A channel has just failed where the result fails it (R49). -/
theorem justFailed_channelTakes (r : Reading) (s : State) :
    justFailed s (channelTakes r s) r.bay = resultFails s.image.sounding.faultLimit r.result (s.snd.channels.at_ r.bay) := by
  rw [justFailed, channels_channelTakes, Tab.at_put, if_pos rfl]
  by_cases hgood : r.result = .good
  · simp [resultFails, channelAfter, hgood]
  · by_cases hlimit : s.image.sounding.faultLimit ≤ min 255 ((s.snd.channels.at_ r.bay).bad + 1)
    · cases hhealth : (s.snd.channels.at_ r.bay).health <;> simp [resultFails, channelAfter, hgood, hlimit, hhealth]
    · cases hhealth : (s.snd.channels.at_ r.bay).health <;> simp [resultFails, channelAfter, hgood, hlimit, hhealth]

/-- Channel health leaves the rest of what a finish is told by. -/
theorem channelTakes_fields (r : Reading) (s : State) : (channelTakes r s).snd.last = s.snd.last ∧ (channelTakes r s).image = s.image
    ∧ (channelTakes r s).rain = s.rain ∧ (channelTakes r s).lvl = s.lvl ∧ (channelTakes r s).act = s.act
    ∧ (channelTakes r s).now = s.now := by
  rw [channelTakes_eq]
  split
  · exact ⟨rfl, rfl, rfl, rfl, rfl, rfl⟩
  · split
    · exact ⟨rfl, rfl, rfl, rfl, rfl, rfl⟩
    · exact ⟨rfl, rfl, rfl, rfl, rfl, rfl⟩

/-! ### The engine becomes idle (R23, R24) -/

/-- The engine without its sounding, before it takes the next entry (R24). -/
def engineStopped (s : State) : State :=
  let s1 := s.withSnd { s.snd with engine := none }
  if s1.mode.keepsSupply then s1 else supplyOff s1

/-- An entry joins before the engine stops, or after. -/
theorem engineStopped_queueEntry (e : SoundingEntry) (s : State) : engineStopped (queueEntry e s) = queueEntry e (engineStopped s) := by
  unfold engineStopped
  cases h : s.mode.keepsSupply <;> simp [h] <;> rfl

/-- The engine becomes idle after a fresh entry has joined (R35). -/
theorem freshEntryJoined_engineIdle (b : Fin 8) (due : Nat) (s : State) :
    FreshEntryJoined (engineIdle (queueEntry (freshEntry b due) s)) b due := by
  show FreshEntryJoined (engineTake (engineStopped (queueEntry (freshEntry b due) s))) b due
  rw [engineStopped_queueEntry]
  exact freshEntryJoined_engineTake b due _

@[simp] theorem mode_engineIdle (s : State) : (engineIdle s).mode = s.mode := by
  unfold engineIdle
  dsimp only
  rw [mode_engineTake]
  split <;> rfl

@[simp] theorem drn_engineIdle (s : State) : (engineIdle s).drn = s.drn := by
  unfold engineIdle
  dsimp only
  rw [drn_engineTake]
  split <;> rfl

/-- The interval of a bay follows from the orders, the image, the outfalls, the channels and the mode (R38). -/
theorem applicableInterval_congr {s t : State} (hk : kept t = kept s) (hdrn : t.drn = s.drn) (hmode : t.mode = s.mode) (b : Fin 8) :
    applicableInterval t b = applicableInterval s b := by
  have himage : t.image = s.image := congrArg Kept.image hk
  have hbay : t.bay b = s.bay b := congrArg (·.bays.at_ b) himage
  have hchannels : t.snd.channels = s.snd.channels := congrArg Kept.channels hk
  have hspill : t.spill = s.spill := congrArg Kept.spill hk
  have hnotQuiet (k : Fin 4) : notQuiet t k = notQuiet s k := by
    rw [notQuiet, State.spillState, hspill]
    rfl
  have hrunning : bayRunning t b = bayRunning s b := by
    rw [bayRunning, State.order, hdrn]
    rfl
  have hmeets : meetsSpill t b = meetsSpill s b := by
    rw [meetsSpill, outfallOf, hbay]
    exact congrArg (fun p => match outfallOf s b with | some k => p k | none => false) (funext hnotQuiet)
  rw [applicableInterval, hrunning, hmeets, himage, hchannels, hmode]
  rfl

/-! ### The finish (R32) -/

/-- The state with a reading as the last one of its bay. -/
def withReading (b : Fin 8) (r : Reading) (s : State) : State := s.withSnd { s.snd with last := s.snd.last.put b (some r) }

/-- The state that a finish leaves before the bay's fresh entry joins: the reading is the last one, and channel health and the level keeper
have taken it (R32). -/
def readingTaken (f : InFlight) (r : Reading) (s : State) : State :=
  levelCompletion f.bay r.level r.time (resultFails s.image.sounding.faultLimit r.result (s.snd.channels.at_ f.bay))
    (channelTakes r (withReading f.bay r s))

/-- A finish: the reading is taken, the bay's fresh entry joins at the interval that then applies, and the engine becomes idle. -/
theorem finishWith_eq {f : InFlight} {r : Reading} (h : r.bay = f.bay) (s : State) : finishWith f r s
    = engineIdle (queueEntry (freshEntry f.bay (r.time + applicableInterval (readingTaken f r s) f.bay)) (readingTaken f r s)) := by
  have hfailed := justFailed_channelTakes r (withReading f.bay r s)
  rw [h] at hfailed
  have htaken : levelCompletion f.bay r.level r.time (justFailed (withReading f.bay r s) (channelTakes r (withReading f.bay r s)) f.bay)
      (channelTakes r (withReading f.bay r s)) = readingTaken f r s := by
    rw [hfailed]
    rfl
  rw [← htaken]
  rfl

/-- A sounding that is not to be discarded finishes with its reading. -/
theorem finishedWith_here {f : InFlight} (h : f.discard = false) (result : ReadingResult) (level : Option Nat) (fault : Option DriveFault)
    (nanos : Option Nat) (u : State) :
    FinishedWith u u (refreshAlarms (finish f result level fault nanos u)) f result level fault nanos := by
  let r := makeReading u f result level fault nanos
  let k := readingTaken f r u
  let e := freshEntry f.bay (u.now + applicableInterval k f.bay)
  have hfinish : finish f result level fault nanos u = engineIdle (queueEntry e k) :=
    (if_neg (by simp [h])).trans (finishWith_eq (r := r) rfl u)
  obtain ⟨hlast, himage, hrain, hlvl, hact, hnow⟩ := channelTakes_fields r (withReading f.bay r u)
  have hchannels := channels_channelTakes r (withReading f.bay r u)
  have honly : OnlyLevel f.bay (channelTakes r (withReading f.bay r u)) k := onlyLevel_levelCompletion ..
  have hk : kept (engineIdle (queueEntry e k)) = kept k := by simp
  have hinterval : applicableInterval (engineIdle (queueEntry e k)) f.bay = applicableInterval k f.bay :=
    applicableInterval_congr hk (drn_engineIdle _) (mode_engineIdle _) f.bay
  have hfollows : Follows u (refreshAlarms (engineIdle (queueEntry e k))) :=
    follows_refreshAlarms (follows_engineIdle (follows_queueEntry (follows_levelCompletion ((Follows.refl u).same hnow hact) _ _ _ _) _))
  rw [hfinish]
  refine ⟨?_, (congrArg Kept.last hk).trans (honly.last.trans hlast), (congrArg Kept.channels hk).trans (honly.channels.trans hchannels), ?_,
    fun b hb => ?_, (congrArg Kept.image hk).trans (honly.image.trans himage), (congrArg Kept.rain hk).trans (honly.rain.trans hrain),
    (congrArg Kept.devices hk).trans (honly.devices.trans (congrArg Actuator.devices hact)), hfollows.last⟩
  · have hheard := channelTakes_eq r (withReading f.bay r u)
    refine congrArg (fun x => refreshAlarms (engineIdle (queueEntry (freshEntry f.bay (u.now + applicableInterval x f.bay)) x))) ?_
    exact congrArg (levelCompletion f.bay level u.now _) hheard
  · show FreshEntryJoined (engineIdle (queueEntry e k)) f.bay (u.now + applicableInterval (engineIdle (queueEntry e k)) f.bay)
    rw [hinterval]
    exact freshEntryJoined_engineIdle f.bay _ k
  · exact (congrArg (fun p => p.lvl.records.at_ b) hk).trans ((honly.others b hb).trans (congrArg (·.records.at_ b) hlvl))

/-! ### The end of a discarded sounding (R7, R32) -/

theorem kept_endDiscarded (f : InFlight) (u : State) : kept (endDiscarded f u) = kept u := by
  simp [endDiscarded, apply_ite kept]

theorem discardEnded_here (f : InFlight) (u : State) : DiscardEnded u u (refreshAlarms (endDiscarded f u)) f := by
  have hk := kept_endDiscarded f u
  refine ⟨fun henabled => ?_, congrArg Kept.last hk, congrArg Kept.channels hk, congrArg Kept.lvl hk, congrArg Kept.image hk,
    congrArg Kept.ret hk, congrArg Kept.rain hk, congrArg Kept.spill hk, ?_, ?_⟩
  · unfold endDiscarded
    rw [if_pos henabled]
    exact freshEntryJoined_engineIdle f.bay u.now u
  · show (endDiscarded f u).drn = u.drn
    rw [endDiscarded, drn_engineIdle]
    split <;> rfl
  · show (endDiscarded f u).act = u.act
    rw [endDiscarded, act_engineIdle]
    split <;> rfl

/-! ### Either end, told from the state before the moment -/

theorem finishedWith_finish {s u : State} {f : InFlight} (h : LaterOf s u) (hkeep : f.discard = false) (result : ReadingResult)
    (level : Option Nat) (fault : Option DriveFault) (nanos : Option Nat) :
    FinishedWith s u (refreshAlarms (finish f result level fault nanos u)) f result level fault nanos :=
  h.finishedWith (finishedWith_here hkeep result level fault nanos u)

theorem discardEnded_finish {s u : State} {f : InFlight} (h : LaterOf s u) (hdiscard : f.discard = true) (result : ReadingResult)
    (level : Option Nat) (fault : Option DriveFault) (nanos : Option Nat) :
    DiscardEnded s u (refreshAlarms (finish f result level fault nanos u)) f := by
  rw [finish, if_pos hdiscard]
  exact h.discardEnded (discardEnded_here f u)

end Sys2Proof.Machine

/-! PROOF. Bursts and echoes (R27, R28). -/

namespace Sys2Proof.Machine

/-- A burst that was cut short finishes the sounding. -/
theorem burstEnds_short {n : Nat} {f : InFlight} (h : n < f.pulses) (s : State) :
    burstEnds n f s = finish f .driveFault none (some .short) none s := if_pos h

/-- A whole burst begins the listening. -/
theorem burstEnds_whole {n : Nat} {f : InFlight} (h : f.pulses ≤ n) (s : State) :
    burstEnds n f s = setEngine { f with phase := .listening } s := if_neg (Nat.not_lt.mpr h)

/-- A crossing after blanking and inside the window is the echo (log entry 11). -/
theorem echoCrosses_echo {tof : Nat} {f : InFlight} (hblank : f.pulses * 1000 + f.blanking * 1000 * f.frequency ≤ tof * f.frequency)
    (hwindow : tof < listenWindow f) (s : State) : echoCrosses tof f s = setEngine { f with phase := .gating, tof := tof } s :=
  if_pos ⟨decide_eq_true hblank, hwindow⟩

/-- A crossing before the end of blanking, or at the end of the window or later, is ignored. -/
theorem echoCrosses_ignored {tof : Nat} {f : InFlight}
    (h : tof * f.frequency < f.pulses * 1000 + f.blanking * 1000 * f.frequency ∨ listenWindow f ≤ tof) (s : State) :
    echoCrosses tof f s = s := by
  refine if_neg fun ⟨hblank, hwindow⟩ => ?_
  have hafter := of_decide_eq_true hblank
  omega

/-- A sounding that takes another content at the moment of `u`. -/
theorem setEngine_laterOf {s u : State} (h : LaterOf s u) (f : InFlight) : setEngine f u = u.withSnd { s.snd with engine := some f } := by
  rw [← h.snd]
  rfl

/-- An event that finishes a sounding in its phase, and is not to be discarded. -/
theorem finished_of_exec {c : Instr} {s u : State} {f : InFlight} {result : ReadingResult} {level : Option Nat} {fault : Option DriveFault}
    {nanos : Option Nat} (hexec : exec c s = .next (refreshAlarms (finish f result level fault nanos u))) (h : LaterOf s u)
    (hkeep : f.discard = false) : ∃ t, exec c s = .next t ∧ FinishedWith s u t f result level fault nanos :=
  ⟨_, hexec, finishedWith_finish h hkeep result level fault nanos⟩

/-- The same event of a sounding that is to be discarded. -/
theorem discarded_of_exec {c : Instr} {s u : State} {f : InFlight} {result : ReadingResult} {level : Option Nat} {fault : Option DriveFault}
    {nanos : Option Nat} (hexec : exec c s = .next (refreshAlarms (finish f result level fault nanos u))) (h : LaterOf s u)
    (hdiscard : f.discard = true) : ∃ t, exec c s = .next t ∧ DiscardEnded s u t f :=
  ⟨_, hexec, discardEnded_finish h hdiscard result level fault nanos⟩

/-- Settles O55: the phase decides first, then what the event brings, and a finish last by whether the sounding is to be discarded. -/
theorem burstsAndEchoesEndOrFinish : Obligations.BurstsAndEchoesEndOrFinish := by
  intro m s hrun a
  have harrive := laterOf_arrive m s
  refine ⟨fun hother => ⟨whileInOtherPhase hrun hother _, fun n => whileInOtherPhase hrun hother _⟩,
    fun hother => ⟨whileInOtherPhase hrun hother _, fun n => whileInOtherPhase hrun hother _⟩, fun f hf hp => ?bursting, fun f hf hp => ?listening⟩
  case bursting =>
    have hstuck : exec (.driveStuck m) s = .next (refreshAlarms (finish f .driveFault none (some .stuck) none a)) := whileInPhase hrun hf hp _
    have hend (n : Nat) : exec (.burstEnd m n) s = .next (refreshAlarms (burstEnds n f a)) := whileInPhase hrun hf hp _
    have hshort {n : Nat} (hn : n < f.pulses) :
        exec (.burstEnd m n) s = .next (refreshAlarms (finish f .driveFault none (some .short) none a)) := by
      rw [hend, burstEnds_short hn]
    refine ⟨fun n hn => ?_, fun hkeep => ⟨finished_of_exec hstuck harrive hkeep, fun n hn => finished_of_exec (hshort hn) harrive hkeep⟩,
      fun hdiscard => ⟨discarded_of_exec hstuck harrive hdiscard, fun n hn => discarded_of_exec (hshort hn) harrive hdiscard⟩⟩
    rw [hend, burstEnds_whole hn, setEngine_laterOf harrive]
  case listening =>
    intro window ended
    have hcross (tof : Nat) : exec (.echoCrossing m tof) s = .next (refreshAlarms (echoCrosses tof f (reachFast (f.burstStart + tof) a))) :=
      whileInPhase hrun hf hp _
    have hend : exec (.listenWindowEnd m) s = .next (refreshAlarms (finish f .lostEcho none none none ended)) := whileInPhase hrun hf hp _
    have hended : LaterOf s ended := laterOf_reachFast _ m s
    refine ⟨fun tof => ⟨fun hblank hwindow => ?_, fun hignored => ?_⟩, finished_of_exec hend hended, discarded_of_exec hend hended⟩
    · rw [hcross, echoCrosses_echo hblank hwindow, setEngine_laterOf (laterOf_reachFast _ m s)]
    · rw [hcross, echoCrosses_ignored hignored]

end Sys2Proof.Machine

/-! PROOF. The gate, its retries, and the takers of a level event (R29 to R31, R53). -/

namespace Sys2Proof.Machine

/-! ### The order of the takers (R53; log entry 7) -/

/-- A number names an order of the same members. -/
theorem permute_perm {α : Type} (n c : Nat) (l : List α) : (permute n c l).Perm l := by
  induction n generalizing c l with
  | zero => exact .refl l
  | succ n ih =>
    rw [permute]
    cases hx : l[c % l.length]? with
    | none => exact .refl l
    | some x =>
      obtain ⟨hlt, hget⟩ := List.getElem?_eq_some_iff.mp hx
      have hcons : (x :: l.eraseIdx (c % l.length)).Perm l := hget ▸ List.getElem_cons_eraseIdx_perm hlt
      exact ((ih _ _).cons x).trans hcons

/-- A level event is taken once by each taker, in the listed order while the schedule is empty. -/
theorem handLevelEvent_order (b : Fin 8) (ev : LevelEvent) (u : State) :
    ∃ l : List LevelTaker, l.Perm [.site, .spill, .drain, .planner] ∧ (u.free.schedule = [] → l = [.site, .spill, .drain, .planner])
      ∧ handLevelEvent b ev u = l.foldl (takeLevelEvent b ev) (dropChoice u) := by
  refine ⟨permute 4 (choice u) [.site, .spill, .drain, .planner], permute_perm _ _ _, fun h => ?_, rfl⟩
  rw [choice, h]
  rfl

/-- A change of quality is a loss for the spill accountant and the drain scheduler where the quality after it is one. -/
theorem takeLevelEvent_qualityChange (b : Fin 8) (before after : Quality) (value volume : Option Nat) (u : State) :
    takeLevelEvent b (.qualityChange before after value volume) u .spill = (if after.isLoss then spillLoss b u else u)
    ∧ takeLevelEvent b (.qualityChange before after value volume) u .drain = if after.isLoss then gaugeLoss b u else u := ⟨rfl, rfl⟩

theorem isLoss_iff (x : Quality) : x.isLoss = true ↔ x = .stale ∨ x = .float ∨ x = .none := by
  cases x <;> simp [Quality.isLoss]

/-! ### The gate (R29 to R31) -/

/-- The measured frequency lies within the tolerance of the gate (log entry 12). -/
def GatePasses (f : InFlight) (n : Nat) : Prop :=
  f.frequency * (100 - f.tolerance) * n ≤ 800000000 ∧ 800000000 ≤ f.frequency * (100 + f.tolerance) * n

theorem gatePasses_iff {f : InFlight} {n : Nat} : gatePasses f n f.tolerance = true ↔ GatePasses f n := by
  simp [gatePasses, GatePasses]

theorem gateCompletes_passes {f : InFlight} {n : Nat} (h : GatePasses f n) (s : State) : gateCompletes n f s = gatePassed f n s :=
  if_pos (gatePasses_iff.mpr h)

theorem gateCompletes_fails {f : InFlight} {n : Nat} (h : ¬ GatePasses f n) (s : State) : gateCompletes n f s = gateFailed f s :=
  if_neg (mt gatePasses_iff.mp h)

/-- A delay of the part lies in the range of its attempt (R31). -/
theorem backoffDelay_bounds (n attempt : Nat) :
    (backoffRange attempt).1 ≤ backoffDelay n attempt ∧ backoffDelay n attempt ≤ (backoffRange attempt).2 := by
  have hrange : (backoffRange attempt).1 ≤ (backoffRange attempt).2 := by
    unfold backoffRange
    split <;> decide
  have hmod : Config.backoffDelay n % ((backoffRange attempt).2 - (backoffRange attempt).1 + 1)
      < (backoffRange attempt).2 - (backoffRange attempt).1 + 1 := Nat.mod_lt _ (Nat.succ_pos _)
  unfold backoffDelay
  omega

/-- What a failed gate leaves of attempts 0 to 2: the entry is back in the queue, with a not-before time. -/
def gateRetried (f : InFlight) (delay : Nat) (s : State) : State :=
  engineIdle ((queueEntry { bay := f.bay, due := f.due, urgent := f.urgent, attempt := f.attempt + 1, notBefore := some (s.clock.fast + delay)
                            joined := f.joined } s).withFree { s.free with delays := s.free.delays + 1 })

theorem gateFailed_retries {f : InFlight} (hkeep : f.discard = false) (h : f.attempt < 3) (s : State) :
    gateFailed f s = gateRetried f (backoffDelay s.free.delays (f.attempt + 1)) s :=
  (if_neg (by simp [hkeep])).trans (if_pos h)

theorem gateFailed_last {f : InFlight} (hkeep : f.discard = false) (h : 3 ≤ f.attempt) (s : State) :
    gateFailed f s = finish f .interfered none none none s :=
  (if_neg (by simp [hkeep])).trans (if_neg (Nat.not_lt.mpr h))

theorem gateFailed_discarded {f : InFlight} (hdiscard : f.discard = true) (s : State) :
    gateFailed f s = finish f .interfered none none none s :=
  (if_pos hdiscard).trans (if_pos hdiscard).symm

/-- A passed gate finishes with the level of the time of flight (R29). -/
theorem gatePassed_good {f : InFlight} (h : 0 ≤ rawLevel f) (n : Nat) (s : State) :
    gatePassed f n s = finish f .good (some (rawLevel f).toNat) none (some n) s := if_pos h

/-- A passed gate finishes out of range where that level lies below 0 (R29). -/
theorem gatePassed_outOfRange {f : InFlight} (h : rawLevel f < 0) (n : Nat) (s : State) :
    gatePassed f n s = finish f .outOfRange none none (some n) s := if_neg (Int.not_le.mpr h)

/-- A sounding that is to be discarded ends the same with either result. -/
theorem gatePassed_discarded {f : InFlight} (hdiscard : f.discard = true) (n : Nat) (s : State) :
    gatePassed f n s = finish f .outOfRange none none (some n) s := by
  unfold gatePassed
  split
  · exact (if_pos hdiscard).trans (if_pos hdiscard).symm
  · rfl

/-- A GOOD finish of a bay without an acceptance time: the reading is the bay's level (R46). -/
theorem level_finish_first {f : InFlight} {u : State} (hkeep : f.discard = false) (hnone : (u.level f.bay).accepted = none) (level n : Nat) :
    ((finish f .good (some level) none (some n) u).level f.bay).value = some level
    ∧ ((finish f .good (some level) none (some n) u).level f.bay).quality = .good
    ∧ ((finish f .good (some level) none (some n) u).level f.bay).accepted = some u.now := by
  let r := makeReading u f .good (some level) none (some n)
  have hfinish : finish f .good (some level) none (some n) u
      = engineIdle (queueEntry (freshEntry f.bay (u.now + applicableInterval (readingTaken f r u) f.bay)) (readingTaken f r u)) :=
    (if_neg (by simp [hkeep])).trans (finishWith_eq (r := r) rfl u)
  have hlevel : (finish f .good (some level) none (some n) u).level f.bay = (readingTaken f r u).level f.bay := by
    rw [hfinish]
    exact congrArg (fun p => p.lvl.records.at_ f.bay) ((kept_engineIdle _).trans (kept_queueEntry _ _))
  obtain ⟨-, -, -, hlvl, -⟩ := channelTakes_fields r (withReading f.bay r u)
  have haccepted : ((channelTakes r (withReading f.bay r u)).level f.bay).accepted = none := by
    rw [State.level, hlvl]
    exact hnone
  have htaken : readingTaken f r u = acceptReading f.bay level u.now (channelTakes r (withReading f.bay r u)) :=
    levelCompletion_first haccepted level u.now _
  rw [hlevel, htaken]
  exact level_acceptReading f.bay level u.now _

/-- Settles O56: the takers are the four blocks in the order of a permutation; the gate decides between its level and interference, and the
attempt number what interference leads to. -/
theorem theGateDecides : Obligations.TheGateDecides := by
  refine ⟨fun b ev u => ⟨handLevelEvent_order b ev u, rfl, rfl, fun before value volume time previous hev => ?acceptance,
    fun before after value volume hev => ⟨fun hloss => ?loss, fun hkept => ?noLoss⟩⟩, fun m s f hrun hf hp => ?gate⟩
  case acceptance =>
    subst hev
    exact ⟨rfl, rfl⟩
  case loss =>
    subst hev
    obtain ⟨hspill, hdrain⟩ := takeLevelEvent_qualityChange b before after value volume u
    rw [hspill, hdrain, if_pos ((isLoss_iff after).mpr hloss), if_pos ((isLoss_iff after).mpr hloss)]
    exact ⟨rfl, rfl⟩
  case noLoss =>
    subst hev
    obtain ⟨hspill, hdrain⟩ := takeLevelEvent_qualityChange b before after value volume u
    have hnot : ¬ after.isLoss = true := by
      rw [isLoss_iff]
      rcases hkept with rfl | rfl <;> simp
    rw [hspill, hdrain, if_neg hnot, if_neg hnot]
    exact ⟨rfl, rfl⟩
  case gate =>
    intro a raw passes retried interferes
    have hlater : LaterOf s a := laterOf_arrive m s
    have hfree : a.free = s.free := by simp [a]
    have hcomplete (n : Nat) : exec (.soundingGateComplete m n) s = .next (refreshAlarms (gateCompletes n f a)) := whileInPhase hrun hf hp _
    have hinterferes (c : Instr) (hc : exec c s = .next (refreshAlarms (gateFailed f a))) : interferes c := by
      have hretried (hkeep : f.discard = false) (h : f.attempt < 3) :
          retried c (backoffRange (f.attempt + 1)).1 (backoffRange (f.attempt + 1)).2 := by
        obtain ⟨hlow, hhigh⟩ := backoffDelay_bounds a.free.delays (f.attempt + 1)
        refine ⟨_, hlow, hhigh, ?_⟩
        rw [hc, gateFailed_retries hkeep h, gateRetried, hfree]
      refine ⟨fun hdiscard => ?_, fun hkeep => ⟨fun h => ?_, fun h => ?_, fun h => ?_, fun h => ?_⟩⟩
      · exact discarded_of_exec (hc.trans (by rw [gateFailed_discarded hdiscard])) hlater hdiscard
      · simpa [h, backoffRange] using hretried hkeep (by omega)
      · simpa [h, backoffRange] using hretried hkeep (by omega)
      · simpa [h, backoffRange] using hretried hkeep (by omega)
      · exact finished_of_exec (hc.trans (by rw [gateFailed_last hkeep h])) hlater hkeep
    refine ⟨fun n hn => hinterferes _ ?_, hinterferes _ (whileInPhase hrun hf hp _), fun n hn => ⟨fun hdiscard => ?_, fun hkeep hraw => ?_,
      fun hkeep hraw => ?_⟩⟩
    · rw [hcomplete, gateCompletes_fails hn]
    · have hexec := hcomplete n
      rw [gateCompletes_passes hn, gatePassed_discarded hdiscard] at hexec
      exact discarded_of_exec hexec hlater hdiscard
    · have hexec := hcomplete n
      rw [gateCompletes_passes hn, gatePassed_outOfRange hraw] at hexec
      exact finished_of_exec hexec hlater hkeep
    · have hexec := hcomplete n
      rw [gateCompletes_passes hn, gatePassed_good hraw] at hexec
      refine ⟨_, hexec, finishedWith_finish hlater hkeep _ _ _ _, fun hnone => ?_⟩
      have hnone' : (a.level f.bay).accepted = none := by rwa [level_arrive]
      exact level_finish_first hkeep hnone' _ _

end Sys2Proof.Machine

/-! PROOF. The stage table of a bay (R55). -/

namespace Sys2Proof.Machine

/-- A point of a stage table as a point of an interpolation. -/
def stagePair (p : StagePoint) : Nat × Nat := (p.level, p.volume)

/-- A level up to the first point has that point's volume. -/
theorem volumeAt_upto_first {p : StagePoint} {x : Nat} (h : x ≤ p.level) (rest : List StagePoint) : volumeAt (p :: rest) x = p.volume :=
  if_pos h

/-- From its first point on the volume is read from the table. -/
theorem volumeAt_from_first {p : StagePoint} {rest : List StagePoint} {x : Nat} (h : (stagePair p :: rest.map stagePair).Pairwise PointBelow)
    (hx : p.level ≤ x) : volumeAt (p :: rest) x = interpolate p.level p.volume (rest.map stagePair) x := by
  rcases Nat.eq_or_lt_of_le hx with rfl | hlt
  · rw [volumeAt_upto_first (Nat.le_refl _), interpolate_start h]
  · exact if_neg (Nat.not_le.mpr hlt)

/-- No point of a rising table lies below the first one. -/
theorem first_level_le {p q : StagePoint} {rest : List StagePoint} (h : (stagePair p :: rest.map stagePair).Pairwise PointBelow)
    (hq : q ∈ p :: rest) : p.level ≤ q.level := by
  rcases List.mem_cons.mp hq with rfl | hmem
  · exact Nat.le_refl _
  · exact Nat.le_of_lt ((List.pairwise_cons.mp h).1 _ (List.mem_map_of_mem hmem)).1

/-- Settles O12: the volume is the first point's up to that point, and from there on the interpolation through the table. -/
theorem volumeFollowsTheStageTable : Obligations.VolumeFollowsTheStageTable := by
  intro stage hrise
  cases stage with
  | nil => exact ⟨by simp, by simp, by simp⟩
  | cons first rest =>
    have hpairs : (stagePair first :: rest.map stagePair).Pairwise PointBelow :=
      (List.pairwise_map (f := stagePair) (R := PointBelow)).mpr hrise
    refine ⟨fun p x hp hx => ?_, fun p x hp hx => ?_, fun front back p q x hsplit hp hq => ?_⟩
    · obtain rfl : first = p := by simpa using hp
      exact volumeAt_upto_first hx rest
    · have hlast : (stagePair first :: rest.map stagePair).getLast? = some (stagePair p) := by
        rw [← List.map_cons, List.getLast?_map, hp]; rfl
      rw [volumeAt_from_first hpairs ((first_level_le hpairs (List.mem_of_getLast? hp)).trans hx)]
      exact interpolate_from_last hpairs hlast hx
    · have hmem : p ∈ first :: rest := by simp [hsplit]
      have hsplit_pairs : stagePair first :: rest.map stagePair = front.map stagePair ++ stagePair p :: stagePair q :: back.map stagePair := by
        simpa using congrArg (List.map stagePair) hsplit
      rw [volumeAt_from_first hpairs ((first_level_le hpairs hmem).trans hp)]
      exact interpolate_of_mem hpairs hsplit_pairs hp hq

end Sys2Proof.Machine

/-! PROOF. The parameter groups that no other block follows: LEVEL, RAIN and ACTUATOR (R45, R73, R160). -/

namespace Sys2Proof.Machine

/-- SET_PARAMS of the LEVEL group is checked for the range of the stale limit (R45). -/
theorem handleParamsLevel_fields (n : Nat) (s : State) : handleParamsLevel (.fields n) s =
    if !zeroOrIn 2 15 n then refuse .refusedRange s else answerOk .empty (writeImage { s.image with staleLimit := orDefault 4 n } s) := by
  rw [handleParamsLevel, onFields_fields, unlessRefused_cons, unlessRefused_nil]

/-- SET_PARAMS of the RAIN group is checked for the range of the dry look-back (R73). -/
theorem handleParamsRain_fields (n : Nat) (s : State) : handleParamsRain (.fields n) s =
    if !zeroOrIn 1 72 n then refuse .refusedRange s else answerOk .empty (writeImage { s.image with dryLookback := orDefault 6 n } s) := by
  rw [handleParamsRain, onFields_fields, unlessRefused_cons, unlessRefused_nil]

/-- SET_PARAMS of the ACTUATOR group is checked for its ranges (R160). -/
theorem handleParamsActuator_fields (p : ActuatorParams) (s : State) : handleParamsActuator (.fields p) s =
    if !actuatorInRange p then refuse .refusedRange s
    else answerOk .empty (writeImage { s.image with actuator := actuatorStored p } s) := by
  rw [handleParamsActuator, onFields_fields, unlessRefused_cons, unlessRefused_nil]

theorem actuatorInRange_iff {p : ActuatorParams} : actuatorInRange p = true ↔
    (p.timeout = 0 ∨ 5 ≤ p.timeout ∧ p.timeout ≤ 200) ∧ p.retries ≤ 3 ∧ (p.nakBackoff = 0 ∨ 50 ≤ p.nakBackoff ∧ p.nakBackoff ≤ 2000)
      ∧ p.nakLimit ≤ 20 ∧ p.poll ≤ 30 := by
  simp only [actuatorInRange, Bool.and_eq_true, zeroOrIn_iff, inRange_iff]
  omega

/-- Settles O26: each group is refused by its range, and otherwise written and no more. -/
theorem plainParameterGroupsAreStored : Obligations.PlainParameterGroupsAreStored := by
  intro m q s hfree
  have himage : (arrive m s).image = s.image := by simp
  refine ⟨fun n hn => ?_, fun n hn => ?_, fun n hn => ?_, fun n hn => ?_, fun p hp => ?_, fun p hp => ?_⟩
  · have hin : zeroOrIn 2 15 n = true := zeroOrIn_iff.mpr hn
    refine hostRequest_ok (r := .setParamsLevel (.fields n)) hfree ?_ rfl rfl
    exact (handleParamsLevel_fields n _).trans (by rw [if_neg (by simp [hin]), himage]; rfl)
  · have hout : ¬ zeroOrIn 2 15 n = true := by
      rw [zeroOrIn_iff]
      omega
    refine hostRequest_refused (r := .setParamsLevel (.fields n)) hfree ?_ (by decide) (by decide)
    exact (handleParamsLevel_fields n _).trans (if_pos (by simp [hout]))
  · have hin : zeroOrIn 1 72 n = true := zeroOrIn_iff.mpr (by omega)
    refine hostRequest_ok (r := .setParamsRain (.fields n)) hfree ?_ rfl rfl
    exact (handleParamsRain_fields n _).trans (by rw [if_neg (by simp [hin]), himage]; rfl)
  · have hout : ¬ zeroOrIn 1 72 n = true := by
      rw [zeroOrIn_iff]
      omega
    refine hostRequest_refused (r := .setParamsRain (.fields n)) hfree ?_ (by decide) (by decide)
    exact (handleParamsRain_fields n _).trans (if_pos (by simp [hout]))
  · have hin : actuatorInRange p = true := actuatorInRange_iff.mpr hp
    refine hostRequest_ok (r := .setParamsActuator (.fields p)) hfree ?_ rfl rfl
    exact (handleParamsActuator_fields p _).trans (by rw [if_neg (by simp [hin]), himage]; rfl)
  · have hout : ¬ actuatorInRange p = true := by
      rw [actuatorInRange_iff]
      omega
    refine hostRequest_refused (r := .setParamsActuator (.fields p)) hfree ?_ (by decide) (by decide)
    exact (handleParamsActuator_fields p _).trans (if_pos (by simp [hout]))

end Sys2Proof.Machine

/-! PROOF. The reports on one bay, one outfall, one gauge or one device (R56, R76, R97, R112, R143, R174). -/

namespace Sys2Proof.Machine

/-! ### The outfall that a request names (R97) -/

/-- An index out of range names no outfall. -/
theorem onOutfall_outside {n : Nat} (h : 4 ≤ n) (s : State) (f : Fin 4 → Answer) : onOutfall n s f = refuse .refusedRange s := by
  simp [onOutfall, index?_of_le h]

theorem onOutfall_unconfigured {k : Fin 4} {s : State} (h : (s.outfall k).configured = false) (f : Fin 4 → Answer) :
    onOutfall k.val s f = refuse .refusedUnconfigured s := by
  simp [onOutfall, h]

theorem onOutfall_configured {k : Fin 4} {s : State} (h : (s.outfall k).configured = true) (f : Fin 4 → Answer) :
    onOutfall k.val s f = f k := by
  simp [onOutfall, h]

/-! ### The items of GET_OUTFALL (R97, R112) -/

/-- A configured outfall is in service where it has a reference bay (R10). -/
theorem inService_of_configured {s : State} {k : Fin 4} (h : (s.outfall k).configured = true) : inService s k = (refBay s k).isSome :=
  (congrArg (· && (refBay s k).isSome) h).trans (Bool.true_and _)

/-- The open spill is reported unless the outfall is QUIET. -/
theorem openReport_eq (s : State) (k : Fin 4) : openReport s k =
    if s.spillState k = .quiet then none else (openSpillOf s k).map fun o =>
      { id := openId s k, cls := o.cls, start := o.start, startStamp := stampOf s o.start, duration := s.now - o.start
        peak := o.peak, volume := o.volume, blocks := o.blocks, gap := o.gap, tail := tailReport s (s.spillState k) } := by
  unfold openReport notQuiet
  by_cases hquiet : s.spillState k = .quiet
  · simp [hquiet]
  · rw [if_pos (by simpa using hquiet), if_neg hquiet]
    cases openSpillOf s k <;> rfl

/-- A closed aggregate is reported with what keeps it in its slot, an open one with its running duration. -/
theorem aggregateReport_eq (s : State) (k : Fin 4) : aggregateReport s k = match s.ret.slots.at_ k with
    | none => .empty
    | some r => if r.openSpill.isSome = true then .opened (r.reported s.now)
        else .closed r (if s.ret.nextId = none then .exhausted else .room) := by
  unfold aggregateReport
  cases s.ret.slots.at_ k with
  | none => rfl
  | some r => simp only [SpillRecord.isOpen, Option.isNone_iff_eq_none]

/-! ### READ_RAIN_MINUTES (R76) -/

theorem handleReadRainMinutes_outside {n : Nat} (h : 4 ≤ n) (s : State) :
    handleReadRainMinutes (.fields n) s = refuse .refusedRange s := by
  simp [handleReadRainMinutes, index?_of_le h]

/-- A gauge that is enabled is reported with its minutes, and one that is not is refused. -/
theorem handleReadRainMinutes_gauge (g : Fin 4) (s : State) : handleReadRainMinutes (.fields g.val) s =
    if (s.image.gauges.at_ g).enabled then answerOk (.rainMinutes (s.rain.gauges.at_ g).history.reverse
      (s.image.gauges.at_ g).tipDepth (s.rain.gauges.at_ g).minuteStart) s
    else refuse .refusedUnconfigured s := by
  simp [handleReadRainMinutes]

/-! ### GET_DEVICE (R174) -/

theorem handleGetDevice_outside {n : Nat} (h : 16 ≤ n) (s : State) : handleGetDevice (.fields n) s = refuse .refusedRange s := by
  simp [handleGetDevice, index?_of_le h]

theorem handleGetDevice_device (d : Fin 16) (s : State) :
    handleGetDevice (.fields d.val) s = answerOk (.device (deviceReport s d)) s := by
  simp [handleGetDevice]

/-- Every command but QUERY is a drive command (R157). -/
theorem isDrive_eq (c : LineCommand) : c.isDrive = (c != .query) := by cases c <;> rfl

theorem not_isDrive_eq (c : LineCommand) : (!c.isDrive) = (c == .query) := by cases c <;> rfl

/-- The waiting entries of a device, told by its commands. -/
theorem waitingDrive_eq (s : State) (d : Fin 16) :
    waitingDrive s d = s.act.queue.find? fun e => e.device == d && e.command != .query :=
  congrArg (List.find? · s.act.queue) (funext fun e => congrArg (e.device == d && ·) (isDrive_eq e.command))

theorem waitingQuery_eq (s : State) (d : Fin 16) :
    waitingQuery s d = s.act.queue.find? fun e => e.device == d && e.command == .query :=
  congrArg (List.find? · s.act.queue) (funext fun e => congrArg (e.device == d && ·) (not_isDrive_eq e.command))

/-! ### The reports -/

/-- Settles O21: each request is refused for its index, or for what is not there, and answered otherwise with the items of its rule. -/
theorem indexedReportsChangeNothing : Obligations.IndexedReportsChangeNothing := by
  intro m q s hfree a
  have hgauges : a.image.gauges = s.image.gauges := by simp [a]
  have hrain : a.rain = s.rain := by simp [a]
  refine ⟨fun n hn => ?bayRange, fun b hb => ?bayDisabled, fun b hb => ?bay, fun n hn => ?outfallRange, fun k hk => ?outfallUnconfigured,
    fun k hk => ?outfall, fun n hn => ?gaugeRange, fun g hg => ?gaugeDisabled, fun g hg => ?gauge, fun n hn => ?deviceRange,
    fun d => ?device⟩
  case bayRange => exact hostRequest_refused (r := .getBay (.fields n)) hfree (onBay_outside hn a _) (by decide) (by decide)
  case bayDisabled =>
    have hdisabled : (a.bay b).enabled = false := by rwa [bay_arrive]
    exact hostRequest_refused (r := .getBay (.fields b.val)) hfree (onBay_disabled hdisabled _) (by decide) (by decide)
  case bay =>
    have henabled : (a.bay b).enabled = true := by rwa [bay_arrive]
    exact hostRequest_ok (r := .getBay (.fields b.val)) hfree (onBay_enabled henabled _) rfl rfl
  case outfallRange => exact hostRequest_refused (r := .getOutfall (.fields n)) hfree (onOutfall_outside hn a _) (by decide) (by decide)
  case outfallUnconfigured =>
    have hnot : (a.outfall k).configured = false := by rwa [outfall_arrive]
    exact hostRequest_refused (r := .getOutfall (.fields k.val)) hfree (onOutfall_unconfigured hnot _) (by decide) (by decide)
  case outfall =>
    have hconfigured : (a.outfall k).configured = true := by rwa [outfall_arrive]
    refine hostRequest_ok (r := .getOutfall (.fields k.val)) hfree ((onOutfall_configured hconfigured _).trans ?_) rfl rfl
    refine congrArg (fun report => answerOk (.outfall report) a) ?_
    rw [outfallReport, inService_of_configured hconfigured, openReport_eq, aggregateReport_eq]
    rfl
  case gaugeRange =>
    exact hostRequest_refused (r := .readRainMinutes (.fields n)) hfree (handleReadRainMinutes_outside hn a) (by decide) (by decide)
  case gaugeDisabled =>
    have hnot : ¬ (a.image.gauges.at_ g).enabled = true := by simp [hgauges, hg]
    exact hostRequest_refused (r := .readRainMinutes (.fields g.val)) hfree ((handleReadRainMinutes_gauge g a).trans (if_neg hnot)) (by decide)
      (by decide)
  case gauge =>
    have henabled : (a.image.gauges.at_ g).enabled = true := by rwa [hgauges]
    rw [← hgauges, ← hrain]
    exact hostRequest_ok (r := .readRainMinutes (.fields g.val)) hfree ((handleReadRainMinutes_gauge g a).trans (if_pos henabled)) rfl rfl
  case deviceRange =>
    exact hostRequest_refused (r := .getDevice (.fields n)) hfree (handleGetDevice_outside hn a) (by decide) (by decide)
  case device =>
    rw [← waitingDrive_eq, ← waitingQuery_eq]
    exact hostRequest_ok (r := .getDevice (.fields d.val)) hfree (handleGetDevice_device d a) rfl rfl

end Sys2Proof.Machine

/-! PROOF. The level filter (R46 to R49, R51, R53). -/

namespace Sys2Proof.Machine

/-! ### The record of the bay -/

/-- The test of disagreement changes the disagreement mark of the record alone (R52). -/
theorem testDisagreement_marks (b : Fin 8) (s : State) :
    ∃ d, (testDisagreement b s).level b = { s.level b with disagreed := d } := by
  unfold testDisagreement
  split
  · exact ⟨true, by rw [level_post, State.level_setLevel, if_pos rfl]⟩
  · exact ⟨(s.level b).disagreed, rfl⟩

/-- A change of quality that is handed on leaves every level. -/
theorem lvl_handQualityChange (b : Fin 8) (before : Quality) (s : State) : (handQualityChange b before s).lvl = s.lvl := by
  unfold handQualityChange
  split
  · rfl
  · exact congrArg Spared.lvl (spared_handLevelEvent b _ s)

/-- A completion without an acceptance leaves the record it is given, but for the disagreement mark. -/
theorem withoutAcceptance_marks (b : Fin 8) (r : LevelRecord) (s : State) :
    ∃ d, (withoutAcceptance b r s).level b = { r with disagreed := d } := by
  have hset : (s.setLevel b r).level b = r := by simp
  unfold withoutAcceptance
  dsimp only
  rw [State.level, lvl_handQualityChange]
  split
  · obtain ⟨d, hd⟩ := testDisagreement_marks b (s.setLevel b r)
    rw [hset] at hd
    exact ⟨d, hd⟩
  · exact ⟨r.disagreed, hset⟩

/-- An accepted reading is the whole record of the bay, but for the disagreement mark (R44). -/
theorem acceptReading_marks (b : Fin 8) (level time : Nat) (s : State) :
    ∃ d, (acceptReading b level time s).level b = { (s.level b).accept level time with disagreed := d } := by
  obtain ⟨d, hd⟩ := testDisagreement_marks b (s.setLevel b ((s.level b).accept level time))
  rw [State.level_setLevel, if_pos rfl] at hd
  exact ⟨d, (level_handLevelEvent b b _ _).trans hd⟩

/-- An acceptance is handed on after the test of disagreement, with the volume of the bay's stage table (R53; log entry 40). -/
theorem acceptReading_eq (b : Fin 8) (level time : Nat) (s : State) : acceptReading b level time s =
    handLevelEvent b (.acceptance (s.level b).quality level (volumeAt (s.bay b).stage level) time (s.level b).accepted)
      (testDisagreement b (s.setLevel b ((s.level b).accept level time))) := by
  have hbay : (testDisagreement b (s.setLevel b ((s.level b).accept level time))).bay b = s.bay b :=
    congrArg (·.bays.at_ b) (onlyLevel_testDisagreement b _).image
  unfold acceptReading
  dsimp only
  rw [hbay]

/-! ### Misses (R48, R49, R51) -/

/-- The limit of misses is reached, or the channel has just failed (R48, R49). -/
def MissLimit (s : State) (failed : Bool) (r : LevelRecord) : Prop := failed = true ∨ s.image.staleLimit ≤ min 255 (r.misses + 1)

/-- The record with one miss more, which holds at 255 (R48). -/
def LevelRecord.counted (r : LevelRecord) : LevelRecord := { r with misses := min 255 (r.misses + 1) }

/-- Below the limit a miss is counted, and no more. -/
theorem missed_below {s : State} {failed : Bool} {r : LevelRecord} (h : ¬ MissLimit s failed r) (b : Fin 8) :
    missed s b failed r = r.counted :=
  if_neg (by simpa [MissLimit, addHeld] using h)

/-- At the limit the record with the miss counted goes stale. -/
theorem missed_at_limit {s : State} {failed : Bool} {r : LevelRecord} (h : MissLimit s failed r) (b : Fin 8) :
    missed s b failed r = goStale s b r.counted :=
  if_pos (by simpa [MissLimit, addHeld] using h)

/-- A record that is neither GOOD nor HELD does not go stale. -/
theorem goStale_other {r : LevelRecord} (h : r.quality ≠ .good ∧ r.quality ≠ .held) (s : State) (b : Fin 8) : goStale s b r = r := by
  obtain ⟨hgood, hheld⟩ := h
  unfold goStale
  cases hq : r.quality <;> simp_all

/-- A GOOD or HELD record takes the float height where the float is active, and becomes STALE otherwise. -/
theorem goStale_live {r : LevelRecord} (h : r.quality = .good ∨ r.quality = .held) (s : State) (b : Fin 8) : goStale s b r =
    if s.lvl.floats.at_ b = .active then { r with quality := .float, value := some (s.bay b).floatHeight }
    else { r with quality := .stale } := by
  unfold goStale
  rcases h with h | h <;> rw [h]

/-- What a completion without an acceptance leaves of a record `r`, in the words of R48, R49 and R51. -/
structure MissedTo (s : State) (b : Fin 8) (failed : Bool) (r x : LevelRecord) : Prop where
  accepted : x.accepted = r.accepted
  misses : x.misses = min 255 (r.misses + 1)
  candidate : x.candidate = r.candidate
  kept : ¬ MissLimit s failed r ∨ (r.quality ≠ .good ∧ r.quality ≠ .held) → x.quality = r.quality ∧ x.value = r.value
  float : MissLimit s failed r → r.quality = .good ∨ r.quality = .held → s.lvl.floats.at_ b = .active →
    x.quality = .float ∧ x.value = some (s.bay b).floatHeight
  stale : MissLimit s failed r → r.quality = .good ∨ r.quality = .held → ¬ s.lvl.floats.at_ b = .active →
    x.quality = .stale ∧ x.value = r.value

theorem missedTo_missed (s : State) (b : Fin 8) (failed : Bool) (r : LevelRecord) : MissedTo s b failed r (missed s b failed r) := by
  by_cases hlimit : MissLimit s failed r
  · rw [missed_at_limit hlimit]
    by_cases hlive : r.quality = .good ∨ r.quality = .held
    · rw [goStale_live (r := r.counted) hlive]
      by_cases hfloat : s.lvl.floats.at_ b = .active
      · rw [if_pos hfloat]
        exact ⟨rfl, rfl, rfl, by tauto, fun _ _ _ => ⟨rfl, rfl⟩, fun _ _ hnot => absurd hfloat hnot⟩
      · rw [if_neg hfloat]
        exact ⟨rfl, rfl, rfl, by tauto, fun _ _ h => absurd h hfloat, fun _ _ _ => ⟨rfl, rfl⟩⟩
    · rw [goStale_other (r := r.counted) (not_or.mp hlive)]
      exact ⟨rfl, rfl, rfl, fun _ => ⟨rfl, rfl⟩, fun _ h => absurd h hlive, fun _ h => absurd h hlive⟩
  · rw [missed_below hlimit]
    exact ⟨rfl, rfl, rfl, fun _ => ⟨rfl, rfl⟩, fun h => absurd h hlimit, fun h => absurd h hlimit⟩

/-- The disagreement mark does not matter. -/
theorem MissedTo.marked {s : State} {b : Fin 8} {failed : Bool} {r x : LevelRecord} (h : MissedTo s b failed r x) (d : Bool) :
    MissedTo s b failed r { x with disagreed := d } :=
  ⟨h.accepted, h.misses, h.candidate, h.kept, h.float, h.stale⟩

/-- A completion without an acceptance misses on the record that it finds, or that has taken the reading as its candidate. -/
theorem missedTo_withoutAcceptance (b : Fin 8) (failed : Bool) (r : LevelRecord) (s : State) :
    MissedTo s b failed r ((withoutAcceptance b (missed s b failed r) s).level b) := by
  obtain ⟨d, hd⟩ := withoutAcceptance_marks b (missed s b failed r) s
  rw [hd]
  exact (missedTo_missed s b failed r).marked d

/-! ### Acceptance (R46) -/

/-- The distance of two levels is that of two numbers with a sign. -/
theorem levelGap_eq (x h : Nat) : levelGap x h = ((x : Int) - (h : Int)).natAbs := by
  unfold levelGap
  omega

/-- A reading lies within slew of a level that was taken before. -/
def WithinSlew (s : State) (b : Fin 8) (time level held heldTime : Nat) : Prop :=
  ((level : Int) - (held : Int)).natAbs ≤ (s.bay b).slew * (time - heldTime) + 20

theorem withinSlew_iff {s : State} {b : Fin 8} {level time held heldTime : Nat} :
    withinSlew s b level time held heldTime = true ↔ WithinSlew s b time level held heldTime := by
  simp [withinSlew, WithinSlew, levelGap_eq, Config.slewSlack]

/-- A reading is accepted within slew of the value, or of the candidate (R46). -/
theorem accepts_iff {s : State} {b : Fin 8} {r : LevelRecord} {v h0 : Nat} (hr : r.accepted = some h0) (hv : r.value = some v)
    (level time : Nat) : accepts s b r level time = true ↔
      WithinSlew s b time level v h0 ∨ ∃ c, r.candidate = some c ∧ WithinSlew s b time level c.level c.time := by
  cases hc : r.candidate <;> simp [accepts, hr, hv, hc, withinSlew_iff]

theorem levelCompletion_accepts {s : State} {b : Fin 8} {level time : Nat} (h : accepts s b (s.level b) level time = true) (failed : Bool) :
    levelCompletion b (some level) time failed s = acceptReading b level time s := if_pos h

theorem levelCompletion_holds {s : State} {b : Fin 8} {level time : Nat} (h : ¬ accepts s b (s.level b) level time = true) (failed : Bool) :
    levelCompletion b (some level) time failed s
      = withoutAcceptance b (missed s b failed ((s.level b).hold level time)) s := if_neg h

/-- Settles O57: a completion is an acceptance where the reading is within slew, and otherwise a miss on the record, which takes a reading
beyond slew as its candidate. -/
theorem levelFilterAcceptsWithinSlew : Obligations.LevelFilterAcceptsWithinSlew := by
  intro b time failed s r within misses limit floats missedAs
  have hmissed {r' x : LevelRecord} (ha : r'.accepted = r.accepted) (hm : r'.misses = r.misses) (hv : r'.value = r.value)
      (h : MissedTo s b failed r' x) : missedAs r'.quality x := by
    have hlimit : MissLimit s failed r' ↔ limit := by rw [MissLimit, hm]
    refine ⟨h.accepted.trans ha, h.misses.trans (by rw [hm]), fun hkept => ?_, fun hl hlive => ⟨fun hf => ?_, fun hf => ?_⟩⟩
    · rw [← hlimit] at hkept
      rw [← hv]
      exact h.kept hkept
    · exact h.float (hlimit.mpr hl) hlive hf
    · rw [← hv]
      exact h.stale (hlimit.mpr hl) hlive hf
  refine ⟨fun reading c hc => (onlyLevel_levelCompletion b reading time failed s).others c hc, ?none, fun level => ?reading⟩
  case none =>
    have h := missedTo_withoutAcceptance b failed r s
    exact ⟨hmissed rfl rfl rfl h, h.candidate⟩
  case reading =>
    intro t taken
    have htaken (h : levelCompletion b (some level) time failed s = acceptReading b level time s) : taken := by
      have ht : t = (acceptReading b level time s).level b := congrArg (·.level b) h
      obtain ⟨d, hd⟩ := acceptReading_marks b level time s
      rw [← ht] at hd
      refine ⟨?_, ?_, ?_, ?_, ?_, h.trans (acceptReading_eq b level time s)⟩
      all_goals
        rw [hd]
        rfl
    refine ⟨fun hnone => htaken (levelCompletion_first hnone level time failed), fun v h0 hr hv => ?_⟩
    have haccepts := accepts_iff (s := s) (b := b) hr hv level time
    refine ⟨fun hwithin => ?_, fun c hc hwithin => ?_, fun hbeyond hcandidate => ?_⟩
    · exact htaken (levelCompletion_accepts (haccepts.mpr (.inl hwithin)) failed)
    · exact htaken (levelCompletion_accepts (haccepts.mpr (.inr ⟨c, hc, hwithin⟩)) failed)
    · have hnot : ¬ accepts s b (s.level b) level time = true := by
        rw [haccepts]
        rintro (hwithin | ⟨c, hc, hwithin⟩)
        · exact hbeyond hwithin
        · exact hcandidate c hc hwithin
      have h := missedTo_withoutAcceptance b failed (r.hold level time) s
      have ht : t = (withoutAcceptance b (missed s b failed (r.hold level time)) s).level b :=
        congrArg (·.level b) (levelCompletion_holds hnot failed)
      rw [← ht] at h
      exact ⟨h.candidate, hmissed (r' := r.hold level time) rfl rfl rfl h⟩

end Sys2Proof.Machine

/-! PROOF. Edges of the floats (R50, R51, R179). -/

namespace Sys2Proof.Machine

/-! ### An edge (R179) -/

/-- An input that takes its raw level changes the terminals alone. -/
theorem laterOf_takeRawLevel (t : Fin 12) (m : Moment) (s : State) : LaterOf s (takeRawLevel t (arrive m s)) :=
  let h := laterOf_arrive m s
  ⟨h.image, h.snd, h.lvl, h.rain, h.spill, h.drn, h.act⟩

theorem LaterOf.bay {s u : State} (h : LaterOf s u) (b : Fin 8) : u.bay b = s.bay b := congrArg (·.bays.at_ b) h.image
theorem LaterOf.level {s u : State} (h : LaterOf s u) (b : Fin 8) : u.level b = s.level b := congrArg (·.records.at_ b) h.lvl
theorem LaterOf.order {s u : State} (h : LaterOf s u) (b : Fin 8) : u.order b = s.order b := congrArg (·.orders.at_ b) h.drn

/-- A changed debounced level is an edge, which the owner of the terminal's function takes (R179). -/
theorem debounced_edge {t : Fin 12} {s : State} {f : TerminalFunction} (hf : (s.image.terminals.at_ t).function = f)
    (halarm : ∀ l, f ≠ .alarm l) (hpin : s.term.pins.getLsbD t.val ≠ s.term.debounced.getLsbD t.val) :
    debounced t s = takeEdge f (inputActive (takeRawLevel t s) t) (takeRawLevel t s) := by
  unfold debounced
  rw [hf]
  cases f with
  | alarm l => exact absurd rfl (halarm l)
  | unused => exact if_neg hpin
  | float b => exact if_neg hpin
  | gauge g => exact if_neg hpin
  | worksStop => exact if_neg hpin

/-- DEBOUNCE_COMPLETE with an edge of an input. -/
theorem execDebounce_edge {m : Moment} {s : State} {t : Fin 12} {f : TerminalFunction} {active : Bool} (hrun : s.run = .running)
    (hpin : m.pins.getLsbD t.val ≠ s.term.debounced.getLsbD t.val) (hf : (s.image.terminals.at_ t).function = f)
    (halarm : ∀ l, f ≠ .alarm l) (hactive : inputActive (takeRawLevel t (arrive m s)) t = active) :
    exec (.debounceComplete m t) s = .next (refreshAlarms (takeEdge f active (takeRawLevel t (arrive m s)))) := by
  have hterm : (arrive m s).term = { s.term with pins := m.pins } := by simp
  have hfunction : ((arrive m s).image.terminals.at_ t).function = f := by rwa [(laterOf_arrive m s).image]
  have hedge := debounced_edge hfunction halarm (by simpa only [hterm] using hpin)
  rw [hactive] at hedge
  rw [← hedge]
  exact whileRunning_running m (debounced t) s hrun

/-! ### The floats (R50, R51) -/

theorem floats_testDisagreement (b : Fin 8) (s : State) : (testDisagreement b s).lvl.floats = s.lvl.floats := by
  unfold testDisagreement
  split <;> rfl

/-- The record of a bay whose float has become active, but for the disagreement mark: from STALE and NONE it takes FLOAT (R51). -/
def floated (s : State) (b : Fin 8) : LevelRecord :=
  if (s.level b).quality = .stale ∨ (s.level b).quality = .none then
    { s.level b with quality := .float, value := some (s.bay b).floatHeight }
  else s.level b

/-- An activation of the float of an enabled bay leaves the float active and the bay's record floated, and no other record changed. -/
theorem floatActivated_lvl {b : Fin 8} {s : State} (henabled : (s.bay b).enabled = true) :
    (floatActivated b s).lvl.floats = s.lvl.floats.put b .active ∧ (∀ c, c ≠ b → (floatActivated b s).level c = s.level c)
      ∧ ∃ d, (floatActivated b s).level b = { floated s b with disagreed := d } := by
  let s1 := s.setFloat b .active
  let r := floatRule s1 b { s1.level b with disagreed := false }
  have heq : floatActivated b s = handQualityChange b (s.level b).quality (testDisagreement b (s1.setLevel b r)) := if_pos henabled
  have hlvl : (floatActivated b s).lvl = (testDisagreement b (s1.setLevel b r)).lvl := by rw [heq, lvl_handQualityChange]
  have hrecord : r = { floated s b with disagreed := false } := by
    have hactive : s1.lvl.floats.at_ b = .active := by simp [s1, State.setFloat]
    change (if s1.lvl.floats.at_ b = .active ∧ ((s.level b).quality = .stale ∨ (s.level b).quality = .none) then _ else _) = _
    rw [hactive, floated]
    by_cases hlost : (s.level b).quality = .stale ∨ (s.level b).quality = .none
    · rw [if_pos ⟨rfl, hlost⟩, if_pos hlost]
      rfl
    · rw [if_neg (fun h => hlost h.2), if_neg hlost]
      rfl
  refine ⟨(congrArg Levels.floats hlvl).trans (floats_testDisagreement b _), fun c hc => ?_, ?_⟩
  · calc (floatActivated b s).level c = (testDisagreement b (s1.setLevel b r)).level c := congrArg (·.records.at_ c) hlvl
      _ = (s1.setLevel b r).level c := (onlyLevel_testDisagreement b _).others c hc
      _ = s.level c := (onlyLevel_setLevel b r s1).others c hc
  · obtain ⟨d, hd⟩ := testDisagreement_marks b (s1.setLevel b r)
    rw [State.level_setLevel, if_pos rfl] at hd
    have hmarked : { r with disagreed := d } = { floated s b with disagreed := d } :=
      congrArg (fun x : LevelRecord => { x with disagreed := d }) hrecord
    exact ⟨d, (congrArg (·.records.at_ b) hlvl).trans (hd.trans hmarked)⟩

/-- A release of the float of an enabled bay leaves the float released and a FLOAT record STALE, and no other record changed. -/
theorem floatReleased_lvl {b : Fin 8} {s : State} (henabled : (s.bay b).enabled = true) (after : FloatState) :
    (floatReleased b after s).lvl.floats = s.lvl.floats.put b after ∧ (∀ c, c ≠ b → (floatReleased b after s).level c = s.level c)
      ∧ (floatReleased b after s).level b
        = { s.level b with quality := if (s.level b).quality = .float then .stale else (s.level b).quality } := by
  by_cases hfloat : (s.level b).quality = .float
  · have heq : floatReleased b after s
        = handQualityChange b .float ((s.setFloat b after).setLevel b { s.level b with quality := .stale }) := if_pos ⟨henabled, hfloat⟩
    have hlvl := (congrArg State.lvl heq).trans (lvl_handQualityChange b _ _)
    refine ⟨congrArg Levels.floats hlvl, fun c hc => ?_, ?_⟩
    · exact (congrArg (·.records.at_ c) hlvl).trans ((onlyLevel_setLevel b _ (s.setFloat b after)).others c hc)
    · refine (congrArg (·.records.at_ b) hlvl).trans ?_
      rw [if_pos hfloat]
      exact (State.level_setLevel ..).trans (if_pos rfl)
  · have heq : floatReleased b after s = s.setFloat b after := if_neg (fun h => hfloat h.2)
    rw [heq, if_neg hfloat]
    exact ⟨rfl, fun _ _ => rfl, rfl⟩

end Sys2Proof.Machine

/-! PROOF. Works-stop is asserted (R133, R134, R136, R180). -/

namespace Sys2Proof.Machine

/-! ### What a drive command that is put does to the orders and the queue (R142, R162) -/

/-- An order that waits for the outcome of its RESHUT has learned that the RESET is superseded: it waits no longer (R142). -/
def ReshutEnds (x y : Option Order) : Prop := ∃ o, x = some o ∧ o.state = .suspect ∧ y = some { o with reshut := false }

/-- A RESHUT that fails is told to its bay's order alone. -/
theorem order_reshutFailed {s : State} {b : Fin 8} {o : Order} (ho : s.order b = some o) (f : Failure) (c : Fin 8) :
    (reshutFailed b f s).order c = if b = c then some { o with reshut := false } else s.order c := by
  unfold reshutFailed
  rw [ho]
  exact State.order_setOrder s b c _

/-- Of the orders, only the originator's, where it waits for its RESHUT, is changed by what it is told. -/
theorem order_tellSuperseded (orig : Originator) (k : LineCommand) (s : State) (c : Fin 8) :
    (tellSuperseded orig k s).order c = s.order c
      ∨ orig = .order c ∧ ReshutEnds (s.order c) ((tellSuperseded orig k s).order c) := by
  cases orig with
  | sweep => exact .inl rfl
  | host => exact .inl rfl
  | watch => exact .inl rfl
  | order b =>
    cases ho : s.order b with
    | none => exact .inl (by simp only [tellSuperseded, ho])
    | some o =>
      simp only [tellSuperseded, ho]
      split
      · rename_i hwaits
        rw [order_reshutFailed ho]
        by_cases hbc : b = c
        · subst hbc
          exact .inr ⟨rfl, o, ho, hwaits.1, if_pos rfl⟩
        · exact .inl (if_neg hbc)
      · exact .inl rfl

theorem order_supersede (w : LineEntry) (s : State) (c : Fin 8) : (supersede w s).order c = s.order c
    ∨ w.orig = .order c ∧ ReshutEnds (s.order c) ((supersede w s).order c) := by
  have hsame : (supersede w s).order c = (tellSuperseded w.orig w.command s).order c := by
    unfold supersede
    dsimp only
    split <;> rfl
  rw [hsame]
  exact order_tellSuperseded w.orig w.command s c

@[simp] theorem order_lineTake (s : State) (c : Fin 8) : (lineTake s).order c = s.order c := by
  unfold lineTake
  split <;> rfl

/-- A drive command that is put ends the RESHUT of the order whose RESET it supersedes, and changes no other order. -/
theorem order_putForOrder (b : Fin 8) (k : LineCommand) (s : State) (c : Fin 8) : (putForOrder b k s).order c = s.order c
    ∨ (∃ w ∈ s.act.queue, w.orig = .order c ∧ (s.bay b).device = some w.device)
      ∧ ReshutEnds (s.order c) ((putForOrder b k s).order c) := by
  unfold putForOrder
  cases hd : (s.bay b).device with
  | none => exact .inl rfl
  | some d =>
    dsimp only
    unfold putDrive
    cases hw : waitingDrive s d with
    | none =>
      left
      dsimp only
      rw [order_lineTake]
      rfl
    | some w =>
      dsimp only
      rw [order_lineTake, State.order_withAct]
      obtain ⟨hmem, hdevice, -⟩ := waitingDrive_mem hw
      refine (order_supersede w (s.withAct { s.act with queue := s.act.queue.erase w }) c).imp_right fun ⟨horig, hends⟩ => ?_
      exact ⟨⟨w, hmem, horig, by rw [hdevice]⟩, hends⟩

theorem mem_lineTake {s : State} {e : LineEntry} (h : e ∈ (lineTake s).act.queue) : e ∈ s.act.queue := by
  unfold lineTake at h
  split at h
  · exact List.mem_of_mem_erase h
  · exact h

/-- The queue holds no new entry but that of the command that is put. -/
theorem mem_putForOrder {b : Fin 8} {k : LineCommand} {s : State} {e : LineEntry} (h : e ∈ (putForOrder b k s).act.queue) :
    e.orig = .order b ∨ e ∈ s.act.queue := by
  unfold putForOrder at h
  split at h
  · unfold putDrive at h
    split at h
    · rcases mem_joinLine (mem_lineTake h) with rfl | hmem
      · exact .inl rfl
      · exact .inr hmem
    · rcases mem_joinLine (mem_lineTake h) with rfl | hmem
      · exact .inl rfl
      · rw [supersede_queue] at hmem
        exact .inr (List.mem_of_mem_erase hmem)
  · exact .inr h

/-! ### Grants and counters -/

/-- The grants, the credit counters and the credits-wanted flag. -/
def purse (s : State) : List Grant × CreditCounters × Bool := (s.drn.grants, s.drn.counters, s.drn.armed)

theorem purse_reshutFailed (b : Fin 8) (f : Failure) (s : State) : purse (reshutFailed b f s) = purse s := by
  unfold reshutFailed
  split <;> rfl

theorem purse_tellSuperseded (orig : Originator) (k : LineCommand) (s : State) : purse (tellSuperseded orig k s) = purse s := by
  unfold tellSuperseded
  split
  · split
    · split
      · exact purse_reshutFailed ..
      · rfl
    · rfl
  all_goals rfl

theorem purse_supersede (w : LineEntry) (s : State) : purse (supersede w s) = purse s := by
  unfold supersede
  dsimp only
  split
  · exact purse_tellSuperseded w.orig w.command s
  · exact purse_tellSuperseded w.orig w.command s

theorem purse_lineTake (s : State) : purse (lineTake s) = purse s := by
  unfold lineTake
  split <;> rfl

/-- A command that is put costs no credit. -/
theorem purse_putForOrder (b : Fin 8) (k : LineCommand) (s : State) : purse (putForOrder b k s) = purse s := by
  unfold putForOrder
  split
  · unfold putDrive
    split
    · exact purse_lineTake _
    · exact (purse_lineTake _).trans (purse_supersede _ _)
  · rfl

/-! ### A bay under works-stop (R133, R134, R136) -/

/-- An order that opens or runs: works-stop overtakes it. -/
def Order.drains (o : Order) : Bool := o.state == .opening || o.state == .running

theorem drains_iff {o : Order} : o.drains = true ↔ o.state = .opening ∨ o.state = .running := by
  simp [Order.drains]

/-- What works-stop makes of an order that has its hold cause: one that drains closes, without its credit (R133, R134; log entry 67). -/
def Order.worksStopped (o : Order) : Order :=
  if o.drains then
    { o with
      state := .closing, closing := some .worksStop, credit := false, lot := none
      total := match o.lot with
        | some l => if o.credit then min 4294967295 (o.total + l.drained.toNat) else o.total
        | none => o.total }
  else o

theorem worksStopped_suspect {o : Order} (h : o.state = .suspect) : o.worksStopped = o := if_neg (by simp [Order.drains, h])

/-- Works-stop reaches a bay. -/
theorem worksStopBay_drains {s : State} {b : Fin 8} {o : Order} (ho : s.order b = some o) (h : o.drains = true) :
    worksStopBay s b = overtaken b o o.holds .worksStop o.failure s := by
  rw [← overtake_eq_overtaken ho]
  rcases drains_iff.mp h with h | h <;> simp only [worksStopBay, ho, h]

theorem worksStopBay_waits {s : State} {b : Fin 8} (h : ∀ o, s.order b = some o → o.drains = false) : worksStopBay s b = s := by
  unfold worksStopBay
  cases ho : s.order b with
  | none => rfl
  | some o =>
    have hnot := h o ho
    cases hstate : o.state <;> simp_all [Order.drains]

/-- A bay has an order that drains, or none. -/
theorem drains_cases (s : State) (b : Fin 8) :
    (∃ o, s.order b = some o ∧ o.drains = true) ∨ ∀ o, s.order b = some o → o.drains = false := by
  cases ho : s.order b with
  | none => exact .inr (by simp)
  | some o => cases hd : o.drains <;> simp [hd]

theorem order_leftRunning (b : Fin 8) (o : Order) (s : State) (c : Fin 8) : (leftRunning b o s).order c = s.order c := by
  have hdrn : (leftRunning b o s).drn = s.drn := by
    unfold leftRunning
    split
    · exact drn_intervalChanged b s
    · rfl
  exact congrArg (·.orders.at_ c) hdrn

theorem purse_leftRunning (b : Fin 8) (o : Order) (s : State) : purse (leftRunning b o s) = purse s := by
  unfold leftRunning
  split
  · unfold purse
    rw [drn_intervalChanged]
  · rfl

theorem act_leftRunning (b : Fin 8) (o : Order) (s : State) : (leftRunning b o s).act = s.act := by
  unfold leftRunning
  split
  · exact act_intervalChanged b s
  · rfl

/-- The state in which the bay's order has been closed by works-stop, before RELEASE is put. -/
def forfeitedAt (b : Fin 8) (o : Order) (s : State) : State :=
  creditForfeited b o { o with holds := o.holds, state := .closing, closing := some .worksStop, failure := o.failure } s

theorem overtaken_eq (b : Fin 8) (o : Order) (s : State) : overtaken b o o.holds .worksStop o.failure s
    = leftRunning b o (putForOrder b .release (forfeitedAt b o s)) := rfl

theorem act_forfeitedAt (b : Fin 8) (o : Order) (s : State) : (forfeitedAt b o s).act = s.act := by
  simp only [forfeitedAt, creditForfeited, State.setOrder_fields, State.withCounters, State.withDrn_fields]

theorem bay_forfeitedAt (b c : Fin 8) (o : Order) (s : State) : (forfeitedAt b o s).bay c = s.bay c := by
  simp only [forfeitedAt, creditForfeited, State.bay_setOrder, State.withCounters, State.bay_withDrn]

theorem order_forfeitedAt {o : Order} (h : o.drains = true) (b c : Fin 8) (s : State) :
    (forfeitedAt b o s).order c = if b = c then some o.worksStopped else s.order c := by
  rw [Order.worksStopped, if_pos h]
  exact State.order_setOrder ..

/-- The bay's order is what works-stop makes of it. -/
theorem order_worksStopBay_self (s : State) (b : Fin 8) : (worksStopBay s b).order b = (s.order b).map Order.worksStopped := by
  rcases drains_cases s b with ⟨o, ho, hd⟩ | hwaits
  · have hclosed : (forfeitedAt b o s).order b = some o.worksStopped := by rw [order_forfeitedAt hd, if_pos rfl]
    rw [worksStopBay_drains ho hd, overtaken_eq, order_leftRunning, ho]
    rcases order_putForOrder b .release (forfeitedAt b o s) b with hsame | ⟨-, x, hx, hsuspect, -⟩
    · rw [hsame, hclosed]
      rfl
    · rw [hclosed, Option.some.injEq] at hx
      rw [← hx, Order.worksStopped, if_pos hd] at hsuspect
      exact absurd hsuspect (by simp)
  · rw [worksStopBay_waits hwaits]
    cases ho : s.order b with
    | none => rfl
    | some o => simp [Order.worksStopped, hwaits o ho]

/-- Of the other orders one at most is changed: that whose RESET is superseded by RELEASE (R142, R162). -/
theorem order_worksStopBay_other {b c : Fin 8} (h : b ≠ c) (s : State) : (worksStopBay s b).order c = s.order c
    ∨ (∃ w ∈ s.act.queue, w.orig = .order c ∧ (s.bay b).device = some w.device)
      ∧ ReshutEnds (s.order c) ((worksStopBay s b).order c) := by
  rcases drains_cases s b with ⟨o, ho, hd⟩ | hwaits
  · have hother : (forfeitedAt b o s).order c = s.order c := by rw [order_forfeitedAt hd, if_neg h]
    rw [worksStopBay_drains ho hd, overtaken_eq, order_leftRunning, ← hother, ← act_forfeitedAt b o s, ← bay_forfeitedAt b b o s]
    exact order_putForOrder b .release (forfeitedAt b o s) c
  · exact .inl (by rw [worksStopBay_waits hwaits])

theorem mem_worksStopBay {s : State} {b : Fin 8} {e : LineEntry} (h : e ∈ (worksStopBay s b).act.queue) :
    e.orig = .order b ∨ e ∈ s.act.queue := by
  rcases drains_cases s b with ⟨o, ho, hd⟩ | hwaits
  · rw [worksStopBay_drains ho hd, overtaken_eq, act_leftRunning] at h
    rw [← act_forfeitedAt b o s]
    exact mem_putForOrder h
  · rw [worksStopBay_waits hwaits] at h
    exact .inr h

theorem bay_worksStopBay (s : State) (b c : Fin 8) : (worksStopBay s b).bay c = s.bay c :=
  congrArg (fun k => k.image.bays.at_ c) (kept_worksStopBay s b)

/-- The counters after so many forfeits (R120, R133; log entry 67). -/
def forfeitedBy (n : Nat) (c : CreditCounters) : CreditCounters :=
  { c with forfeited := if n = 0 then c.forfeited else min 4294967295 (c.forfeited + n) }

theorem forfeitedBy_add (m n : Nat) (c : CreditCounters) : forfeitedBy m (forfeitedBy n c) = forfeitedBy (n + m) c := by
  simp only [forfeitedBy, CreditCounters.mk.injEq, true_and, and_true]
  split <;> split <;> split <;> omega

/-- An order that works-stop overtakes holds a credit. -/
def losesCredit (o : Option Order) : Bool := o.any fun o => o.drains && o.credit

theorem purse_worksStopBay (s : State) (b : Fin 8) : purse (worksStopBay s b)
    = (s.drn.grants, forfeitedBy (losesCredit (s.order b)).toNat s.drn.counters, s.drn.armed) := by
  rcases drains_cases s b with ⟨o, ho, hd⟩ | hwaits
  · rw [worksStopBay_drains ho hd, overtaken_eq, purse_leftRunning, purse_putForOrder, ho]
    unfold forfeitedAt creditForfeited losesCredit
    cases hcredit : o.credit <;> simp [hd, hcredit] <;> rfl
  · have hkeeps : losesCredit (s.order b) = false := by
      cases ho : s.order b with
      | none => rfl
      | some o => simp [losesCredit, hwaits o ho]
    rw [worksStopBay_waits hwaits, hkeeps]
    rfl

/-- RELEASE stands with the line for an order that works-stop overtakes. -/
theorem commandStands_worksStopBay_self {s : State} {b : Fin 8} {o : Order} {d : Fin 16} (ho : s.order b = some o) (h : o.drains = true)
    (hd : (s.bay b).device = some d) : CommandStands (worksStopBay s b) d .release (.order b) := by
  rw [worksStopBay_drains ho h]
  exact commandStands_overtaken hd o _ _ _

/-- A command stays where it stands while works-stop reaches a bay with another device. -/
theorem commandStands_worksStopBay_other {s : State} {c : Fin 8} {d : Fin 16} {k : LineCommand} {orig : Originator}
    (h : CommandStands s d k orig) (hd : (s.bay c).device ≠ some d) : CommandStands (worksStopBay s c) d k orig := by
  rcases drains_cases s c with ⟨o, ho, hdrains⟩ | hwaits
  · have hforfeited : CommandStands (forfeitedAt c o s) d k orig := h.congr (by rw [act_forfeitedAt]) (by rw [act_forfeitedAt])
    rw [worksStopBay_drains ho hdrains, overtaken_eq]
    exact commandStands_leftRunning (commandStands_putForOrder_other hforfeited (by rwa [bay_forfeitedAt])) c o
  · rwa [worksStopBay_waits hwaits]

end Sys2Proof.Machine

/-! PROOF. Works-stop reaches every bay (R123, R136, R137; log entry 47). -/

namespace Sys2Proof.Machine

theorem mem_allBays (b : Fin 8) : b ∈ allBays := by
  revert b
  decide

theorem nodup_allBays : allBays.Nodup := by decide

/-! ### Hold causes of every order (R123) -/

theorem changeHolds_eq (b : Fin 8) (f : HoldCauses → HoldCauses) (s : State) :
    changeHolds b f s = s.setOrder b ((s.order b).map fun o => o.withHolds (f o.holds)) := by
  unfold changeHolds
  cases ho : s.order b with
  | some o => rfl
  | none =>
    have hput : s.drn.orders.put b none = s.drn.orders := by
      rw [← ho]
      exact Tab.put_at _ _
    simp only [State.setOrder, Option.map_none, hput]
    rfl

/-- A change of hold causes that has reached a list of bays. -/
theorem changeHolds_foldl_list (f : HoldCauses → HoldCauses) {l : List (Fin 8)} (hl : l.Nodup) (s : State) :
    l.foldl (fun s b => changeHolds b f s) s = s.withDrn { s.drn with
      orders := Vector.ofFn fun b => if b ∈ l then (s.order b).map fun o => o.withHolds (f o.holds) else s.order b } := by
  induction l generalizing s with
  | nil =>
    have hsame : (Vector.ofFn fun b => s.order b) = s.drn.orders := by
      ext i
      simp [State.order, Tab.at_]
    simp only [List.foldl_nil, List.not_mem_nil, if_false, hsame]
    rfl
  | cons b t ih =>
    obtain ⟨hb, ht⟩ := List.nodup_cons.mp hl
    rw [List.foldl_cons, ih ht, changeHolds_eq]
    refine congrArg (fun orders => s.withDrn { s.drn with orders := orders }) (congrArg Vector.ofFn (funext fun c => ?_))
    rw [State.order_setOrder]
    by_cases hbc : b = c
    · subst hbc
      simp [hb]
    · simp [hbc, Ne.symm hbc]

/-- A change of hold causes that has reached every bay. -/
theorem changeHolds_foldl (f : HoldCauses → HoldCauses) (s : State) : allBays.foldl (fun s b => changeHolds b f s) s = s.withDrn { s.drn with
    orders := Vector.ofFn fun b => (s.order b).map fun o => o.withHolds (f o.holds) } := by
  rw [changeHolds_foldl_list f nodup_allBays]
  simp only [mem_allBays, if_true]

/-! ### Orders that differ in an ended RESHUT at most -/

/-- A bay's order is as it was, but that it may have stopped waiting for its RESHUT (R142). -/
def ReshutLike (x y : Option Order) : Prop := y = x ∨ ReshutEnds x y

theorem ReshutLike.refl (x : Option Order) : ReshutLike x x := .inl rfl

theorem ReshutLike.trans {x y z : Option Order} (h : ReshutLike x y) (g : ReshutLike y z) : ReshutLike x z := by
  rcases g with rfl | ⟨p, rfl, hp, rfl⟩
  · exact h
  · rcases h with rfl | ⟨o, rfl, ho, h⟩
    · exact .inr ⟨p, rfl, hp, rfl⟩
    · obtain rfl := Option.some.inj h
      exact .inr ⟨o, rfl, ho, rfl⟩

/-- Works-stop leaves a SUSPECT order, so it may be taken before or after. -/
theorem ReshutLike.map_worksStopped {x y : Option Order} (h : ReshutLike x y) :
    ReshutLike (x.map Order.worksStopped) (y.map Order.worksStopped) := by
  rcases h with rfl | ⟨o, rfl, ho, rfl⟩
  · exact .refl _
  · refine .inr ⟨o, ?_, ho, ?_⟩
    · rw [Option.map_some, worksStopped_suspect ho]
    · rw [Option.map_some, worksStopped_suspect (by exact ho)]

theorem not_drains_suspect {o : Order} (h : o.state = .suspect) : o.drains = false := by simp [Order.drains, h]

/-- An order that is not SUSPECT is the same. -/
theorem ReshutLike.of_not_suspect {o : Order} {y : Option Order} (h : ReshutLike (some o) y) (hs : o.state ≠ .suspect) : y = some o := by
  rcases h with h | ⟨p, hp, hsuspect, -⟩
  · exact h
  · obtain rfl := Option.some.inj hp
    exact absurd hsuspect hs

theorem ReshutLike.of_drains {o : Order} {y : Option Order} (h : ReshutLike (some o) y) (hd : o.drains = true) : y = some o :=
  h.of_not_suspect fun hs => by simp [not_drains_suspect hs] at hd

theorem ReshutLike.isSome {x y : Option Order} (h : ReshutLike x y) : y.isSome = x.isSome := by
  rcases h with rfl | ⟨o, rfl, -, rfl⟩ <;> rfl

theorem ReshutLike.not_drains {x y : Option Order} (h : ReshutLike x y) (hx : ∀ o, x = some o → o.drains = false) :
    ∀ o, y = some o → o.drains = false := by
  rintro o rfl
  rcases h with rfl | ⟨p, -, hsuspect, ho⟩
  · exact hx o rfl
  · obtain rfl := Option.some.inj ho
    exact not_drains_suspect (by exact hsuspect)

theorem ReshutLike.losesCredit {x y : Option Order} (h : ReshutLike x y) : losesCredit y = losesCredit x := by
  rcases h with rfl | ⟨o, rfl, ho, rfl⟩
  · rfl
  · simp [Machine.losesCredit, not_drains_suspect ho, not_drains_suspect (o := { o with reshut := false }) ho]

theorem reshutLike_worksStopBay {b c : Fin 8} (h : b ≠ c) (s : State) : ReshutLike (s.order c) ((worksStopBay s b).order c) :=
  (order_worksStopBay_other h s).imp_right And.right

/-! ### The bays one after the other -/

/-- What works-stop leaves of the orders once it has reached a list of bays. -/
theorem order_worksStop_foldl {l : List (Fin 8)} (hl : l.Nodup) (s : State) (c : Fin 8) :
    ReshutLike (if c ∈ l then (s.order c).map Order.worksStopped else s.order c) ((l.foldl worksStopBay s).order c) := by
  induction l generalizing s with
  | nil => exact .refl _
  | cons b t ih =>
    obtain ⟨hb, ht⟩ := List.nodup_cons.mp hl
    have hrest := ih ht (worksStopBay s b)
    rw [List.foldl_cons]
    by_cases hbc : b = c
    · subst hbc
      rw [if_neg hb, order_worksStopBay_self] at hrest
      rw [if_pos (List.mem_cons_self ..)]
      exact hrest
    · have hhead := reshutLike_worksStopBay hbc s
      by_cases hc : c ∈ t
      · rw [if_pos hc] at hrest
        rw [if_pos (List.mem_cons_of_mem b hc)]
        exact hhead.map_worksStopped.trans hrest
      · rw [if_neg hc] at hrest
        rw [if_neg (by simp [hc, Ne.symm hbc])]
        exact hhead.trans hrest

/-- A SUSPECT order stays as it is where no other bay has the device that its waiting commands are for. -/
theorem order_worksStop_untold {s : State} {b : Fin 8} {o : Order} (ho : s.order b = some o) (hsuspect : o.state = .suspect)
    (hqueue : ∀ e ∈ s.act.queue, e.orig = .order b → ∀ c, c ≠ b → (s.bay c).device ≠ some e.device) (l : List (Fin 8)) :
    (l.foldl worksStopBay s).order b = some o := by
  induction l generalizing s with
  | nil => exact ho
  | cons c t ih =>
    rw [List.foldl_cons]
    by_cases hcb : c = b
    · subst hcb
      rw [worksStopBay_waits (by rw [ho]; simpa using not_drains_suspect hsuspect)]
      exact ih ho hqueue
    · refine ih ?_ fun e he horig x hx => ?_
      · rcases order_worksStopBay_other hcb s with hsame | ⟨⟨w, hw, horig, hdevice⟩, -⟩
        · rw [hsame, ho]
        · exact absurd hdevice (hqueue w hw horig c hcb)
      · rw [bay_worksStopBay]
        rcases mem_worksStopBay he with hnew | hold
        · rw [horig] at hnew
          exact absurd (Originator.order.inj hnew).symm hcb
        · exact hqueue e hold horig x hx

/-- The grants and the flag stay, and every order that is overtaken with a credit forfeits it (R133). -/
theorem purse_worksStop_foldl {l : List (Fin 8)} (hl : l.Nodup) (s : State) : purse (l.foldl worksStopBay s)
    = (s.drn.grants, forfeitedBy (l.countP fun b => losesCredit (s.order b)) s.drn.counters, s.drn.armed) := by
  induction l generalizing s with
  | nil => rfl
  | cons b t ih =>
    obtain ⟨hb, ht⟩ := List.nodup_cons.mp hl
    have hbay := purse_worksStopBay s b
    simp only [purse, Prod.mk.injEq] at hbay
    obtain ⟨hgrants, hcounters, harmed⟩ := hbay
    have hcount : (t.countP fun c => losesCredit ((worksStopBay s b).order c)) = t.countP fun c => losesCredit (s.order c) :=
      List.countP_congr fun c hc => by
        have hbc : b ≠ c := fun h => hb (h ▸ hc)
        rw [(reshutLike_worksStopBay hbc s).losesCredit]
    rw [List.foldl_cons, ih ht, hgrants, hcounters, harmed, hcount, forfeitedBy_add, List.countP_cons]
    cases losesCredit (s.order b) <;> simp [Nat.add_comm]

/-- A command that stands stays while works-stop reaches bays with other devices. -/
theorem commandStands_worksStop_foldl {s : State} {d : Fin 16} {k : LineCommand} {orig : Originator} (h : CommandStands s d k orig)
    {l : List (Fin 8)} (hl : ∀ c ∈ l, (s.bay c).device ≠ some d) : CommandStands (l.foldl worksStopBay s) d k orig := by
  induction l generalizing s with
  | nil => exact h
  | cons c t ih =>
    refine ih (commandStands_worksStopBay_other h (hl c (List.mem_cons_self ..))) fun x hx => ?_
    rw [bay_worksStopBay]
    exact hl x (List.mem_cons_of_mem c hx)

/-- Once works-stop has reached every bay, RELEASE stands with the line for each order that drained, where no other bay has its device. -/
theorem commandStands_worksStop {s : State} {b : Fin 8} {o : Order} {d : Fin 16} (ho : s.order b = some o) (hdrains : o.drains = true)
    (hd : (s.bay b).device = some d) (hother : ∀ c, c ≠ b → (s.bay c).device ≠ some d) {l : List (Fin 8)} (hl : l.Nodup) (hb : b ∈ l) :
    CommandStands (l.foldl worksStopBay s) d .release (.order b) := by
  induction l generalizing s with
  | nil => simp at hb
  | cons c t ih =>
    obtain ⟨hc, ht⟩ := List.nodup_cons.mp hl
    rw [List.foldl_cons]
    by_cases hcb : c = b
    · subst hcb
      refine commandStands_worksStop_foldl (commandStands_worksStopBay_self ho hdrains hd) fun x hx => ?_
      rw [bay_worksStopBay]
      exact hother x fun h => hc (h ▸ hx)
    · have hsame : (worksStopBay s c).order b = some o := by
        have hlike := reshutLike_worksStopBay hcb s
        rw [ho] at hlike
        exact hlike.of_drains hdrains
      refine ih hsame (by rwa [bay_worksStopBay]) (fun x hx => ?_) ht ((List.mem_cons.mp hb).resolve_left (Ne.symm hcb))
      rw [bay_worksStopBay]
      exact hother x hx

/-! ### Every order takes the hold cause first -/

/-- An order with the hold cause works-stop. -/
def Order.stopHeld (o : Order) : Order := o.withHolds { o.holds with worksStop := true }

theorem stopHeld_waits {o : Order} (h : o.state = .queued ∨ o.state = .held) :
    o.stopHeld = { o with holds := { o.holds with worksStop := true }, state := .held } := by
  rcases h with h | h <;> simp [Order.stopHeld, Order.withHolds, h, waitingState, HoldCauses.isEmpty]

theorem stopHeld_slot {o : Order} (h : o.state ≠ .queued ∧ o.state ≠ .held) :
    o.stopHeld = { o with holds := { o.holds with worksStop := true } } := by
  obtain ⟨hqueued, hheld⟩ := h
  cases hs : o.state <;> simp_all [Order.stopHeld, Order.withHolds]

theorem stopHeld_drains (o : Order) : o.stopHeld.drains = o.drains := by
  cases hs : o.state <;> simp [Order.drains, Order.stopHeld, Order.withHolds, hs, waitingState, HoldCauses.isEmpty]
  rfl

theorem drains_slot {o : Order} (h : o.drains = true) : o.state ≠ .queued ∧ o.state ≠ .held := by
  rcases drains_iff.mp h with h | h <;> simp [h]

/-- What works-stop does at a bay, told by the orders as they stood before. -/
def stopStep (s v : State) (b : Fin 8) : State :=
  match s.order b with
  | some o =>
    if o.state = .opening ∨ o.state = .running then overtaken b o { o.holds with worksStop := true } .worksStop o.failure v else v
  | none => v

/-- An order that is overtaken is closed with the hold causes that are given, whichever it had. -/
theorem overtaken_holds (b : Fin 8) (o : Order) (h : HoldCauses) (k : ClosingCause) (f : Option Failure) (s : State) :
    overtaken b { o with holds := h } h k f s = overtaken b o h k f s := by
  unfold overtaken creditForfeited leftRunning
  rfl

theorem worksStopBay_eq_stopStep {s v : State} {b : Fin 8} (h : ReshutLike ((s.order b).map Order.stopHeld) (v.order b)) :
    worksStopBay v b = stopStep s v b := by
  unfold stopStep
  cases ho : s.order b with
  | none =>
    rw [ho] at h
    exact worksStopBay_waits (h.not_drains (by simp))
  | some o =>
    rw [ho, Option.map_some] at h
    dsimp only
    cases hd : o.drains with
    | true =>
      have hdrains : o.stopHeld.drains = true := by rw [stopHeld_drains, hd]
      rw [if_pos (drains_iff.mp hd), worksStopBay_drains (h.of_drains hdrains) hdrains, stopHeld_slot (drains_slot hd)]
      exact overtaken_holds ..
    | false =>
      rw [if_neg (by rw [← drains_iff, hd]; simp)]
      refine worksStopBay_waits (h.not_drains ?_)
      simpa [stopHeld_drains] using hd

theorem worksStop_foldl_eq (s : State) {l : List (Fin 8)} (hl : l.Nodup) {v : State}
    (h : ∀ b ∈ l, ReshutLike ((s.order b).map Order.stopHeld) (v.order b)) : l.foldl worksStopBay v = l.foldl (stopStep s) v := by
  induction l generalizing v with
  | nil => rfl
  | cons b t ih =>
    obtain ⟨hb, ht⟩ := List.nodup_cons.mp hl
    rw [List.foldl_cons, List.foldl_cons, ← worksStopBay_eq_stopStep (h b (List.mem_cons_self ..))]
    refine ih ht fun c hc => ?_
    have hbc : b ≠ c := fun h => hb (h ▸ hc)
    exact (h c (List.mem_cons_of_mem b hc)).trans (reshutLike_worksStopBay hbc v)

end Sys2Proof.Machine

/-! PROOF. Edges of works-stop, and the orders at an assertion (R123, R133 to R137, R179, R180). -/

namespace Sys2Proof.Machine

theorem term_of_kept {s t : State} (h : kept t = kept s) : t.term = s.term := congrArg Kept.term h

/-! ### Asserted (R136) -/

/-- Works-stop is asserted in `u`, and every order of `s` has its hold cause, before any order acts. -/
def worksStopHeld (s u : State) : State :=
  (u.withTerm { u.term with worksStop := true }).withDrn { s.drn with orders := Vector.ofFn fun b => (s.order b).map Order.stopHeld }

theorem worksStopAsserted_eq {s u : State} (h : LaterOf s u) : worksStopAsserted u = allBays.foldl worksStopBay (worksStopHeld s u) := by
  have hheld := changeHolds_foldl (fun h => { h with worksStop := true }) (u.withTerm { u.term with worksStop := true })
  unfold worksStopAsserted
  dsimp only
  rw [hheld, worksStopHeld, ← h.drn]
  simp only [← h.order]
  rfl

@[simp] theorem order_worksStopHeld (s u : State) (b : Fin 8) : (worksStopHeld s u).order b = (s.order b).map Order.stopHeld :=
  Tab.at_ofFn b _

/-- What works-stop leaves of each order. -/
theorem order_worksStopAsserted {s u : State} (h : LaterOf s u) (b : Fin 8) :
    ReshutLike ((s.order b).map fun o => o.stopHeld.worksStopped) ((worksStopAsserted u).order b) := by
  have hall := order_worksStop_foldl nodup_allBays (worksStopHeld s u) b
  rw [if_pos (mem_allBays b), order_worksStopHeld, Option.map_map] at hall
  rw [worksStopAsserted_eq h]
  exact hall

section
variable {s u : State} {b : Fin 8} {o : Order}

/-- An order that waits is HELD. -/
theorem worksStopAsserted_waits (h : LaterOf s u) (ho : s.order b = some o) (hs : o.state = .queued ∨ o.state = .held) :
    (worksStopAsserted u).order b = some { o with holds := { o.holds with worksStop := true }, state := .held } := by
  have hlike := order_worksStopAsserted h b
  rw [ho, Option.map_some, stopHeld_waits hs, Order.worksStopped, if_neg (by simp [Order.drains])] at hlike
  exact hlike.of_not_suspect (by simp)

/-- An order that drains closes, without its credit. -/
theorem worksStopAsserted_drains (h : LaterOf s u) (ho : s.order b = some o) (hd : o.drains = true) :
    (worksStopAsserted u).order b = some { o with
      holds := { o.holds with worksStop := true }, state := .closing, closing := some .worksStop, credit := false, lot := none
      total := match o.lot with
        | some l => if o.credit then min 4294967295 (o.total + l.drained.toNat) else o.total
        | none => o.total } := by
  have hlike := order_worksStopAsserted h b
  have hdrains : o.stopHeld.drains = true := (stopHeld_drains o).trans hd
  rw [ho, Option.map_some, Order.worksStopped, if_pos hdrains, stopHeld_slot (drains_slot hd)] at hlike
  exact hlike.of_not_suspect (by simp)

theorem stopHeld_worksStopped_ending (hs : o.state = .closing ∨ o.state = .suspect) :
    o.stopHeld.worksStopped = { o with holds := { o.holds with worksStop := true } } := by
  have hdrains : ¬ o.stopHeld.drains = true := by
    rw [stopHeld_drains, drains_iff]
    rcases hs with hs | hs <;> simp [hs]
  rw [Order.worksStopped, if_neg hdrains, stopHeld_slot]
  rcases hs with hs | hs <;> simp [hs]

/-- An order that closes goes on. -/
theorem worksStopAsserted_closing (h : LaterOf s u) (ho : s.order b = some o) (hs : o.state = .closing) :
    (worksStopAsserted u).order b = some { o with holds := { o.holds with worksStop := true } } := by
  have hlike := order_worksStopAsserted h b
  rw [ho, Option.map_some, stopHeld_worksStopped_ending (.inl hs)] at hlike
  exact hlike.of_not_suspect (by simp [hs])

/-- A SUSPECT order stays so; it may stop waiting for its RESHUT, whose RESET another bay's RELEASE can supersede (R142, R162). -/
theorem worksStopAsserted_suspect (h : LaterOf s u) (ho : s.order b = some o) (hs : o.state = .suspect) :
    ∃ y, (worksStopAsserted u).order b = some y ∧ y = { o with holds := { o.holds with worksStop := true }, reshut := y.reshut }
      ∧ ((∀ e ∈ s.act.queue, e.orig = .order b → ∀ c, c ≠ b → (s.bay c).device ≠ some e.device) → y.reshut = o.reshut) := by
  have hending := stopHeld_worksStopped_ending (.inr hs)
  have hlike := order_worksStopAsserted h b
  rw [ho, Option.map_some, hending] at hlike
  have huntold (hqueue : ∀ e ∈ s.act.queue, e.orig = .order b → ∀ c, c ≠ b → (s.bay c).device ≠ some e.device) :
      (worksStopAsserted u).order b = some { o with holds := { o.holds with worksStop := true } } := by
    have hstop : o.stopHeld = { o with holds := { o.holds with worksStop := true } } := stopHeld_slot (by simp [hs])
    have hheld : (worksStopHeld s u).order b = some { o with holds := { o.holds with worksStop := true } } := by
      rw [order_worksStopHeld, ho, Option.map_some, hstop]
    have hbay (c : Fin 8) : (worksStopHeld s u).bay c = s.bay c := h.bay c
    rw [worksStopAsserted_eq h]
    refine order_worksStop_untold hheld hs (fun e he horig c hc => ?_) allBays
    rw [hbay]
    refine hqueue e ?_ horig c hc
    rw [← h.act]
    exact he
  rcases hlike with hsame | ⟨p, hp, -, hends⟩
  · exact ⟨_, hsame, rfl, fun _ => rfl⟩
  · obtain rfl := Option.some.inj hp
    refine ⟨_, hends, rfl, fun hqueue => ?_⟩
    have hreshut := congrArg (Option.map Order.reshut) (hends.symm.trans (huntold hqueue))
    exact Option.some.inj hreshut

/-- Every order has the hold cause, and none drains. -/
theorem worksStopAsserted_all {x : Order} (h : LaterOf s u) (hx : (worksStopAsserted u).order b = some x) :
    x.holds.worksStop = true ∧ (x.state = .held ∨ x.state = .closing ∨ x.state = .suspect) := by
  cases ho : s.order b with
  | none =>
    have hlike := order_worksStopAsserted h b
    rw [ho, hx] at hlike
    exact absurd hlike.isSome (by simp)
  | some o =>
    have waits (hs : o.state = .queued ∨ o.state = .held) : x.holds.worksStop = true ∧ x.state = .held := by
      obtain rfl := Option.some.inj (hx.symm.trans (worksStopAsserted_waits h ho hs))
      exact ⟨rfl, rfl⟩
    have drains (hd : o.drains = true) : x.holds.worksStop = true ∧ x.state = .closing := by
      obtain rfl := Option.some.inj (hx.symm.trans (worksStopAsserted_drains h ho hd))
      exact ⟨rfl, rfl⟩
    cases hs : o.state with
    | queued => exact (waits (.inl hs)).imp_right .inl
    | held => exact (waits (.inr hs)).imp_right .inl
    | opening => exact (drains (drains_iff.mpr (.inl hs))).imp_right fun h => .inr (.inl h)
    | running => exact (drains (drains_iff.mpr (.inr hs))).imp_right fun h => .inr (.inl h)
    | closing =>
      obtain rfl := Option.some.inj (hx.symm.trans (worksStopAsserted_closing h ho hs))
      exact ⟨rfl, .inr (.inl hs)⟩
    | suspect =>
      obtain ⟨y, hy, hshape, -⟩ := worksStopAsserted_suspect h ho hs
      obtain rfl := Option.some.inj (hx.symm.trans hy)
      rw [hshape]
      exact ⟨rfl, .inr (.inr hs)⟩

end

theorem losesCredit_stopHeld (o : Option Order) : losesCredit (o.map Order.stopHeld) = losesCredit o := by
  cases o with
  | none => rfl
  | some o =>
    have hcredit : o.stopHeld.credit = o.credit := rfl
    simp [losesCredit, stopHeld_drains, hcredit]

/-- The credits stay with the grants, and the forfeits are counted. -/
theorem purse_worksStopAsserted {s u : State} (h : LaterOf s u) : purse (worksStopAsserted u)
    = (s.drn.grants, forfeitedBy (allBays.countP fun b => losesCredit (s.order b)) s.drn.counters, s.drn.armed) := by
  rw [worksStopAsserted_eq h, purse_worksStop_foldl nodup_allBays]
  simp only [order_worksStopHeld, losesCredit_stopHeld]
  rfl

/-- The orders act in the order of the bays, each as its state before tells it (log entry 47). -/
theorem worksStopAsserted_eq_stopStep {s u : State} (h : LaterOf s u) :
    worksStopAsserted u = allBays.foldl (stopStep s) (worksStopHeld s u) := by
  rw [worksStopAsserted_eq h]
  refine worksStop_foldl_eq s nodup_allBays fun b _ => ?_
  rw [order_worksStopHeld]
  exact .refl _

theorem commandStands_worksStopAsserted {s u : State} {b : Fin 8} {o : Order} {d : Fin 16} (h : LaterOf s u) (ho : s.order b = some o)
    (hdrains : o.drains = true) (hd : (s.bay b).device = some d) (hother : ∀ c, c ≠ b → (s.bay c).device ≠ some d) :
    CommandStands (worksStopAsserted u) d .release (.order b) := by
  have hbay (c : Fin 8) : (worksStopHeld s u).bay c = s.bay c := h.bay c
  have hheld : (worksStopHeld s u).order b = some o.stopHeld := by rw [order_worksStopHeld, ho, Option.map_some]
  rw [worksStopAsserted_eq h]
  refine commandStands_worksStop hheld ((stopHeld_drains o).trans hdrains) (by rwa [hbay]) (fun c hc => ?_) nodup_allBays (mem_allBays b)
  rw [hbay]
  exact hother c hc

theorem worksStop_worksStopAsserted (s : State) : (worksStopAsserted s).term.worksStop = true := by
  rw [term_of_kept (kept_worksStopAsserted s)]
  rfl

theorem isSome_worksStopAsserted {s u : State} (h : LaterOf s u) (b : Fin 8) :
    ((worksStopAsserted u).order b).isSome = (s.order b).isSome := by
  rw [(order_worksStopAsserted h b).isSome, Option.isSome_map]

/-- The alarm lines follow without touching works-stop, the orders and the line of the actuators. -/
theorem refreshAlarms_leaves (s : State) : (refreshAlarms s).term.worksStop = s.term.worksStop ∧ (refreshAlarms s).drn = s.drn
    ∧ ∀ b, (refreshAlarms s).order b = s.order b := ⟨rfl, rfl, fun _ => rfl⟩

theorem commandStands_refreshAlarms {s : State} {d : Fin 16} {k : LineCommand} {orig : Originator} (h : CommandStands s d k orig) :
    CommandStands (refreshAlarms s) d k orig := h.congr rfl rfl

/-! ### Released (R137) -/

/-- Works-stop is released, and no order has its hold cause. -/
structure StopFree (s : State) : Prop where
  term : s.term.worksStop = false
  orders : ∀ b o, s.order b = some o → o.holds.worksStop = false

/-- An operation that keeps the terminals and the orders. -/
theorem StopFree.same {s t : State} (h : StopFree s) (hterm : t.term = s.term) (horders : t.drn.orders = s.drn.orders) : StopFree t where
  term := hterm ▸ h.term
  orders b o ho := h.orders b o (by rwa [State.order, ← horders])

theorem StopFree.setOrder {s : State} (h : StopFree s) (b : Fin 8) (x : Option Order) (hx : ∀ o, x = some o → o.holds.worksStop = false) :
    StopFree (s.setOrder b x) where
  term := h.term
  orders c o ho := by
    rw [State.order_setOrder] at ho
    split at ho
    · exact hx o ho
    · exact h.orders c o ho

theorem stopFree_putForOrder {s : State} (h : StopFree s) (b : Fin 8) (k : LineCommand) : StopFree (putForOrder b k s) where
  term := by rw [term_of_kept (kept_putForOrder b k s), h.term]
  orders c o ho := by
    rcases order_putForOrder b k s c with hsame | ⟨-, x, hx, -, hends⟩
    · exact h.orders c o (hsame ▸ ho)
    · obtain rfl := Option.some.inj (ho.symm.trans hends)
      exact h.orders c x hx

theorem stopFree_enterOpening {s : State} (h : StopFree s) (b : Fin 8) : StopFree (enterOpening b s) := by
  have hconsumed : StopFree (consume s) := h.same rfl rfl
  cases ho : s.order b with
  | none => simpa only [enterOpening, ho] using h
  | some o =>
    simp only [enterOpening, ho]
    refine stopFree_putForOrder (hconsumed.setOrder b _ fun x hx => ?_) b .engage
    obtain rfl := Option.some.inj hx
    exact h.orders b o ho

theorem stopFree_creditsWanted {s : State} (h : StopFree s) : StopFree (creditsWanted s) := by
  unfold creditsWanted
  split
  · split
    · exact h.same rfl rfl
    · exact h
  · exact h

theorem stopFree_slotGrant {s : State} (h : StopFree s) : StopFree (slotGrant s) := by
  have hrounds (n : Nat) : ∀ {s : State}, StopFree s → StopFree (slotGrantRounds n s) := by
    induction n with
    | zero => exact stopFree_creditsWanted
    | succ n ih =>
      intro s h
      unfold slotGrantRounds
      split
      · split
        · exact ih (stopFree_enterOpening h _)
        · exact h
      · exact stopFree_creditsWanted h
  exact hrounds 8 h

/-- The planner's orders begin without the hold cause. -/
theorem stopFree_plannerBay {s : State} (h : StopFree s) (b : Fin 8) : StopFree (plannerBay s b) := by
  unfold plannerBay
  split
  · refine stopFree_slotGrant (h.setOrder b _ fun o ho => ?_)
    obtain rfl := Option.some.inj ho
    exact h.term
  · exact h

theorem StopFree.foldl {α : Type} {f : State → α → State} (hf : ∀ {s : State} (a : α), StopFree s → StopFree (f s a)) (l : List α)
    {s : State} (h : StopFree s) : StopFree (l.foldl f s) := by
  induction l generalizing s with
  | nil => exact h
  | cons a t ih => exact ih (hf a h)

theorem stopFree_plannerEvaluation {s : State} (h : StopFree s) : StopFree (plannerEvaluation s) :=
  StopFree.foldl (fun b h => stopFree_plannerBay h b) allBays h

theorem stopFree_evaluateMode {s : State} (h : StopFree s) : StopFree (evaluateMode s) := by
  unfold evaluateMode
  split
  · exact h
  · refine stopFree_plannerEvaluation (h.same (term_of_kept (by simp)) ?_)
    rw [drn_intervalsChanged, drn_supplyFollowsMode]
    rfl

theorem stopFree_plannerTake {s : State} (h : StopFree s) : StopFree (plannerTake s) := by
  unfold plannerTake
  split
  · exact stopFree_evaluateMode (stopFree_plannerEvaluation h)
  · exact stopFree_plannerEvaluation h

theorem stopFree_sitePlanner {s : State} (h : StopFree s) : StopFree (sitePlanner s) := by
  have hdropped : StopFree (dropChoice s) := h.same rfl rfl
  unfold sitePlanner
  split
  · exact stopFree_plannerTake (stopFree_evaluateMode hdropped)
  · exact stopFree_evaluateMode (stopFree_plannerTake hdropped)

theorem stopFree_dropTested {s : State} (h : StopFree s) (b : Fin 8) : StopFree (dropTested s b) := by
  unfold dropTested
  split
  · split
    · exact (h.setOrder b none (by simp)).same rfl rfl
    · exact h
  · exact h

/-- Works-stop is released in `u`, and every order of `s` is free of its hold cause. -/
def worksStopFreed (s u : State) : State :=
  (u.withTerm { u.term with worksStop := false }).withDrn { s.drn with
    orders := Vector.ofFn fun b => (s.order b).map fun o => o.withHolds { o.holds with worksStop := false } }

theorem worksStopFrees_eq {s u : State} (h : LaterOf s u) : worksStopFrees u = worksStopFreed s u := by
  have hfreed := changeHolds_foldl (fun h => { h with worksStop := false }) (u.withTerm { u.term with worksStop := false })
  rw [worksStopFrees, hfreed, worksStopFreed, ← h.drn]
  simp only [← h.order]
  rfl

theorem order_worksStopFreed (s u : State) (b : Fin 8) :
    (worksStopFreed s u).order b = (s.order b).map fun o => o.withHolds { o.holds with worksStop := false } :=
  Tab.at_ofFn b _

theorem stopFree_worksStopFreed (s u : State) : StopFree (worksStopFreed s u) where
  term := rfl
  orders b o ho := by
    rw [order_worksStopFreed] at ho
    obtain ⟨x, -, rfl⟩ := Option.map_eq_some_iff.mp ho
    rfl

/-- After a release no order has the hold cause, whatever the retirements have led to. -/
theorem stopFree_worksStopReleased {s u : State} (h : LaterOf s u) : StopFree (worksStopReleased u) := by
  unfold worksStopReleased
  dsimp only
  rw [worksStopFrees_eq h]
  refine stopFree_slotGrant (StopFree.foldl (fun _ h => stopFree_sitePlanner h) _ ?_)
  exact StopFree.foldl (fun b h => stopFree_dropTested h b) _ (stopFree_worksStopFreed s u)

/-- Where no freed order is done, slot grant is all that follows. -/
theorem worksStopReleased_undone {s u : State} (h : LaterOf s u) (hdone : ∀ b, testRetires (worksStopFreed s u) b = false) :
    worksStopReleased u = slotGrant (worksStopFreed s u) := by
  unfold worksStopReleased
  dsimp only
  rw [worksStopFrees_eq h, List.filter_eq_nil_iff.mpr (by simp [hdone])]
  rfl

/-- Without orders slot grant changes nothing. -/
theorem slotGrant_without_orders {s : State} (h : ∀ b, s.order b = none) : slotGrant s = s := by
  have hnone : bestRanked s (eligibleBays s) = none := by
    have hempty : eligibleBays s = [] := List.filter_eq_nil_iff.mpr (by simp [eligible, h])
    rw [hempty]
    rfl
  have hwanted : creditsWanted s = s := by
    unfold creditsWanted
    rw [hnone]
    exact ite_self s
  rw [slotGrant, slotGrantRounds, hnone, hwanted]
  exact ite_self s

theorem worksStopReleased_without_orders {s u : State} (h : LaterOf s u) (hnone : ∀ b, s.order b = none) (b : Fin 8) :
    (worksStopReleased u).order b = none := by
  have hfreed (c : Fin 8) : (worksStopFreed s u).order c = none := by rw [order_worksStopFreed, hnone, Option.map_none]
  rw [worksStopReleased_undone h (fun c => by simp [testRetires, hfreed]), slotGrant_without_orders hfreed, hfreed]

/-! ### The edges -/

/-- Settles O41: each edge is taken by the owner of the terminal's function. -/
theorem floatAndWorksStopEdgesTakeEffect : Obligations.FloatAndWorksStopEdgesTakeEffect := by
  intro m s t hrun hpin active f stopped
  have hlater : LaterOf s (takeRawLevel t (arrive m s)) := laterOf_takeRawLevel t m s
  refine ⟨fun b hf henabled hactive => ?floatActive, fun b hf henabled hactive => ?floatReleased, fun hf hactive => ?asserted,
    fun hf hactive => ?released⟩
  case floatActive =>
    refine ⟨_, execDebounce_edge hrun hpin hf (by simp) hactive, ?_⟩
    obtain ⟨hfloats, hothers, d, hlevel⟩ := floatActivated_lvl (by rwa [hlater.bay])
    rw [hlater.lvl] at hfloats
    rw [floated, hlater.level, hlater.bay] at hlevel
    simp only [hlater.level] at hothers
    refine ⟨hfloats, hothers, fun hlost => ?_, fun hnone hstale => ?_⟩
    · rw [if_pos hlost.symm] at hlevel
      exact ⟨congrArg LevelRecord.quality hlevel, congrArg LevelRecord.value hlevel⟩
    · rw [if_neg (not_or.mpr ⟨hstale, hnone⟩)] at hlevel
      have hvalue := congrArg LevelRecord.value hlevel
      have hquality := congrArg LevelRecord.quality hlevel
      exact ⟨hquality, hvalue⟩
  case floatReleased =>
    refine ⟨_, execDebounce_edge hrun hpin hf (by simp) hactive, ?_⟩
    obtain ⟨hfloats, hothers, hlevel⟩ := floatReleased_lvl (by rwa [hlater.bay]) .released
    rw [hlater.lvl] at hfloats
    simp only [hlater.level] at hothers
    rw [hlater.level] at hlevel
    have hvalue := congrArg LevelRecord.value hlevel
    have hquality := congrArg LevelRecord.quality hlevel
    exact ⟨hfloats, hothers, hvalue, hquality⟩
  case asserted =>
    have hexec : exec (.debounceComplete m t) s = .next (refreshAlarms (worksStopAsserted (takeRawLevel t (arrive m s)))) :=
      execDebounce_edge (f := .worksStop) (active := true) hrun hpin hf (by simp) hactive
    refine ⟨_, hexec, ?_⟩
    have hpurse := purse_worksStopAsserted hlater
    simp only [purse, Prod.mk.injEq] at hpurse
    obtain ⟨hgrants, hcounters, harmed⟩ := hpurse
    obtain ⟨hstop, hdrn, horder⟩ := refreshAlarms_leaves (worksStopAsserted (takeRawLevel t (arrive m s)))
    rw [hstop, hdrn]
    simp only [horder]
    refine ⟨worksStop_worksStopAsserted _, fun b => isSome_worksStopAsserted hlater b, fun b o hx => worksStopAsserted_all hlater hx,
      fun b o ho => ⟨fun hs => worksStopAsserted_waits hlater ho hs, fun hs => ?drains, fun hs => worksStopAsserted_closing hlater ho hs,
        fun hs => worksStopAsserted_suspect hlater ho hs⟩, hgrants, harmed, hcounters, ?inOrder⟩
    case drains =>
      have hdrains : o.drains = true := drains_iff.mpr hs
      exact ⟨worksStopAsserted_drains hlater ho hdrains, fun d hd hother =>
        commandStands_refreshAlarms (commandStands_worksStopAsserted hlater ho hdrains hd hother)⟩
    case inOrder => exact congrArg refreshAlarms (worksStopAsserted_eq_stopStep hlater)
  case released =>
    have hexec : exec (.debounceComplete m t) s = .next (refreshAlarms (worksStopReleased (takeRawLevel t (arrive m s)))) :=
      execDebounce_edge (f := .worksStop) (active := false) hrun hpin hf (by simp) hactive
    refine ⟨_, hexec, ?_⟩
    have hfree := stopFree_worksStopReleased hlater
    obtain ⟨hstop, -, horder⟩ := refreshAlarms_leaves (worksStopReleased (takeRawLevel t (arrive m s)))
    rw [hstop]
    simp only [horder]
    exact ⟨hfree.term, fun hnone b => worksStopReleased_without_orders hlater hnone b, hfree.orders,
      fun hdone => congrArg refreshAlarms (worksStopReleased_undone hlater hdone)⟩

end Sys2Proof.Machine

/-! PROOF. The site alert level and its sources (R72). -/

namespace Sys2Proof.Machine

/-! ### The recomputed level -/

/-- The sources of the site alert level are the rules with their records, and the slots. -/
theorem alertFromSources_congr {s t : State} (hrecords : t.image.rules = s.image.rules) (hrules : t.rain.rules = s.rain.rules)
    (hslots : t.rain.slots = s.rain.slots) : alertFromSources t = alertFromSources s := by
  simp only [alertFromSources, ruleLevel, hrecords, hrules, hslots]

/-- A recomputation, with the notice that tells another level (R72). -/
theorem recomputeAlert_eq (c : AlertCause) (i : Nat) (s : State) : recomputeAlert c i s =
    if alertFromSources s = s.rain.alert then s
    else sitePlanner ((postAt s.now i (.alertChanged s.rain.alert (alertFromSources s) c) s).withRain
      { s.rain with alert := alertFromSources s }) := rfl

/-- Of the kept part a recomputation changes the site alert level alone. -/
theorem kept_recomputeAlert (c : AlertCause) (i : Nat) (s : State) :
    kept (recomputeAlert c i s) = kept (s.withRain { s.rain with alert := alertFromSources s }) := by
  rw [recomputeAlert_eq]
  split
  · next h => rw [h]; rfl
  · simp only [kept_sitePlanner]
    have hposted := kept_postAt s.now i (.alertChanged s.rain.alert (alertFromSources s) c) s
    exact congrArg (fun k => { k with rain := { s.rain with alert := alertFromSources s } }) hposted

@[simp] theorem rain_recomputeAlert (c : AlertCause) (i : Nat) (s : State) :
    (recomputeAlert c i s).rain = { s.rain with alert := alertFromSources s } := congrArg Kept.rain (kept_recomputeAlert c i s)

@[simp] theorem image_recomputeAlert (c : AlertCause) (i : Nat) (s : State) : (recomputeAlert c i s).image = s.image :=
  congrArg Kept.image (kept_recomputeAlert c i s)

@[simp] theorem ret_recomputeAlert (c : AlertCause) (i : Nat) (s : State) : (recomputeAlert c i s).ret = s.ret :=
  congrArg Kept.ret (kept_recomputeAlert c i s)

@[simp] theorem alertFromSources_recomputeAlert (c : AlertCause) (i : Nat) (s : State) :
    alertFromSources (recomputeAlert c i s) = alertFromSources s := by
  apply alertFromSources_congr <;> simp

/-- After a recomputation the site alert level is the highest of its sources, whatever it was before. -/
theorem alertFollows_recomputeAlert (c : AlertCause) (i : Nat) (s : State) : AlertFollows (recomputeAlert c i s) := by
  simp [AlertFollows]

end Sys2Proof.Machine

/-! PROOF. What the site alert level and the checked records are read from, and what leaves it alone (R4, R72, R154). -/

namespace Sys2Proof.Machine

/-- What the site alert level with its sources, the thresholds of the bays and the bus addresses are read from. -/
structure Checked where
  bays : Tab 8 BayRec
  devices : Tab 16 (Option DeviceRec)
  ruleRecords : Tab 8 RuleRec
  rules : Tab 8 RuleVol
  slots : Tab 4 ForecastSlot
  alert : Alert

/-- The checked part of a state. -/
def checked (s : State) : Checked :=
  { bays := s.image.bays, devices := s.image.devices, ruleRecords := s.image.rules, rules := s.rain.rules, slots := s.rain.slots
    alert := s.rain.alert }

theorem checked_of_image_rain {s t : State} (hi : t.image = s.image) (hr : t.rain = s.rain) : checked t = checked s := by
  simp [checked, hi, hr]

theorem checked_of_kept {s t : State} (h : kept t = kept s) : checked t = checked s :=
  checked_of_image_rain (congrArg Kept.image h) (congrArg Kept.rain h)

theorem checked_of_spared {s t : State} (h : spared t = spared s) : checked t = checked s :=
  checked_of_image_rain (congrArg Spared.image h) (congrArg Spared.rain h)

/-- The two states agree on the site alert level and on its sources. -/
theorem alertFollows_congr {s t : State} (hrecords : t.image.rules = s.image.rules) (hrules : t.rain.rules = s.rain.rules)
    (hslots : t.rain.slots = s.rain.slots) (halert : t.rain.alert = s.rain.alert) : AlertFollows t ↔ AlertFollows s := by
  simp only [AlertFollows, alertFromSources_congr hrecords hrules hslots, halert]

/-- The two states have the same bay and device records. -/
theorem recordsInRange_congr {s t : State} (hb : t.image.bays = s.image.bays) (hd : t.image.devices = s.image.devices) :
    RecordsInRange t ↔ RecordsInRange s := by
  simp only [RecordsInRange, State.bay, hb, hd]

/-- A fold of steps that leave the checked part alone leaves it alone. -/
theorem checked_foldl {α : Type} (f : State → α → State) (h : ∀ s a, checked (f s a) = checked s) (l : List α) (s : State) :
    checked (l.foldl f s) = checked s := by
  induction l generalizing s with
  | nil => rfl
  | cons a t ih => rw [List.foldl_cons, ih, h]

/-! ### The setters -/

@[simp] theorem checked_withRun (s : State) (x : Run) : checked (s.withRun x) = checked s := rfl
@[simp] theorem checked_withBackup (s : State) (x : Bool) : checked (s.withBackup x) = checked s := rfl
@[simp] theorem checked_withClock (s : State) (x : Clock) : checked (s.withClock x) = checked s := rfl
@[simp] theorem checked_withRet (s : State) (x : Retained) : checked (s.withRet x) = checked s := rfl
@[simp] theorem checked_withSnd (s : State) (x : Sounding) : checked (s.withSnd x) = checked s := rfl
@[simp] theorem checked_withFree (s : State) (x : Free) : checked (s.withFree x) = checked s := rfl
@[simp] theorem checked_withDrn (s : State) (x : Drain) : checked (s.withDrn x) = checked s := rfl
@[simp] theorem checked_withInhibit (s : State) (x : Tab 8 (Option InhibitCause)) : checked (s.withInhibit x) = checked s := rfl
@[simp] theorem checked_withAct (s : State) (x : Actuator) : checked (s.withAct x) = checked s := rfl
@[simp] theorem checked_withTerm (s : State) (x : Terminals) : checked (s.withTerm x) = checked s := rfl
@[simp] theorem checked_withPort (s : State) (x : Port) : checked (s.withPort x) = checked s := rfl
@[simp] theorem checked_setLevel (s : State) (b : Fin 8) (x : LevelRecord) : checked (s.setLevel b x) = checked s := rfl
@[simp] theorem checked_setFloat (s : State) (b : Fin 8) (x : FloatState) : checked (s.setFloat b x) = checked s := rfl
@[simp] theorem checked_setOrder (s : State) (b : Fin 8) (x : Option Order) : checked (s.setOrder b x) = checked s := rfl
@[simp] theorem checked_setDevice (s : State) (d : Fin 16) (x : DeviceVol) : checked (s.setDevice d x) = checked s := rfl
@[simp] theorem checked_setLast (s : State) (d : Fin 16) (x : Option LastOutcome) : checked (s.setLast d x) = checked s := rfl
@[simp] theorem checked_setOutfall (s : State) (k : Fin 4) (x : OutfallVol) : checked (s.setOutfall k x) = checked s := rfl
@[simp] theorem checked_setCounts (s : State) (k : Fin 4) (x : OutfallCounts) : checked (s.setCounts k x) = checked s := rfl
@[simp] theorem checked_setGauge (s : State) (g : Fin 4) (x : GaugeVol) : checked (s.setGauge g x) = checked s := rfl
@[simp] theorem checked_setEngine (f : InFlight) (s : State) : checked (setEngine f s) = checked s := rfl

/-- Another rain watch with the same rules, slots and alert level. -/
theorem checked_withRain {s : State} {x : Rain} (hr : x.rules = s.rain.rules) (hs : x.slots = s.rain.slots) (ha : x.alert = s.rain.alert) :
    checked (s.withRain x) = checked s := by
  simp [checked, hr, hs, ha]

/-- Another image with the same bay, device and rule records is written. -/
theorem checked_writeImage {s : State} {i : Image} (hb : i.bays = s.image.bays) (hd : i.devices = s.image.devices)
    (hr : i.rules = s.image.rules) : checked (writeImage i s) = checked s := by
  simp [checked, writeImage, hb, hd, hr]

/-! ### Time, notices, the alarm lines -/

@[simp] theorem checked_advance (us : Nat) (s : State) : checked (advance us s) = checked s := checked_of_image_rain (by simp) (by simp)
@[simp] theorem checked_arrive (m : Moment) (s : State) : checked (arrive m s) = checked s := checked_of_image_rain (by simp) (by simp)
@[simp] theorem checked_reachSecond (t : Nat) (s : State) : checked (reachSecond t s) = checked s := checked_advance _ s
@[simp] theorem checked_reachFast (t : Nat) (s : State) : checked (reachFast t s) = checked s := checked_advance _ s
@[simp] theorem checked_postAt (t i : Nat) (d : NoticeDetail) (s : State) : checked (postAt t i d s) = checked s := rfl
@[simp] theorem checked_post (i : Nat) (d : NoticeDetail) (s : State) : checked (post i d s) = checked s := rfl
@[simp] theorem checked_refreshAlarms (s : State) : checked (refreshAlarms s) = checked s := rfl

/-! ### The reactions of the site model, the planner and the two queues -/

@[simp] theorem checked_engineTake (s : State) : checked (engineTake s) = checked s := checked_of_kept (kept_engineTake s)
@[simp] theorem checked_engineIdle (s : State) : checked (engineIdle s) = checked s := checked_of_kept (kept_engineIdle s)
@[simp] theorem checked_queueEntry (e : SoundingEntry) (s : State) : checked (queueEntry e s) = checked s :=
  checked_of_kept (kept_queueEntry e s)
@[simp] theorem checked_intervalsChanged (s : State) : checked (intervalsChanged s) = checked s :=
  checked_of_kept (kept_intervalsChanged s)
@[simp] theorem checked_evaluateMode (s : State) : checked (evaluateMode s) = checked s := checked_of_kept (kept_evaluateMode s)
@[simp] theorem checked_plannerTake (s : State) : checked (plannerTake s) = checked s := checked_of_kept (kept_plannerTake s)
@[simp] theorem checked_sitePlanner (s : State) : checked (sitePlanner s) = checked s := checked_of_kept (kept_sitePlanner s)
@[simp] theorem checked_slotGrant (s : State) : checked (slotGrant s) = checked s := checked_of_kept (kept_slotGrant s)
@[simp] theorem checked_lineTake (s : State) : checked (lineTake s) = checked s := checked_of_kept (kept_lineTake s)
@[simp] theorem checked_lineIdle (s : State) : checked (lineIdle s) = checked s := checked_of_kept (kept_lineIdle s)
@[simp] theorem checked_putDrive (d : Fin 16) (c : LineCommand) (o : Originator) (s : State) : checked (putDrive d c o s) = checked s :=
  checked_of_kept (kept_putDrive d c o s)
@[simp] theorem checked_putQuery (d : Fin 16) (o : Originator) (s : State) : checked (putQuery d o s) = checked s :=
  checked_of_kept (kept_putQuery d o s)
@[simp] theorem checked_overtake (b : Fin 8) (c : ClosingCause) (s : State) : checked (overtake b c s) = checked s :=
  checked_of_kept (kept_overtake b c s)
@[simp] theorem checked_cancel (b : Fin 8) (c : CancelCause) (s : State) : checked (cancel b c s) = checked s :=
  checked_of_kept (kept_cancel b c s)
@[simp] theorem checked_handChange (d : Fin 16) (o n : DeviceState) (s : State) : checked (handChange d o n s) = checked s :=
  checked_of_kept (kept_handChange d o n s)
@[simp] theorem checked_announce (d : Fin 16) (o n : DeviceState) (c : LineCommand) (s : State) : checked (announce d o n c s) = checked s :=
  checked_of_kept (kept_announce d o n c s)
@[simp] theorem checked_worksStopAsserted (s : State) : checked (worksStopAsserted s) = checked s :=
  (checked_of_kept (kept_worksStopAsserted s)).trans rfl
@[simp] theorem checked_worksStopReleased (s : State) : checked (worksStopReleased s) = checked s :=
  (checked_of_kept (kept_worksStopReleased s)).trans rfl
@[simp] theorem checked_setInhibit (b : Fin 8) (c : InhibitCause) (s : State) : checked (setInhibit b c s) = checked s :=
  (checked_of_kept (kept_setInhibit b c s)).trans rfl

/-! ### Outcomes of the actuator line (R128 to R142) -/

@[simp] theorem checked_retire (b : Fin 8) (n : DrainDetail → NoticeDetail) (c : DrainCause) (f : Option Failure) (s : State) :
    checked (retire b n c f s) = checked s := checked_of_kept (kept_retire b n c f s)

@[simp] theorem checked_confirmClose (b : Fin 8) (s : State) : checked (confirmClose b s) = checked s := by
  unfold confirmClose
  split
  · split
    · exact checked_of_kept (kept_retireDone b s)
    · exact checked_of_kept (kept_retireCancelled b _ s)
    · exact (checked_plannerTake _).trans (checked_retire ..)
    · exact checked_retire ..
    · exact checked_retire ..
    all_goals exact checked_of_kept (by simp)
  · rfl

@[simp] theorem checked_enterSuspect (b : Fin 8) (f : Failure) (s : State) : checked (enterSuspect b f s) = checked s := by
  unfold enterSuspect
  split <;> simp

@[simp] theorem checked_releaseOutcome (b : Fin 8) (oc : LineOutcome) (s : State) : checked (releaseOutcome b oc s) = checked s := by
  cases oc <;> simp [releaseOutcome]

@[simp] theorem checked_tell (o : Originator) (c : LineCommand) (oc : LineOutcome) (s : State) : checked (tell o c oc s) = checked s := by
  unfold tell
  split
  · split
    · split
      · exact checked_of_kept (kept_engageOutcome ..)
      · exact checked_releaseOutcome ..
      · split
        · exact checked_of_kept (kept_reshutOutcome ..)
        · rfl
      · rfl
    · rfl
  all_goals rfl

@[simp] theorem checked_tellEnd (e : Option EntryEnd) (s : State) : checked (tellEnd e s) = checked s := by
  cases e <;> simp [tellEnd]

@[simp] theorem checked_recordEnd (d : Fin 16) (e w : Option EntryEnd) (s : State) : checked (recordEnd d e w s) = checked s := by
  cases e <;> cases w <;> rfl

@[simp] theorem checked_concludeEvent (d : Fin 16) (o : DeviceState) (w e : Option EntryEnd) (c : LineCommand) (s : State) :
    checked (concludeEvent d o w e c s) = checked s := by simp [concludeEvent]

@[simp] theorem checked_enterState (d : Fin 16) (st : DeviceState) (s : State) : checked (enterState d st s) = checked s := rfl
@[simp] theorem checked_setNaks (d : Fin 16) (n : Nat) (s : State) : checked (setNaks d n s) = checked s := rfl
@[simp] theorem checked_loseStep (d : Fin 16) (s : State) : checked (loseStep d s) = checked s := rfl
@[simp] theorem checked_resend (t : Transaction) (s : State) : checked (resend t s) = checked s := rfl

@[simp] theorem checked_endInFault (t : Transaction) (st : DeviceState) (oc : LineOutcome) (s : State) :
    checked (endInFault t st oc s) = checked s := by simp [endInFault]

@[simp] theorem checked_attemptFailed (t : Transaction) (c : LostCause) (s : State) : checked (attemptFailed t c s) = checked s := by
  simp [attemptFailed, apply_ite checked]

@[simp] theorem checked_takeNak (t : Transaction) (s : State) : checked (takeNak t s) = checked s := by
  unfold takeNak
  dsimp only
  split
  · rw [checked_lineIdle, checked_of_kept (kept_returnEntry ..), checked_setNaks]
  · exact checked_endInFault ..

@[simp] theorem checked_takePosition (d : Fin 16) (c : LineCommand) (p : LinePosition) (s : State) :
    checked (takePosition d c p s) = checked s := by
  unfold takePosition
  split <;> rfl

@[simp] theorem checked_takeAck (t : Transaction) (p : LinePosition) (s : State) : checked (takeAck t p s) = checked s := by
  have hopening : checked (ackOpening t p s) = checked s := by simp [ackOpening]
  have hdrive : checked (ackDrive t p s) = checked s := by
    simp [ackDrive, apply_ite checked]
  have hquery : checked (ackQuery t p s) = checked s := by
    unfold ackQuery
    dsimp only
    split <;> simp [apply_ite checked]
  unfold takeAck
  split
  · exact hquery
  · exact hopening
  · exact hdrive

@[simp] theorem checked_takeReply (t : Transaction) (st : LineStatus) (p : LinePosition) (s : State) :
    checked (takeReply t st p s) = checked s := by
  cases st <;> simp [takeReply, apply_ite checked]

@[simp] theorem checked_frameArrives (bytes : List Byte) (s : State) : checked (frameArrives bytes s) = checked s := by
  unfold frameArrives
  split
  · split
    · rfl
    · split
      · unfold judgeFrame
        split <;> simp
      · rfl
  · rfl

@[simp] theorem checked_responseTimesOut (s : State) : checked (responseTimesOut s) = checked s := by
  unfold responseTimesOut
  split <;> simp

@[simp] theorem checked_nakBackoffPassed (d : Fin 16) (s : State) : checked (nakBackoffPassed d s) = checked s := by
  unfold nakBackoffPassed
  split <;> simp

@[simp] theorem checked_pollReached (d : Fin 16) (s : State) : checked (pollReached d s) = checked s := by
  unfold pollReached
  split <;> simp [pollDue]

@[simp] theorem checked_movementDeadlineReached (d : Fin 16) (s : State) : checked (movementDeadlineReached d s) = checked s := by
  unfold movementDeadlineReached
  split <;> simp [movementTimesOut]

/-! ### The spill accountant and its log (R82, R88, R90, R108, R111) -/

theorem checked_transferLoop (fuel n : Nat) (s : State) : checked (transferLoop fuel n s).1 = checked s := by
  induction fuel generalizing n s with
  | zero => rfl
  | succ fuel ih =>
    unfold transferLoop
    split
    · rfl
    · next t ht =>
      obtain ⟨id, k, r, ht⟩ : ∃ id k r, t = enterLog id r (s.withRet { s.ret with slots := s.ret.slots.put k none }) := by
        unfold transferOne at ht
        split at ht
        · split at ht
          · exact ⟨_, _, _, (Option.some.inj ht).symm⟩
          · cases ht
        · cases ht
      rw [ih, ht, checked_of_spared (spared_enterLog ..), checked_withRet]

@[simp] theorem checked_transferTest (s : State) : checked (transferTest s).1 = checked s := checked_transferLoop 4 0 s

@[simp] theorem checked_closeSpill (k : Fin 4) (t : Nat) (c : EndCause) (atStart : Bool) (s : State) :
    checked (closeSpill k t c atStart s) = checked s := by
  have hfigures (o : OpenSpill) : checked (closeFigures k t c o s) = checked s := rfl
  unfold closeSpill
  split
  · split
    · simp only [checked_postAt, checked_setOutfall, apply_ite checked, checked_transferTest, hfigures, ite_self]
    · rfl
  · rfl

@[simp] theorem checked_tailDeadlineReached (k : Fin 4) (s : State) : checked (tailDeadlineReached k s) = checked s := by
  have htail (u : State) : checked (tailEnds k u) = checked u := by
    unfold tailEnds
    split
    · rw [checked_of_spared (spared_outfallChanged ..), checked_closeSpill]
    all_goals rfl
  unfold tailDeadlineReached
  split
  · rw [htail, checked_reachSecond]
  all_goals rfl

@[simp] theorem checked_blockEndReached (k : Fin 4) (s : State) : checked (blockEndReached k s) = checked s := by
  unfold blockEndReached
  split
  · exact checked_of_spared (spared_carryBlock ..)
  · exact checked_of_spared (spared_carryBlock ..)
  all_goals rfl

/-! ### The level keeper and the ranging engine -/

@[simp] theorem checked_handQualityChange (b : Fin 8) (q : Quality) (s : State) : checked (handQualityChange b q s) = checked s :=
  let h := onlyLevel_handQualityChange b q s
  checked_of_image_rain h.image h.rain

@[simp] theorem checked_testDisagreement (b : Fin 8) (s : State) : checked (testDisagreement b s) = checked s :=
  let h := onlyLevel_testDisagreement b s
  checked_of_image_rain h.image h.rain

@[simp] theorem checked_levelCompletion (b : Fin 8) (l : Option Nat) (t : Nat) (failed : Bool) (s : State) :
    checked (levelCompletion b l t failed s) = checked s :=
  let h := onlyLevel_levelCompletion b l t failed s
  checked_of_image_rain h.image h.rain

@[simp] theorem checked_floatActivated (b : Fin 8) (s : State) : checked (floatActivated b s) = checked s := by
  unfold floatActivated
  dsimp only
  split <;> simp

@[simp] theorem checked_floatReleased (b : Fin 8) (f : FloatState) (s : State) : checked (floatReleased b f s) = checked s := by
  unfold floatReleased
  dsimp only
  split <;> simp

@[simp] theorem checked_setChannel (b : Fin 8) (c : Channel) (s : State) : checked (setChannel b c s) = checked s := rfl

@[simp] theorem checked_channelTakes (r : Reading) (s : State) : checked (channelTakes r s) = checked s := by
  simp [channelTakes, channelGood, channelBad, apply_ite checked]

@[simp] theorem checked_finish (f : InFlight) (r : ReadingResult) (l : Option Nat) (d : Option DriveFault) (n : Option Nat) (s : State) :
    checked (finish f r l d n s) = checked s := by
  unfold finish
  split
  · exact checked_of_kept (kept_endDiscarded f s)
  · simp [finishWith]

@[simp] theorem checked_gateFailed (f : InFlight) (s : State) : checked (gateFailed f s) = checked s := by
  unfold gateFailed
  split
  · exact checked_of_kept (kept_endDiscarded f s)
  · simp [apply_ite checked]

@[simp] theorem checked_gateCompletes (n : Nat) (f : InFlight) (s : State) : checked (gateCompletes n f s) = checked s := by
  simp [gateCompletes, gatePassed, apply_ite checked]

@[simp] theorem checked_burstEnds (n : Nat) (f : InFlight) (s : State) : checked (burstEnds n f s) = checked s := by
  simp [burstEnds, apply_ite checked]

@[simp] theorem checked_echoCrosses (tof : Nat) (f : InFlight) (s : State) : checked (echoCrosses tof f s) = checked s := by
  simp [echoCrosses, apply_ite checked]

@[simp] theorem checked_beginBurst (f : InFlight) (s : State) : checked (beginBurst f s) = checked s := rfl

@[simp] theorem checked_chargeExpires (f : InFlight) (s : State) : checked (chargeExpires f s) = checked s := by
  simp [chargeExpires, apply_ite checked]

@[simp] theorem checked_supplyReports (s : State) : checked (supplyReports s) = checked s := by
  unfold supplyReports
  dsimp only
  split
  · split
    · simp [apply_ite checked]
    · rfl
  · rfl

/-- An event of one phase of the engine leaves the checked part alone where its effect on the sounding in flight does. -/
theorem checked_inPhase {p : EngineState} {f : InFlight → State → State} (h : ∀ x s, checked (f x s) = checked s) (s : State) :
    checked (inPhase p f s) = checked s := by
  unfold inPhase
  split
  · split
    · exact h _ s
    · rfl
  · rfl

@[simp] theorem checked_dueReached (b : Fin 8) (s : State) : checked (dueReached b s) = checked s := by
  unfold dueReached
  split <;> simp

@[simp] theorem checked_backoffPassed (b : Fin 8) (s : State) : checked (backoffPassed b s) = checked s := by
  unfold backoffPassed
  split
  · split <;> simp
  · rfl

/-! ### Gauges, grants and lots -/

@[simp] theorem checked_startStuckDeadline (g : Fin 4) (s : State) : checked (startStuckDeadline g s) = checked s := by
  simp [startStuckDeadline, apply_ite checked]

@[simp] theorem checked_gaugeInactiveEdge (g : Fin 4) (s : State) : checked (gaugeInactiveEdge g s) = checked s := rfl

@[simp] theorem checked_rollHistories (second : Nat) (s : State) : checked (rollHistories second s) = checked s :=
  checked_foldl _ (fun s g => by simp [apply_ite checked]) _ s

@[simp] theorem checked_stuckDeadlineReached (g : Fin 4) (s : State) : checked (stuckDeadlineReached g s) = checked s := by
  have hstuck (n : Nat) (u : State) : checked (becomeStuck g n u) = checked u := by
    unfold becomeStuck
    dsimp only
    split <;> rfl
  unfold stuckDeadlineReached
  split
  · rw [hstuck, checked_reachSecond]
  · rfl

@[simp] theorem checked_expiryReached (s : State) : checked (expiryReached s) = checked s := by
  unfold expiryReached
  split <;> simp [expireGrant]

@[simp] theorem checked_lotDeadlineReached (b : Fin 8) (s : State) : checked (lotDeadlineReached b s) = checked s := by
  unfold lotDeadlineReached
  split
  · split <;> simp
  · rfl

end Sys2Proof.Machine

/-! PROOF. The rain watch and the host's requests keep the site alert level at its sources and the records in range (R4, R72, R154). -/

namespace Sys2Proof.Machine

/-- From `s` to `t` the site alert level stays at the highest of its sources, and the thresholds and the bus addresses stay in range. -/
structure Keeps (s t : State) : Prop where
  alert : AlertFollows s → AlertFollows t
  records : RecordsInRange s → RecordsInRange t

theorem Keeps.trans {r s t : State} (h : Keeps r s) (g : Keeps s t) : Keeps r t := ⟨g.alert ∘ h.alert, g.records ∘ h.records⟩

/-- What leaves the checked part alone keeps. -/
theorem keeps_of_checked {s t : State} (h : checked t = checked s) : Keeps s t where
  alert := (alertFollows_congr (congrArg Checked.ruleRecords h) (congrArg Checked.rules h) (congrArg Checked.slots h)
    (congrArg Checked.alert h)).mpr
  records := (recordsInRange_congr (congrArg Checked.bays h) (congrArg Checked.devices h)).mpr

theorem Keeps.refl (s : State) : Keeps s s := keeps_of_checked rfl

/-- A keeping step after one that leaves the checked part alone. -/
theorem Keeps.after {s u t : State} (g : Keeps u t) (h : checked u = checked s) : Keeps s t := (keeps_of_checked h).trans g

/-- A fold of keeping steps keeps. -/
theorem Keeps.foldl {α : Type} {f : State → α → State} (h : ∀ s a, Keeps s (f s a)) (l : List α) (s : State) : Keeps s (l.foldl f s) := by
  induction l generalizing s with
  | nil => exact Keeps.refl s
  | cons a t ih => exact (h s a).trans (ih _)

/-! ### The rain watch -/

/-- A recomputation after a change of the rain watch. -/
theorem keeps_recomputeAlert (c : AlertCause) (i : Nat) (s : State) (x : Rain) : Keeps s (recomputeAlert c i (s.withRain x)) where
  alert _ := alertFollows_recomputeAlert c i _
  records := (recordsInRange_congr (by simp) (by simp)).mpr

theorem keeps_enterRule (r : Fin 8) (v : RuleVol) (s : State) : Keeps s (enterRule r v s) := keeps_recomputeAlert _ _ s _

theorem keeps_raiseRule (r : Fin 8) (s : State) : Keeps s (raiseRule r s) := keeps_enterRule r _ s

theorem keeps_evaluateRaising (g : Fin 4) (s : State) (r : Fin 8) : Keeps s (evaluateRaising g s r) := by
  unfold evaluateRaising
  dsimp only
  repeat' split
  all_goals first | with_reducible exact Keeps.refl s | exact keeps_raiseRule r s

theorem keeps_evaluateFull (s : State) (r : Fin 8) : Keeps s (evaluateFull s r) := by
  unfold evaluateFull evaluateDepth
  dsimp only
  repeat' split
  all_goals first | with_reducible exact Keeps.refl s | with_reducible exact keeps_raiseRule r s | exact keeps_enterRule r _ s

theorem keeps_takeTip (g : Fin 4) (s : State) : Keeps s (takeTip g s) := by
  unfold takeTip
  dsimp only
  refine Keeps.trans (keeps_of_checked ?_) (Keeps.foldl (keeps_evaluateRaising g) allRules _)
  simp

theorem keeps_gaugeActiveEdge (g : Fin 4) (s : State) : Keeps s (gaugeActiveEdge g s) := by
  unfold gaugeActiveEdge
  dsimp only
  split
  · exact (keeps_takeTip g s).trans (keeps_of_checked (checked_startStuckDeadline g _))
  · exact keeps_of_checked (checked_startStuckDeadline g s)

theorem keeps_minuteRoll (s : State) : Keeps s (minuteRoll s) := by
  unfold minuteRoll
  dsimp only
  refine Keeps.trans (keeps_of_checked ?_) (Keeps.foldl keeps_evaluateFull allRules _)
  exact (checked_withRain rfl rfl rfl).trans (checked_rollHistories _ s)

theorem keeps_applyForecast (i : Fin 4) (f : ForecastSlot) (s : State) : Keeps s (applyForecast i f s) := keeps_recomputeAlert _ _ s _

/-! ### Records -/

/-- Another image with the same rule records is written: the alert level stays. -/
theorem keeps_writeImage {s : State} {i : Image} (hrules : i.rules = s.image.rules)
    (hrecords : RecordsInRange s → RecordsInRange (writeImage i s)) : Keeps s (writeImage i s) where
  alert := (alertFollows_congr (t := writeImage i s) hrules rfl rfl rfl).mpr
  records := hrecords

/-- The thresholds of a bay record rise, where the bay is enabled (R4). -/
def BayRec.rising (r : BayRec) : Prop :=
  r.enabled = true → r.empty < r.fill ∧ r.fill < r.drawdown ∧ r.drawdown < r.high ∧ r.high < r.crest

/-- A valid SET_BAY stores thresholds that rise (R4). -/
theorem rising_bayRecord {f : BayFields} (h : bayFieldsValid f = true) : (bayRecord f).rising := by
  intro _
  simp only [bayFieldsValid, Bool.and_eq_true, strictlyRising, decide_eq_true_eq] at h
  simp only [bayRecord]
  omega

theorem keeps_storeBay (b : Fin 8) {r : BayRec} (h : r.rising) (s : State) :
    Keeps s (writeImage { s.image with bays := s.image.bays.put b r } s) := by
  refine keeps_writeImage rfl fun ⟨hbays, hdevices⟩ => ⟨fun c hc => ?_, hdevices⟩
  have hbay : (writeImage { s.image with bays := s.image.bays.put b r } s).bay c = if b = c then r else s.bay c := by
    simp [writeImage, State.bay]
  rw [hbay] at hc ⊢
  split at hc
  · next heq => rw [if_pos heq]; exact h hc
  · next hne => rw [if_neg hne]; exact hbays c hc

theorem keeps_applyBay (b : Fin 8) {r : BayRec} (h : r.rising) (s : State) : Keeps s (applyBay b r s) := by
  have hdiscard (u : State) : checked (discardInFlight b u) = checked u := by
    unfold discardInFlight
    split
    · split <;> rfl
    · rfl
  refine (keeps_storeBay b h s).trans (keeps_of_checked ?_)
  unfold applyBay
  dsimp only
  rw [checked_of_kept (kept_joinFresh ..), checked_evaluateMode, checked_handQualityChange, hdiscard]
  rfl

/-- The bus address of a device record lies in range (R154). -/
def AddressInRange (x : Option DeviceRec) : Prop := ∀ r, x = some r → 1 ≤ r.address ∧ r.address ≤ 31

/-- SET_DEVICE stores a bus address in range (R154). -/
theorem addressInRange_deviceRecord? (f : DeviceFields) : AddressInRange (deviceRecord? f) := by
  intro r hr
  unfold deviceRecord? at hr
  split at hr
  · split at hr
    · next hrange =>
      cases hr
      simp only [inRange, Bool.and_eq_true, decide_eq_true_eq] at hrange
      exact hrange.1
    · cases hr
  · cases hr

theorem keeps_applyDevice (d : Fin 16) {x : Option DeviceRec} (h : AddressInRange x) (s : State) : Keeps s (applyDevice d x s) := by
  have hstored : Keeps s (writeImage { s.image with devices := s.image.devices.put d x } s) := by
    refine keeps_writeImage rfl fun ⟨hbays, hdevices⟩ => ⟨hbays, fun e r he => ?_⟩
    simp only [writeImage, State.withRet_fields, State.withImage_fields, Tab.at_put] at he
    split at he
    · exact h r he
    · exact hdevices e r he
  refine hstored.trans (keeps_of_checked ?_)
  unfold applyDevice
  dsimp only
  split <;> simp

theorem keeps_applyRule (r : Fin 8) (v : RuleRec) (s : State) : Keeps s (applyRule r v s) where
  alert _ := alertFollows_recomputeAlert _ _ _
  records := (recordsInRange_congr (by simp [applyRule, enterRule, writeImage]) (by simp [applyRule, enterRule, writeImage])).mpr

/-! ### The host's requests -/

theorem keeps_onFields {α : Type} (b : Body α) (s : State) {f : α → Answer} (h : ∀ x, Keeps s (f x).state) :
    Keeps s (onFields b s f).state := by
  cases b with
  | wrongLength => exact Keeps.refl s
  | fields x => exact h x

/-- A check that does not refuse is known to fail. -/
theorem keeps_unlessRefused (cs : List (Bool × Result)) (s : State) {a : Answer} (h : firstRefusal cs = none → Keeps s a.state) :
    Keeps s (unlessRefused cs s a).state := by
  unfold unlessRefused
  split
  · exact Keeps.refl s
  · next hn => exact h hn

theorem keeps_answerOk {s u : State} (h : Keeps s u) (body : ReplyBody) : Keeps s (answerOk body u).state := h

theorem keeps_onBay (n : Nat) (s : State) {f : Fin 8 → Answer} (h : ∀ x, Keeps s (f x).state) : Keeps s (onBay n s f).state := by
  unfold onBay
  split
  · exact Keeps.refl s
  · split
    · exact h _
    · exact Keeps.refl s

theorem keeps_onOutfall (n : Nat) (s : State) {f : Fin 4 → Answer} (h : ∀ x, Keeps s (f x).state) : Keeps s (onOutfall n s f).state := by
  unfold onOutfall
  split
  · exact Keeps.refl s
  · split
    · exact h _
    · exact Keeps.refl s

theorem keeps_onDevice (n : Nat) (s : State) {f : Fin 16 → Answer} (h : ∀ x, Keeps s (f x).state) : Keeps s (onDevice n s f).state := by
  unfold onDevice
  split
  · exact Keeps.refl s
  · split
    · exact h _
    · exact Keeps.refl s

theorem keeps_reportEmpty (b : Body Unit) (s : State) (r : ReplyBody) : Keeps s (reportEmpty b s r).state :=
  keeps_onFields b s fun _ => Keeps.refl s

/-- A write of the image that leaves the bay, device and rule records alone. -/
theorem keeps_writePlain {s : State} {i : Image} (hb : i.bays = s.image.bays) (hd : i.devices = s.image.devices)
    (hr : i.rules = s.image.rules) : Keeps s (writeImage i s) := keeps_of_checked (checked_writeImage hb hd hr)

theorem keeps_handleParamsSounding (b : Body SoundingParams) (s : State) : Keeps s (handleParamsSounding b s).state := by
  refine keeps_onFields b s fun _ => keeps_unlessRefused _ s fun _ => keeps_answerOk (keeps_of_checked ?_) _
  rw [checked_intervalsChanged]
  exact checked_writeImage rfl rfl rfl

theorem keeps_handleParamsDrain (b : Body DrainParams) (s : State) : Keeps s (handleParamsDrain b s).state := by
  refine keeps_onFields b s fun _ => keeps_unlessRefused _ s fun _ => keeps_answerOk (keeps_of_checked ?_) _
  rw [checked_slotGrant]
  exact checked_writeImage rfl rfl rfl

theorem keeps_handleParamsPlanner (b : Body Nat) (s : State) : Keeps s (handleParamsPlanner b s).state := by
  refine keeps_onFields b s fun _ => keeps_unlessRefused _ s fun _ => keeps_answerOk (keeps_of_checked ?_) _
  rw [checked_plannerTake]
  exact checked_writeImage rfl rfl rfl

theorem keeps_handleSetBay (b : Body BayFields) (s : State) : Keeps s (handleSetBay b s).state := by
  refine keeps_onFields b s fun f => ?_
  split
  · exact Keeps.refl s
  · refine keeps_unlessRefused _ s fun hn => keeps_applyBay _ (rising_bayRecord ?_) s
    simpa using ((firstRefusal_none ..).mp hn).1

theorem keeps_handleSetGauge (b : Body GaugeFields) (s : State) : Keeps s (handleSetGauge b s).state := by
  refine keeps_onFields b s fun f => ?_
  have henable (g : Fin 4) (was is : Bool) (u : State) : checked (gaugeEnableChanged g was is u) = checked u := by
    unfold gaugeEnableChanged
    split <;> simp [apply_ite checked]
  split
  · exact Keeps.refl s
  · exact keeps_unlessRefused _ s fun _ => (keeps_writePlain rfl rfl rfl).trans (keeps_of_checked (henable ..))

theorem keeps_handleSetRule (b : Body RuleFields) (s : State) : Keeps s (handleSetRule b s).state := by
  refine keeps_onFields b s fun f => ?_
  split
  · exact keeps_applyRule _ _ s
  · exact keeps_unlessRefused _ s fun _ => keeps_applyRule _ _ s
  · exact Keeps.refl s

theorem keeps_handleForecast (b : Body ForecastFields) (s : State) : Keeps s (handleForecast b s).state := by
  refine keeps_onFields b s fun f => ?_
  split
  · exact keeps_applyForecast _ _ s
  · exact keeps_unlessRefused _ s fun _ => keeps_applyForecast _ _ s
  · exact Keeps.refl s

theorem keeps_handleSetDevice (b : Body DeviceFields) (s : State) : Keeps s (handleSetDevice b s).state := by
  refine keeps_onFields b s fun f => ?_
  split
  · exact Keeps.refl s
  · next d _ =>
    split
    · exact keeps_unlessRefused _ s fun _ => keeps_applyDevice d (x := none) nofun s
    · split
      · exact Keeps.refl s
      · next r hr =>
        have haddress := addressInRange_deviceRecord? f
        rw [hr] at haddress
        exact keeps_unlessRefused _ s fun _ => keeps_applyDevice d haddress s

theorem keeps_handleSetTerminal (b : Body TerminalFields) (s : State) : Keeps s (handleSetTerminal b s).state := by
  have hdepart (t : Fin 12) (u : State) : checked (departFunction t u) = checked u := by
    unfold departFunction
    dsimp only
    split
    · rfl
    · rfl
    · split
      · exact checked_floatReleased ..
      · rfl
    · rfl
    · split
      · exact checked_worksStopReleased _
      · rfl
  have harrive (t : Fin 12) (r : TerminalRec) (u : State) : checked (arriveFunction t r u) = checked u := by
    unfold arriveFunction
    dsimp only
    split
    · rfl
    · rfl
    · split
      · exact checked_floatActivated ..
      · rfl
    · split
      · exact checked_startStuckDeadline ..
      · rfl
    · split
      · exact checked_worksStopAsserted _
      · rfl
  refine keeps_onFields b s fun f => ?_
  split
  · refine keeps_unlessRefused _ s fun _ => keeps_of_checked ?_
    exact (harrive ..).trans (hdepart ..)
  · exact Keeps.refl s

theorem keeps_handleSetMode (b : Body Nat) (s : State) : Keeps s (handleSetMode b s).state := by
  refine keeps_onFields b s fun n => keeps_of_checked ?_
  split
  · unfold handleAutomatic answerOk
    dsimp only
    split
    · exact checked_of_kept (kept_changeMode ..)
    · rfl
  · split
    · unfold handleMaintenance answerOk
      dsimp only
      split
      · rfl
      · exact checked_of_kept (kept_enterMaintenance s)
    · rfl

theorem keeps_handleSetClock (b : Body Nat) (s : State) : Keeps s (handleSetClock b s).state := by
  refine keeps_onFields b s fun t => keeps_unlessRefused _ s fun _ => keeps_of_checked ?_
  unfold answerOk setOffset
  dsimp only
  split <;> rfl

theorem keeps_handleSound (b : Body Nat) (s : State) : Keeps s (handleSound b s).state := by
  have hwaiting (w : Option SoundingEntry) : checked (soundBay.soundWaiting w s).state = checked s := by
    unfold soundBay.soundWaiting markUrgent
    split
    · split
      · rfl
      · exact (checked_engineTake _).trans rfl
    · rfl
  refine keeps_onFields b s fun n => keeps_onBay n s fun i => keeps_of_checked ?_
  unfold soundBay
  split
  · split
    · rfl
    · exact hwaiting _
  · exact hwaiting _

theorem keeps_handleGrant (b : Body GrantFields) (s : State) : Keeps s (handleGrant b s).state := by
  refine keeps_onFields b s fun _ => keeps_unlessRefused _ s fun _ => keeps_answerOk (keeps_of_checked ?_) _
  exact (checked_slotGrant _).trans (checked_withDrn ..)

theorem keeps_handleDrain (b : Body DrainFields) (s : State) : Keeps s (handleDrain b s).state := by
  have hafter (i : Fin 8) (u : State) : checked (afterOrderChange i u) = checked u := checked_of_kept (by simp [afterOrderChange])
  refine keeps_onFields b s fun f => ?_
  split
  · exact Keeps.refl s
  · refine keeps_unlessRefused _ s fun _ => keeps_of_checked ?_
    unfold drainBay
    split
    · exact (hafter ..).trans (checked_sitePlanner _)
    · split
      · exact hafter ..
      · exact hafter ..
      · exact hafter ..
      · exact hafter ..
      · rfl
      · rfl

theorem keeps_handleStopDrain (b : Body Nat) (s : State) : Keeps s (handleStopDrain b s).state := by
  refine keeps_onFields b s fun n => keeps_onBay n s fun i => ?_
  split
  · exact Keeps.refl s
  · split
    · exact Keeps.refl s
    · exact keeps_of_checked ((checked_plannerTake _).trans (checked_cancel ..))

theorem keeps_handleReshut (b : Body Nat) (s : State) : Keeps s (handleReshut b s).state := by
  refine keeps_onFields b s fun n => keeps_onBay n s fun i => ?_
  split
  · exact Keeps.refl s
  · split
    · exact keeps_of_checked (checked_of_kept (kept_putForOrder ..))
    · exact Keeps.refl s

theorem keeps_handleInhibit (b : Body InhibitFields) (s : State) : Keeps s (handleInhibit b s).state := by
  refine keeps_onFields b s fun f => ?_
  split
  · refine keeps_onBay f.bay s fun i => keeps_of_checked ?_
    unfold inhibitBay inhibitAnswer answerOk
    dsimp only
    split
    · exact checked_setInhibit ..
    · exact checked_plannerTake _
  · exact Keeps.refl s

/-- Every request keeps: the reports and the requests of the drain scheduler leave the checked part alone, and the others store records that
have been checked. -/
theorem keeps_handleRequest (r : Request) (s : State) : Keeps s (handleRequest r s).state := by
  cases r <;> unfold handleRequest
  case getStatus b => exact keeps_reportEmpty b s _
  case fetchNotices b => exact keeps_onFields b s fun _ => keeps_unlessRefused _ s fun _ => keeps_of_checked rfl
  case getClock b => exact keeps_reportEmpty b s _
  case setClock b => exact keeps_handleSetClock b s
  case restart b => exact keeps_onFields b s fun _ => Keeps.refl s
  case setParamsSounding b => exact keeps_handleParamsSounding b s
  case setParamsLevel b => exact keeps_onFields b s fun _ => keeps_unlessRefused _ s fun _ => keeps_writePlain rfl rfl rfl
  case setParamsRain b => exact keeps_onFields b s fun _ => keeps_unlessRefused _ s fun _ => keeps_writePlain rfl rfl rfl
  case setParamsDrain b => exact keeps_handleParamsDrain b s
  case setParamsPlanner b => exact keeps_handleParamsPlanner b s
  case setParamsActuator b => exact keeps_onFields b s fun _ => keeps_unlessRefused _ s fun _ => keeps_writePlain rfl rfl rfl
  case setParamsEmpty => exact Keeps.refl s
  case setParamsNoGroup => exact Keeps.refl s
  case setBay b => exact keeps_handleSetBay b s
  case setOutfall b =>
    refine keeps_onFields b s fun f => ?_
    split
    · exact Keeps.refl s
    · exact keeps_unlessRefused _ s fun _ => keeps_writePlain rfl rfl rfl
  case setMode b => exact keeps_handleSetMode b s
  case sound b => exact keeps_handleSound b s
  case getSounding b => exact keeps_reportEmpty b s _
  case getBay b => exact keeps_onFields b s fun n => keeps_onBay n s fun _ => Keeps.refl s
  case setGauge b => exact keeps_handleSetGauge b s
  case setRule b => exact keeps_handleSetRule b s
  case forecast b => exact keeps_handleForecast b s
  case getRain b => exact keeps_reportEmpty b s _
  case readRainMinutes b =>
    refine keeps_onFields b s fun n => ?_
    split
    · exact Keeps.refl s
    · dsimp only
      split <;> exact Keeps.refl s
  case getOutfall b => exact keeps_onFields b s fun n => keeps_onOutfall n s fun _ => Keeps.refl s
  case closePeriod b => exact keeps_onFields b s fun n => keeps_onOutfall n s fun _ => keeps_of_checked rfl
  case readSpills b => exact keeps_onFields b s fun _ => keeps_unlessRefused _ s fun _ => Keeps.refl s
  case releaseSpills b => exact keeps_onFields b s fun _ => keeps_of_checked (checked_transferTest _)
  case grant b => exact keeps_handleGrant b s
  case withdraw b => exact keeps_onFields b s fun _ => keeps_unlessRefused _ s fun _ => keeps_of_checked rfl
  case drain b => exact keeps_handleDrain b s
  case stopDrain b => exact keeps_handleStopDrain b s
  case reshut b => exact keeps_handleReshut b s
  case getCredits b => exact keeps_reportEmpty b s _
  case inhibitAuto b => exact keeps_handleInhibit b s
  case getPlanner b => exact keeps_reportEmpty b s _
  case setDevice b => exact keeps_handleSetDevice b s
  case clearDevice b =>
    refine keeps_onFields b s fun n => keeps_onDevice n s fun d => ?_
    split
    · exact Keeps.refl s
    · exact keeps_of_checked (checked_putDrive ..)
  case pollDevice b =>
    exact keeps_onFields b s fun n => keeps_onDevice n s fun d => keeps_of_checked (checked_putQuery ..)
  case getDevice b =>
    refine keeps_onFields b s fun n => ?_
    split <;> exact Keeps.refl s
  case setTerminal b => exact keeps_handleSetTerminal b s
  case setAlarmLine b =>
    refine keeps_onFields b s fun f => ?_
    split
    · exact keeps_unlessRefused _ s fun _ => keeps_writePlain rfl rfl rfl
    · exact Keeps.refl s
  case getTerminals b => exact keeps_reportEmpty b s _
  case unknownKind k => exact Keeps.refl s

end Sys2Proof.Machine

/-! PROOF. Every step keeps the site alert level at its sources and the records in range (R4, R72, R154). -/

namespace Sys2Proof.Machine

/-! ### The host line port -/

theorem keeps_takeRequest (msg : HostMessage) (s : State) : Keeps s (takeRequest msg s) :=
  (keeps_handleRequest msg.request s).trans (keeps_of_checked rfl)

theorem keeps_offer (msg : HostMessage) (s : State) : Keeps s (offer msg s) := by
  unfold offer
  split
  · exact keeps_takeRequest msg s
  · exact keeps_of_checked rfl
  · exact keeps_of_checked rfl

theorem keeps_replySent (s : State) : Keeps s (replySent s) := by
  unfold replySent
  split
  · exact Keeps.refl s
  · dsimp only
    split
    · exact keeps_of_checked rfl
    · split
      · exact keeps_of_checked rfl
      · exact (keeps_takeRequest _ _).after rfl

theorem keeps_receiveByte (s : State) (b : Byte) : Keeps s (receiveByte s b) := by
  have hreceiver (r : Receiver) : Keeps s (setReceiver r s) := keeps_of_checked rfl
  have hframe (got : List Byte) (u : State) : Keeps u (frameComplete got u) := by
    unfold frameComplete
    split
    · split
      · exact keeps_offer _ u
      · exact keeps_of_checked rfl
    · exact keeps_of_checked rfl
  unfold receiveByte
  split
  · split
    · exact hreceiver _
    · exact Keeps.refl s
  · unfold collect
    split
    · split
      · exact keeps_of_checked rfl
      · split
        · exact (hreceiver .hunting).trans (hframe _ _)
        · exact hreceiver _
    · exact Keeps.refl s

theorem keeps_receiveBytes (bs : List Byte) (s : State) : Keeps s (receiveBytes bs s) := Keeps.foldl keeps_receiveByte bs s

theorem keeps_discardPartial (s : State) : Keeps s (discardPartial s) := by
  unfold discardPartial
  split
  · exact Keeps.refl s
  · exact keeps_of_checked rfl

/-! ### Events of the terminals and of the forecast slots -/

theorem keeps_takeEdge (f : TerminalFunction) (active : Bool) (s : State) : Keeps s (takeEdge f active s) := by
  unfold takeEdge
  split
  · exact keeps_of_checked (checked_floatActivated ..)
  · exact keeps_of_checked (checked_floatReleased ..)
  · exact keeps_gaugeActiveEdge _ s
  · exact keeps_of_checked (checked_gaugeInactiveEdge ..)
  · exact keeps_of_checked (checked_worksStopAsserted s)
  · exact keeps_of_checked (checked_worksStopReleased s)
  all_goals exact Keeps.refl s

theorem keeps_debounced (t : Fin 12) (s : State) : Keeps s (debounced t s) := by
  unfold debounced
  split
  · exact Keeps.refl s
  · split
    · exact Keeps.refl s
    · exact (keeps_takeEdge _ _ (takeRawLevel t s)).after rfl

theorem keeps_slotStarts (i : Fin 4) (s : State) : Keeps s (slotStarts i s) := by
  unfold slotStarts
  split
  · exact (keeps_of_checked (checked_reachSecond ..)).trans (keeps_applyForecast ..)
  all_goals exact Keeps.refl s

theorem keeps_slotEnds (i : Fin 4) (s : State) : Keeps s (slotEnds i s) := by
  unfold slotEnds
  split
  · exact (keeps_of_checked (checked_reachSecond ..)).trans (keeps_applyForecast ..)
  all_goals exact Keeps.refl s

/-! ### Power -/

/-- With every rule disarmed or clear and every slot empty there is no source. -/
theorem alertFromSources_none {s : State} (hrules : ∀ r, (s.rain.rules.at_ r).state = .disarmed ∨ (s.rain.rules.at_ r).state = .clear)
    (hslots : s.rain.slots = Tab.all 4 .empty) : alertFromSources s = .none := by
  have hrule (r : Fin 8) : ruleLevel s r = .none := by
    unfold ruleLevel
    rcases hrules r with h | h <;> rw [h]
  simp [alertFromSources, hrule, hslots, slotLevel]
  decide

/-- The fall of power leaves the image, and no source of the alert level. -/
theorem losePower_leaves (s : State) : (losePower s).image = s.image ∧ (losePower s).rain =
    { gauges := Tab.all 4 GaugeVol.blank, rules := Tab.all 8 { state := .disarmed, holdUntil := none }, slots := Tab.all 4 .empty
      alert := .none, nextRoll := 0 } := by
  simp [losePower, loseVolatile]

theorem keeps_losePower {s u : State} (h : RecordsInRange s → RecordsInRange u) : Keeps s (losePower u) where
  alert _ := by
    obtain ⟨-, hrain⟩ := losePower_leaves u
    rw [AlertFollows, alertFromSources_none (fun r => .inl (by simp [hrain])) (by rw [hrain]), hrain]
  records hs := by
    obtain ⟨himage, -⟩ := losePower_leaves u
    exact (recordsInRange_congr (congrArg Image.bays himage) (congrArg Image.devices himage)).mpr (h hs)

/-- The records of a cold start are in range: no bay is enabled, and no device is configured (R190). -/
theorem recordsInRange_startRetention {s : State} (h : RecordsInRange s) : RecordsInRange (startRetention s) := by
  unfold startRetention
  dsimp only
  split
  · refine ⟨fun b hb => ?_, fun d r hd => ?_⟩
    · simp [State.bay, Image.afterCold, BayRec.cold] at hb
    · simp [Image.afterCold] at hd
  · exact h

/-- The start values leave the image; the rain watch takes its own (R77). -/
theorem startValues_leaves (s : State) : (startValues s).image = s.image ∧ (startValues s).rain.alert = .none
    ∧ (startValues s).rain.slots = Tab.all 4 .empty ∧ ∀ r, ∃ u, (startValues s).rain.rules.at_ r = startRule u r := by
  simp only [startValues, startRain, startLevels, startTerminals, State.withPort_fields, State.withAct_fields, State.withInhibit_fields,
    State.withDrn_fields, State.withSpill_fields, State.withSnd_fields, State.withMode_fields, State.withRain_fields, State.withLvl_fields,
    State.withTerm_fields, Tab.at_ofFn, true_and]
  exact fun r => ⟨_, rfl⟩

/-- After the first two steps of a start there is no source of the alert level (R77). -/
theorem keeps_startValues (s : State) : Keeps s (startValues (startRetention s)) := by
  obtain ⟨himage, halert, hslots, hrules⟩ := startValues_leaves (startRetention s)
  refine ⟨fun _ => ?_, fun h => ?_⟩
  · have hnone : alertFromSources (startValues (startRetention s)) = .none := by
      refine alertFromSources_none (fun r => ?_) hslots
      obtain ⟨u, hu⟩ := hrules r
      rw [hu, startRule]
      dsimp only
      split
      · exact .inl rfl
      · exact .inr rfl
    rw [AlertFollows, hnone, halert]
  · exact (recordsInRange_congr (congrArg Image.bays himage) (congrArg Image.devices himage)).mpr (recordsInRange_startRetention h)

theorem checked_closeOpenSpills (n : Nat) (s : State) : checked (closeOpenSpills n s) = checked s := by
  have hclose (c : EndCause) (t : Nat) (ks : List (Fin 4)) : checked (closeOpenSpills.closeFirst n s c t ks) = checked s := by
    unfold closeOpenSpills.closeFirst
    rw [checked_transferLoop, checked_foldl _ (fun u k => checked_closeSpill k t c true u)]
  unfold closeOpenSpills
  split
  · rfl
  · exact hclose ..
  · exact hclose ..

theorem keeps_makeStart (s : State) : Keeps s (makeStart s) := by
  refine (keeps_startValues s).trans (keeps_of_checked ?_)
  have hentries (u : State) : checked (startEntries u) = checked u := checked_foldl _ (fun _ _ => checked_queueEntry ..) _ u
  have hsweep (u : State) : checked (startSweep u) = checked u := rfl
  have hposted (u : State) : checked (postStarted u) = checked u := rfl
  unfold makeStart
  dsimp only
  rw [checked_engineTake, checked_lineTake, checked_withRun, checked_refreshAlarms, hentries, hsweep, checked_closeOpenSpills, hposted]

theorem keeps_startFails (f : StartFall) (s : State) : Keeps s (startFails f s) := by
  have hwrites : Keeps s (startWrites f.writes s) := by
    unfold startWrites
    split
    · exact Keeps.refl s
    · refine (keeps_startValues s).trans (keeps_of_checked ?_)
      exact (checked_closeOpenSpills f.writes _).trans rfl
  exact keeps_losePower (hwrites.trans (keeps_of_checked (checked_advance f.elapsed ((startWrites f.writes s).withRun .running)))).records

theorem keeps_startWhereDue (f : Option StartFall) (s : State) : Keeps s (startWhereDue f s) := by
  unfold startWhereDue
  split
  · exact Keeps.refl s
  · split
    · exact keeps_makeStart s
    · exact keeps_startFails _ s

theorem keeps_mainFalls (s : State) : Keeps s (mainFalls s) := by
  unfold mainFalls
  split
  · exact Keeps.refl s
  · exact keeps_losePower id

theorem keeps_backupFalls (s : State) : Keeps s (backupFalls s) := by
  unfold backupFalls
  dsimp only
  split <;> exact keeps_of_checked rfl

/-! ### Every command -/

/-- A command that answers a state computed from the moment's arrival keeps where the computation does. -/
theorem keeps_arrived {s t : State} (m : Moment) {f : State → State} (hf : ∀ u, Keeps u (f u))
    (ht : Host.Outcome.next (f (arrive m s)) = (.next t : Step)) : Keeps s t := by
  cases ht
  exact (keeps_of_checked (checked_arrive m s)).trans (hf _)

/-- A command that takes effect while the part runs keeps where its effect does. -/
theorem keeps_whileRunning {s t : State} {m : Moment} {f : State → State} (hf : ∀ u, Keeps u (f u))
    (ht : whileRunning m f s = .next t) : Keeps s t := by
  refine keeps_arrived m (f := fun u => if u.run = .running then refreshAlarms (f u) else u) (fun u => ?_) ht
  split
  · exact (hf u).trans (keeps_of_checked rfl)
  · exact Keeps.refl u

/-- A command whose effect leaves the checked part alone. -/
theorem keeps_whileRunning_checked {s t : State} {m : Moment} {f : State → State} (hf : ∀ u, checked (f u) = checked u)
    (ht : whileRunning m f s = .next t) : Keeps s t := keeps_whileRunning (fun u => keeps_of_checked (hf u)) ht

theorem keeps_hostRequest {s t : State} {m : Moment} {q : Byte} {r : Request} (ht : hostRequest m q r s = .next t) : Keeps s t :=
  keeps_whileRunning (keeps_offer _) ht

theorem keeps_execHostFrameGap {s t : State} {m : Moment} {bytes : List Byte} {ending : Byte}
    (ht : execHostFrameGap m bytes ending s = .next t) : Keeps s t :=
  keeps_whileRunning (fun u => ((keeps_receiveBytes bytes u).trans (keeps_discardPartial _)).trans (keeps_receiveByte _ ending)) ht

theorem keeps_execHostLineBreak {s t : State} {m : Moment} {bytes : List Byte} (ht : execHostLineBreak m bytes s = .next t) : Keeps s t :=
  keeps_whileRunning (fun u => (keeps_receiveBytes bytes u).trans (keeps_discardPartial _)) ht

theorem keeps_execChargeDeadlineExpired {s t : State} {m : Moment} (ht : execChargeDeadlineExpired m s = .next t) : Keeps s t :=
  keeps_whileRunning_checked (checked_inPhase fun f _ => (checked_chargeExpires f _).trans (checked_reachFast ..)) ht

theorem keeps_execDriveStuck {s t : State} {m : Moment} (ht : execDriveStuck m s = .next t) : Keeps s t :=
  keeps_whileRunning_checked (checked_inPhase fun f u => checked_finish f _ _ _ _ u) ht

theorem keeps_execEchoCrossing {s t : State} {m : Moment} {tof : Nat} (ht : execEchoCrossing m tof s = .next t) : Keeps s t :=
  keeps_whileRunning_checked (checked_inPhase fun f _ => (checked_echoCrosses tof f _).trans (checked_reachFast ..)) ht

theorem keeps_execListenWindowEnd {s t : State} {m : Moment} (ht : execListenWindowEnd m s = .next t) : Keeps s t :=
  keeps_whileRunning_checked (checked_inPhase fun f _ => (checked_finish f _ _ _ _ _).trans (checked_reachFast ..)) ht

theorem keeps_execBlockEndReached {s t : State} {m : Moment} {k : Fin 4} (ht : execBlockEndReached m k s = .next t) : Keeps s t :=
  keeps_whileRunning_checked (fun _ => (checked_blockEndReached k _).trans (checked_reachSecond ..)) ht

theorem keeps_execMinuteRoll {s t : State} {m : Moment} (ht : execMinuteRoll m s = .next t) : Keeps s t :=
  keeps_whileRunning (fun u => (keeps_of_checked (checked_reachSecond u.rain.nextRoll u)).trans (keeps_minuteRoll _)) ht

/-- Every command keeps: a request by what it leaves, an event of the running part by its effect, a power event by its start values. -/
theorem keeps_exec {s t : State} (c : Instr) (ht : exec c s = .next t) : Keeps s t := by
  cases c
  case hostFrameComplete m bytes => exact keeps_whileRunning (keeps_receiveBytes bytes) ht
  case hostLengthOver240 m bytes => exact keeps_whileRunning (keeps_receiveBytes bytes) ht
  case hostFrameGap m bytes ending => exact keeps_execHostFrameGap ht
  case hostLineBreak m bytes => exact keeps_execHostLineBreak ht
  case replySent m => exact keeps_whileRunning keeps_replySent ht
  case soundingDue m b => exact keeps_whileRunning_checked (checked_dueReached b) ht
  case soundingBackoffPassed m b => exact keeps_whileRunning_checked (checked_backoffPassed b) ht
  case supplyReady m => exact keeps_whileRunning_checked checked_supplyReports ht
  case chargeDeadlineExpired m => exact keeps_execChargeDeadlineExpired ht
  case driveStuck m => exact keeps_execDriveStuck ht
  case burstEnd m n => exact keeps_whileRunning_checked (checked_inPhase (checked_burstEnds n)) ht
  case echoCrossing m tof => exact keeps_execEchoCrossing ht
  case listenWindowEnd m => exact keeps_execListenWindowEnd ht
  case soundingGateComplete m n => exact keeps_whileRunning_checked (checked_inPhase (checked_gateCompletes n)) ht
  case soundingGateTimeout m => exact keeps_whileRunning_checked (checked_inPhase checked_gateFailed) ht
  case tailDeadline m k => exact keeps_whileRunning_checked (checked_tailDeadlineReached k) ht
  case blockEndReached m k => exact keeps_execBlockEndReached ht
  case debounceComplete m x => exact keeps_whileRunning (keeps_debounced x) ht
  case gaugeStuckDeadline m g => exact keeps_whileRunning_checked (checked_stuckDeadlineReached g) ht
  case minuteRoll m => exact keeps_execMinuteRoll ht
  case forecastSlotStart m i => exact keeps_whileRunning (keeps_slotStarts i) ht
  case forecastSlotEnd m i => exact keeps_whileRunning (keeps_slotEnds i) ht
  case grantExpiry m => exact keeps_whileRunning_checked checked_expiryReached ht
  case lotDeadline m b => exact keeps_whileRunning_checked (checked_lotDeadlineReached b) ht
  case actuatorReply m bytes => exact keeps_whileRunning_checked (checked_frameArrives bytes) ht
  case actuatorResponseTimeout m => exact keeps_whileRunning_checked checked_responseTimesOut ht
  case actuatorNakBackoffPassed m d => exact keeps_whileRunning_checked (checked_nakBackoffPassed d) ht
  case devicePollDue m d => exact keeps_whileRunning_checked (checked_pollReached d) ht
  case movementDeadline m d => exact keeps_whileRunning_checked (checked_movementDeadlineReached d) ht
  case mainPowerFail m => exact keeps_arrived m keeps_mainFalls ht
  case backupSupplyLoss m => exact keeps_arrived m keeps_backupFalls ht
  case start e => exact keeps_arrived e.moment (keeps_startWhereDue e.fall) ht
  case backupSupplyReturn m => exact keeps_arrived m (f := (·.withBackup true)) (fun _ => keeps_of_checked rfl) ht
  all_goals exact keeps_hostRequest ht

/-- Settles O9: with no command waiting the state stays, and the command at the front keeps on the state with the queue's rest, which has the
same records and the same alert level. -/
theorem everyStepKeepsAlertAndRecords : Obligations.EveryStepKeepsAlertAndRecords := by
  intro s t ht
  have hkeeps : Keeps s t := by
    unfold step at ht
    split at ht
    · cases ht
      exact Keeps.refl s
    · exact (keeps_exec _ ht).after rfl
  exact ⟨hkeeps.alert, hkeeps.records⟩

end Sys2Proof.Machine

/-! PROOF. SET_GAUGE (R58, R59). -/

namespace Sys2Proof.Machine

theorem handleSetGauge_outside {f : GaugeFields} (h : 4 ≤ f.gauge) (s : State) :
    handleSetGauge (.fields f) s = refuse .refusedRange s := by
  rw [handleSetGauge, onFields_fields, index?_of_le h]

/-- SET_GAUGE with an index in range: the two refusals in their order, and the record with its effect (R58, R59). -/
theorem handleSetGauge_inside {f : GaugeFields} {g : Fin 4} (hg : f.gauge = g.val) (s : State) :
    handleSetGauge (.fields f) s = if gaugeFieldsValid f = false then refuse .refusedRange s
      else if (f.enabled == 0 && namedByRule s g) = true then refuse .refusedState s
      else answerOk .empty (gaugeEnableChanged g (s.image.gauges.at_ g).enabled (f.enabled == 1)
        (writeImage { s.image with gauges := s.image.gauges.put g (gaugeRecord f) } s)) := by
  rw [handleSetGauge, onFields_fields, hg, index?_val]
  simp [gaugeRecord]

/-- Valid fields enable the gauge or disable it. -/
theorem enabled_of_gaugeFieldsValid {f : GaugeFields} (h : gaugeFieldsValid f = true) : f.enabled = 0 ∨ f.enabled = 1 := by
  have hrange : f.enabled ≤ 1 := by simp only [gaugeFieldsValid, Bool.and_eq_true, inRange_iff] at h; exact h.1.1.1.2
  omega

/-- The volatile state with which a gauge of a record begins at a second, as its input is active or not (R59). -/
def gaugeBegins (second stuck : Nat) (active : Bool) : GaugeVol :=
  { stuck := false, history := List.replicate 60 0, minuteStart := second, total := 0, lastTip := none
    stuckDeadline := if active then some { due := second + stuck, time := stuck } else none }

/-- The input of a gauge's terminal is told by the terminals alone. -/
theorem gaugeInputActive_congr {s t : State} (hterminals : t.image.terminals = s.image.terminals)
    (hlevels : t.term.debounced = s.term.debounced) (g : Fin 4) : gaugeInputActive t g = gaugeInputActive s g := by
  simp only [gaugeInputActive, terminalOf, inputActive, hterminals, hlevels]

@[simp] theorem rain_setGauge (g : Fin 4) (v : GaugeVol) (s : State) :
    (s.setGauge g v).rain = { s.rain with gauges := s.rain.gauges.put g v } := rfl

@[simp] theorem setGauge_setGauge (g : Fin 4) (v w : GaugeVol) (s : State) : (s.setGauge g v).setGauge g w = s.setGauge g w := by
  simp [State.setGauge, State.withRain]

/-- An enabled gauge is given a stuck deadline on the stuck time of its record (R62). -/
theorem startStuckDeadline_enabled {g : Fin 4} {s : State} (h : (s.image.gauges.at_ g).enabled = true) :
    startStuckDeadline g s = s.setGauge g { s.rain.gauges.at_ g with stuckDeadline := some (stuckDeadlineFrom s g) } := if_pos h

theorem startStuckDeadline_disabled {g : Fin 4} {s : State} (h : (s.image.gauges.at_ g).enabled = false) : startStuckDeadline g s = s := by
  simp [startStuckDeadline, h]

/-- A gauge that becomes enabled begins anew, with a stuck deadline where its input is active (R59). -/
theorem gaugeEnableChanged_enabled {g : Fin 4} {s : State} (h : (s.image.gauges.at_ g).enabled = true) :
    gaugeEnableChanged g false true s = s.setGauge g (gaugeBegins s.now (s.image.gauges.at_ g).stuck (gaugeInputActive s g)) := by
  have hinput : gaugeInputActive (s.setGauge g (GaugeVol.enabledAt s.now)) g = gaugeInputActive s g := gaugeInputActive_congr rfl rfl g
  rw [gaugeEnableChanged]
  simp only [hinput]
  cases gaugeInputActive s g with
  | true =>
    rw [if_pos rfl, startStuckDeadline_enabled (s := s.setGauge g (GaugeVol.enabledAt s.now)) h, setGauge_setGauge]
    simp only [rain_setGauge, Tab.at_put]
    rfl
  | false => rfl

/-- Settles O31: the two checks in their order, and a case for each of the enable changes. -/
theorem setGaugeTakesTheRecord : Obligations.SetGaugeTakesTheRecord := by
  intro m q f s hfree a
  have himage : a.image = s.image := (laterOf_arrive m s).image
  have hused (g : Fin 4) : namedByRule a g = namedByRule s g := by simp only [namedByRule, himage]
  have hrange (hr : handleSetGauge (.fields f) a = refuse .refusedRange a) :
      exec (.setGauge m q (.fields f)) s = .next (answered q 0xA0#8 .refusedRange .empty a) :=
    hostRequest_refused (r := .setGauge (.fields f)) hfree hr (by decide) (by decide)
  refine ⟨fun hout => ?outside, fun g hg hvalid => ?inside⟩
  case outside =>
    rcases Nat.lt_or_ge f.gauge 4 with hlt | hge
    · refine hrange ?_
      rw [handleSetGauge_inside (g := ⟨f.gauge, hlt⟩) rfl, if_pos (hout.resolve_left (by omega))]
    · exact hrange (handleSetGauge_outside hge a)
  case inside =>
    intro r w zero
    have hrec : gaugeRecord f = r := rfl
    have hhandle := handleSetGauge_inside hg a
    rw [hvalid, if_neg (by decide), hused g, himage, hrec] at hhandle
    have haccepted {t : State} (hr : handleSetGauge (.fields f) a = answerOk .empty t) :
        exec (.setGauge m q (.fields f)) s = .next (answered q 0xA0#8 .ok .empty t) :=
      hostRequest_ok (r := .setGauge (.fields f)) hfree hr rfl rfl
    refine ⟨fun ⟨h0, hnamed⟩ => ?inUse, fun ⟨h0, hnamed⟩ hwas => haccepted ?emptied, fun ⟨h0, hnamed⟩ hwas => haccepted ?stays,
      fun h1 hwas => haccepted ?keeps, fun h1 hwas => haccepted ?begins⟩
    case inUse =>
      rw [hnamed, h0] at hhandle
      exact hostRequest_refused (r := .setGauge (.fields f)) hfree hhandle (by decide) (by decide)
    case emptied => rw [hhandle, hnamed, h0, hwas]; rfl
    case stays => rw [hhandle, hnamed, h0, hwas]; rfl
    case keeps => rw [hhandle, h1, hwas]; rfl
    case begins =>
      have hnew : (w.image.gauges.at_ g) = r := by simp [w, writeImage]
      have henabled : (w.image.gauges.at_ g).enabled = true := by rw [hnew]; simp [r, h1]
      have hinput : gaugeInputActive w g = gaugeInputActive s g := by
        have hlevels : w.term.debounced = s.term.debounced := by simp [w, a, writeImage]
        exact gaugeInputActive_congr (s := s) (t := w) rfl hlevels g
      have hbegins := gaugeEnableChanged_enabled henabled
      rw [hnew, hinput] at hbegins
      rw [hhandle, h1, hwas]
      exact congrArg (answerOk .empty) hbegins

end Sys2Proof.Machine

/-! PROOF. SET_RULE (R65, R66). -/

namespace Sys2Proof.Machine

/-! ### The request -/

theorem alert_ofCode?_of_lt {n : Nat} (h : 3 < n) : Alert.ofCode? n = none := by
  unfold Alert.ofCode?
  split
  case h_5 => rfl
  all_goals omega

theorem handleSetRule_outside {f : RuleFields} (h : 8 ≤ f.rule ∨ 3 < f.level) (s : State) :
    handleSetRule (.fields f) s = refuse .refusedRange s := by
  rw [handleSetRule, onFields_fields]
  rcases h with hrule | hlevel
  · rw [index?_of_le hrule]
  · rw [alert_ofCode?_of_lt hlevel]
    cases index? 8 f.rule <;> rfl

/-- The level NONE disarms a rule, whatever the other fields hold (R65). -/
theorem handleSetRule_disarms {f : RuleFields} {r : Fin 8} (hr : f.rule = r.val) (hl : f.level = 0) (s : State) :
    handleSetRule (.fields f) s = answerOk .empty (applyRule r RuleRec.disarmed s) := by
  rw [handleSetRule, onFields_fields, hr, index?_val, hl]
  rfl

/-- An armed record: the two refusals in their order, and the record with its effect (R65, R66). -/
theorem handleSetRule_arms {f : RuleFields} {r : Fin 8} {l : Alert} (hr : f.rule = r.val) (hl : Alert.ofCode? f.level = some l)
    (hne : l ≠ .none) (s : State) :
    handleSetRule (.fields f) s = if ruleFieldsValid f = false then refuse .refusedRange s
      else if gaugeMissing s (ruleRecord f l) = true then refuse .refusedUnconfigured s
      else answerOk .empty (applyRule r (ruleRecord f l) s) := by
  have hchecks : handleSetRule (.fields f) s
      = unlessRefused [(!ruleFieldsValid f, .refusedRange), (gaugeMissing s (ruleRecord f l), .refusedUnconfigured)] s
          (answerOk .empty (applyRule r (ruleRecord f l) s)) := by
    rw [handleSetRule, onFields_fields, hr, index?_val, hl]
    cases l with
    | none => exact absurd rfl hne
    | advisory => rfl
    | warning => rfl
    | severe => rfl
  rw [hchecks]
  simp

/-! ### Its effect -/

/-- A rule that takes a state with its record, before the site alert level is recomputed. -/
def ruleStored (r : Fin 8) (k : RuleRec) (x : RuleVol) (s : State) : State :=
  (writeImage { s.image with rules := s.image.rules.put r k } s).withRain { s.rain with rules := s.rain.rules.put r x }

theorem applyRule_eq (r : Fin 8) (k : RuleRec) (s : State) : applyRule r k s
    = recomputeAlert .rule r.val (ruleStored r k { state := if k.level = .none then .disarmed else .clear, holdUntil := none } s) := rfl

/-- What a SET_RULE that is answered OK leaves: the record, the cleared COLD, the rule, and the site alert level of the sources. -/
theorem answered_ruleStored (q kind : Byte) (r : Fin 8) (k : RuleRec) (x : RuleVol) (s : State) :
    let t := answered q kind .ok .empty (recomputeAlert .rule r.val (ruleStored r k x s))
    t.image = { s.image with rules := s.image.rules.put r k } ∧ t.ret = { s.ret with cold := false }
      ∧ t.rain = { s.rain with rules := s.rain.rules.put r x, alert := alertFromSources t } := by
  intro t
  have halert : alertFromSources t = alertFromSources (ruleStored r k x s) := by
    apply alertFromSources_congr <;> simp [t]
  rw [halert]
  simp [t, ruleStored, writeImage]

/-- Settles O32: a record is stored and its rule starts again, disarmed by the level NONE and clear by any other. -/
theorem setRuleTakesTheRecord : Obligations.SetRuleTakesTheRecord := by
  intro m q f s hfree a told stored
  have hlater : LaterOf s a := laterOf_arrive m s
  have hrefused {res : Result} (hr : handleSetRule (.fields f) a = refuse res a) (hok : res ≠ .ok) (hacc : res ≠ .accepted) :
      exec (.setRule m q (.fields f)) s = .next (answered q 0xA1#8 res .empty a) :=
    hostRequest_refused (r := .setRule (.fields f)) hfree hr hok hacc
  have hstored (r : Fin 8) (k : RuleRec) (x : RuleVol) : ruleStored r k x a = stored r k x := by
    rw [ruleStored, hlater.image, hlater.rain]; rfl
  have haccepted (r : Fin 8) (k : RuleRec) (x : RuleVol)
      (hr : handleSetRule (.fields f) a = answerOk .empty (recomputeAlert .rule r.val (ruleStored r k x a))) :
      ∃ t, exec (.setRule m q (.fields f)) s = .next t ∧ Replies t q 0xA1#8 .ok .empty
        ∧ t.image = { s.image with rules := s.image.rules.put r k } ∧ t.ret = { a.ret with cold := false }
        ∧ t.rain = { s.rain with rules := s.rain.rules.put r x, alert := alertFromSources t }
        ∧ t = answered q 0xA1#8 .ok .empty (told r (stored r k x)) := by
    obtain ⟨himage, hret, hrain⟩ := answered_ruleStored q 0xA1#8 r k x a
    rw [hlater.image] at himage
    rw [hlater.rain] at hrain
    refine ⟨_, hostRequest_ok (r := .setRule (.fields f)) hfree hr rfl rfl, replies_answered _ _ _ _ _, himage, hret, hrain, ?_⟩
    rw [hstored, recomputeAlert_eq]
    rfl
  have hmissing (k : RuleRec) : gaugeMissing a k = gaugeMissing s k := by simp only [gaugeMissing, hlater.image]
  refine ⟨fun hout => hrefused (handleSetRule_outside hout a) (by decide) (by decide), fun r hr hl => ?disarms, fun r l hr hl hne => ?arms⟩
  case disarms => exact haccepted r _ _ (handleSetRule_disarms hr hl a)
  case arms =>
    have hhandle := handleSetRule_arms hr hl hne a
    rw [hmissing] at hhandle
    refine ⟨fun hvalid => ?outOfRange, fun hvalid hgone => ?gaugeGone, fun hvalid hthere => ?armed⟩
    case outOfRange => exact hrefused (hhandle.trans (if_pos hvalid)) (by decide) (by decide)
    case gaugeGone =>
      rw [hvalid, hgone] at hhandle
      exact hrefused hhandle (by decide) (by decide)
    case armed =>
      rw [hvalid, hthere, applyRule_eq, show (ruleRecord f l).level = l from rfl, if_neg hne] at hhandle
      exact haccepted r _ _ hhandle

end Sys2Proof.Machine

/-! PROOF. Forecast slots (R70 to R72). -/

namespace Sys2Proof.Machine

/-! ### The highest source (R72) -/

theorem rank_le_higher_left (a b : Alert) : a.rank ≤ (Alert.higher a b).rank := by
  unfold Alert.higher
  split <;> omega

theorem rank_le_higher_right (a b : Alert) : b.rank ≤ (Alert.higher a b).rank := by
  unfold Alert.higher
  split <;> omega

theorem higher_eq_or (a b : Alert) : Alert.higher a b = a ∨ Alert.higher a b = b := by
  unfold Alert.higher
  split
  · exact Or.inr rfl
  · exact Or.inl rfl

section Fold
variable {ι : Type} (level : ι → Alert)

/-- The highest of a level and of those that a list contributes. -/
def highest (l : List ι) (a : Alert) : Alert := l.foldl (fun x i => x.higher (level i)) a

theorem highest_cons (i : ι) (l : List ι) (a : Alert) : highest level (i :: l) a = highest level l (a.higher (level i)) := rfl

theorem rank_le_highest_start (l : List ι) (a : Alert) : a.rank ≤ (highest level l a).rank := by
  induction l generalizing a with
  | nil => exact Nat.le_refl _
  | cons i l ih => exact (rank_le_higher_left a (level i)).trans (ih _)

theorem rank_le_highest {i : ι} {l : List ι} (hi : i ∈ l) (a : Alert) : (level i).rank ≤ (highest level l a).rank := by
  induction l generalizing a with
  | nil => cases hi
  | cons j l ih =>
    rw [highest_cons]
    rcases List.mem_cons.mp hi with rfl | htail
    · exact (rank_le_higher_right a (level i)).trans (rank_le_highest_start level l _)
    · exact ih htail _

/-- The highest level is the one at the start, or one that is contributed. -/
theorem highest_eq_or (l : List ι) (a : Alert) : highest level l a = a ∨ ∃ i, highest level l a = level i := by
  induction l generalizing a with
  | nil => exact Or.inl rfl
  | cons i l ih =>
    rw [highest_cons]
    rcases ih (a.higher (level i)) with hstart | hsome
    · rw [hstart]
      exact (higher_eq_or a (level i)).imp_right fun h => ⟨i, h⟩
    · exact Or.inr hsome

end Fold

theorem alertFromSources_eq_highest (s : State) : alertFromSources s
    = highest (fun i => slotLevel (s.rain.slots.at_ i)) allSlots (highest (ruleLevel s) allRules .none) := rfl

theorem mem_allRules (r : Fin 8) : r ∈ allRules := by revert r; decide
theorem mem_allSlots (i : Fin 4) : i ∈ allSlots := by revert i; decide

/-- A level is a source: that of a rule in RAISED or FADING, or that of a slot in ACTIVE (R72). -/
def IsSource (s : State) (l : Alert) : Prop :=
  (∃ r : Fin 8, (s.image.rules.at_ r).level = l ∧ ((s.rain.rules.at_ r).state = .raised ∨ (s.rain.rules.at_ r).state = .fading))
    ∨ ∃ i : Fin 4, ∃ start finish, s.rain.slots.at_ i = .active l start finish

theorem ruleLevel_of_standing {s : State} {r : Fin 8} (h : (s.rain.rules.at_ r).state = .raised ∨ (s.rain.rules.at_ r).state = .fading) :
    ruleLevel s r = (s.image.rules.at_ r).level := by
  unfold ruleLevel
  rcases h with h | h <;> rw [h]

theorem isSource_ruleLevel (s : State) (r : Fin 8) : ruleLevel s r = .none ∨ IsSource s (ruleLevel s r) := by
  cases h : (s.rain.rules.at_ r).state with
  | disarmed => exact Or.inl (by rw [ruleLevel, h])
  | clear => exact Or.inl (by rw [ruleLevel, h])
  | raised => exact Or.inr (Or.inl ⟨r, (ruleLevel_of_standing (Or.inl h)).symm, Or.inl h⟩)
  | fading => exact Or.inr (Or.inl ⟨r, (ruleLevel_of_standing (Or.inr h)).symm, Or.inr h⟩)

theorem isSource_slotLevel (s : State) (i : Fin 4) :
    slotLevel (s.rain.slots.at_ i) = .none ∨ IsSource s (slotLevel (s.rain.slots.at_ i)) := by
  cases h : s.rain.slots.at_ i with
  | empty => exact Or.inl rfl
  | pending l a e => exact Or.inl rfl
  | active l a e => exact Or.inr (Or.inr ⟨i, a, e, h⟩)

theorem rank_le_of_isSource {s : State} {l : Alert} (h : IsSource s l) : l.rank ≤ (alertFromSources s).rank := by
  rw [alertFromSources_eq_highest]
  rcases h with ⟨r, hlevel, hstanding⟩ | ⟨i, start, finish, hslot⟩
  · have hrule := rank_le_highest (ruleLevel s) (mem_allRules r) .none
    rw [ruleLevel_of_standing hstanding, hlevel] at hrule
    exact hrule.trans (rank_le_highest_start _ _ _)
  · have hactive := rank_le_highest (fun i => slotLevel (s.rain.slots.at_ i)) (mem_allSlots i) (highest (ruleLevel s) allRules .none)
    rwa [hslot] at hactive

theorem none_or_isSource (s : State) : alertFromSources s = .none ∨ IsSource s (alertFromSources s) := by
  rw [alertFromSources_eq_highest]
  rcases highest_eq_or (fun i => slotLevel (s.rain.slots.at_ i)) allSlots (highest (ruleLevel s) allRules .none) with hrules | ⟨i, hslot⟩
  · rw [hrules]
    rcases highest_eq_or (ruleLevel s) allRules .none with hnone | ⟨r, hrule⟩
    · exact Or.inl hnone
    · rw [hrule]
      exact isSource_ruleLevel s r
  · rw [hslot]
    exact isSource_slotLevel s i

/-! ### A slot takes new contents -/

theorem follows_recomputeAlert {r s : State} (h : Follows r s) (c : AlertCause) (i : Nat) : Follows r (recomputeAlert c i s) := by
  rw [recomputeAlert_eq]
  split
  · exact h
  · exact follows_sitePlanner (h.same rfl rfl)

/-- From `s`, of which `u` is the later moment, to `t` a slot has taken contents: the site alert level is that of the sources, and no other
slot, no rule, no gauge and no record has changed. -/
def SlotTaken (s u t : State) (i : Fin 4) (f : ForecastSlot) : Prop :=
  t.rain = { s.rain with slots := s.rain.slots.put i f, alert := alertFromSources t } ∧ t.image = s.image ∧ t.ret = u.ret
    ∧ t.lvl = s.lvl ∧ t.spill = s.spill ∧ t.inhibit = s.inhibit ∧ t.act.devices = s.act.devices ∧ ∀ d, LastFollows s t d (s.last d)

/-- The port and the terminals do not matter. -/
theorem SlotTaken.congr {s u v t : State} {i : Fin 4} {f : ForecastSlot} (h : SlotTaken s u v i f) (hrain : t.rain = v.rain)
    (himage : t.image = v.image) (hret : t.ret = v.ret) (hlvl : t.lvl = v.lvl) (hspill : t.spill = v.spill)
    (hinhibit : t.inhibit = v.inhibit) (hact : t.act = v.act) : SlotTaken s u t i f := by
  have halert : alertFromSources t = alertFromSources v :=
    alertFromSources_congr (congrArg _ himage) (congrArg _ hrain) (congrArg _ hrain)
  have hlast (d : Fin 16) : t.last d = v.last d := congrArg (·.lasts.at_ d) hact
  have hnow : t.now = v.now := congrArg Retained.seconds hret
  simpa only [SlotTaken, LastFollows, hrain, himage, hret, hlvl, hspill, hinhibit, hact, halert, hlast, hnow] using h

theorem SlotTaken.answered {s u v : State} {i : Fin 4} {f : ForecastSlot} (h : SlotTaken s u v i f) (q kind : Byte) (res : Result)
    (body : ReplyBody) : SlotTaken s u (answered q kind res body v) i f := by
  apply h.congr <;> rfl

theorem SlotTaken.refreshed {s u v : State} {i : Fin 4} {f : ForecastSlot} (h : SlotTaken s u v i f) :
    SlotTaken s u (refreshAlarms v) i f := by
  apply h.congr <;> rfl

theorem slotTaken_applyForecast {s u : State} (hlater : LaterOf s u) (hinhibit : u.inhibit = s.inhibit) (i : Fin 4) (f : ForecastSlot) :
    SlotTaken s u (applyForecast i f u) i f := by
  have hkept := kept_recomputeAlert .slot i.val (u.withRain { u.rain with slots := u.rain.slots.put i f })
  have hput : Follows u (u.withRain { u.rain with slots := u.rain.slots.put i f }) := (Follows.refl u).same rfl rfl
  have hfollows : Follows u (applyForecast i f u) := follows_recomputeAlert hput _ _
  refine ⟨?rain, (congrArg Kept.image hkept).trans hlater.image, congrArg Kept.ret hkept, (congrArg Kept.lvl hkept).trans hlater.lvl,
    (congrArg Kept.spill hkept).trans hlater.spill, (congrArg Kept.inhibit hkept).trans hinhibit,
    (congrArg Kept.devices hkept).trans (congrArg Actuator.devices hlater.act), fun d => (hlater.lastFollows_iff d).mpr (hfollows.last d)⟩
  case rain => simp [applyForecast, hlater.rain]

/-! ### FORECAST (R70) -/

theorem handleForecast_outside {f : ForecastFields} (h : 4 ≤ f.slot ∨ 3 < f.level) (s : State) :
    handleForecast (.fields f) s = refuse .refusedRange s := by
  rw [handleForecast, onFields_fields]
  rcases h with hslot | hlevel
  · rw [index?_of_le hslot]
  · rw [alert_ofCode?_of_lt hlevel]
    cases index? 4 f.slot <;> rfl

/-- The level NONE empties a slot, whatever the other fields hold. -/
theorem handleForecast_empties {f : ForecastFields} {i : Fin 4} (hi : f.slot = i.val) (hl : f.level = 0) (s : State) :
    handleForecast (.fields f) s = answerOk .empty (applyForecast i .empty s) := by
  rw [handleForecast, onFields_fields, hi, index?_val, hl]
  rfl

/-- The delay and the duration of a forecast are in range. -/
def forecastTimesValid (f : ForecastFields) : Bool := inRange 0 1440 f.delay && inRange 1 2880 f.duration

theorem forecastTimesValid_iff {f : ForecastFields} :
    forecastTimesValid f = true ↔ f.delay ≤ 1440 ∧ 1 ≤ f.duration ∧ f.duration ≤ 2880 := by
  simp [forecastTimesValid, inRange_iff]

/-- A forecast of a level gives its slot contents, where its times are in range. -/
theorem handleForecast_fills {f : ForecastFields} {i : Fin 4} {l : Alert} (hi : f.slot = i.val) (hl : Alert.ofCode? f.level = some l)
    (hne : l ≠ .none) (s : State) :
    handleForecast (.fields f) s = if forecastTimesValid f = true
      then answerOk .empty (applyForecast i (forecastContents s.now l f.delay f.duration) s) else refuse .refusedRange s := by
  have hcheck : handleForecast (.fields f) s = unlessRefused [(!forecastTimesValid f, .refusedRange)] s
      (answerOk .empty (applyForecast i (forecastContents s.now l f.delay f.duration) s)) := by
    rw [handleForecast, onFields_fields, hi, index?_val, hl]
    cases l with
    | none => exact absurd rfl hne
    | advisory => rfl
    | warning => rfl
    | severe => rfl
  rw [hcheck]
  cases forecastTimesValid f <;> rfl

/-! ### A slot's times (R71) -/

theorem slotStarts_of_pending {i : Fin 4} {l : Alert} {start finish : Nat} {s : State}
    (h : s.rain.slots.at_ i = .pending l start finish) :
    slotStarts i s = applyForecast i (.active l start finish) (reachSecond start s) := by
  rw [slotStarts, h]

theorem slotEnds_of_active {i : Fin 4} {l : Alert} {start finish : Nat} {s : State} (h : s.rain.slots.at_ i = .active l start finish) :
    slotEnds i s = applyForecast i .empty (reachSecond finish s) := by
  rw [slotEnds, h]

theorem laterOf_reachSecond (n : Nat) (m : Moment) (s : State) : LaterOf s (reachSecond n (arrive m s)) := by constructor <;> simp

/-- Settles O38: a request or a time gives one slot its contents, and the site alert level is recomputed. -/
theorem forecastSlotsFollowTheirTimes : Obligations.ForecastSlotsFollowTheirTimes := by
  intro m s a source told becomes
  have hlater : LaterOf s a := laterOf_arrive m s
  have htold {u : State} (h : LaterOf s u) (i : Fin 4) (f : ForecastSlot) : applyForecast i f u = told i f u := by
    rw [applyForecast, recomputeAlert_eq, h.rain]
  have htaken {u : State} (h : LaterOf s u) (hinhibit : u.inhibit = s.inhibit) (i : Fin 4) (f : ForecastSlot) :
      SlotTaken s u (told i f u) i f := htold h i f ▸ slotTaken_applyForecast h hinhibit i f
  refine ⟨fun l hl => rank_le_of_isSource hl, none_or_isSource s, fun hfree q => ?requests, fun hrun i => ?times⟩
  case requests =>
    have hrefused (b : Body ForecastFields) {res : Result} (hr : handleForecast b a = refuse res a) (hok : res ≠ .ok)
        (hacc : res ≠ .accepted) : exec (.forecast m q b) s = .next (answered q 0xA2#8 res .empty a) :=
      hostRequest_refused (r := .forecast b) hfree hr hok hacc
    have haccepted {f : ForecastFields} {i : Fin 4} {x : ForecastSlot}
        (hr : handleForecast (.fields f) a = answerOk .empty (applyForecast i x a)) :
        ∃ t, exec (.forecast m q (.fields f)) s = .next t ∧ Replies t q 0xA2#8 .ok .empty ∧ becomes i x a t
          ∧ t = answered q 0xA2#8 .ok .empty (told i x a) := by
      rw [htold hlater] at hr
      have hok : exec (.forecast m q (.fields f)) s = .next (answered q 0xA2#8 .ok .empty (told i x a)) :=
        hostRequest_ok (r := .forecast (.fields f)) hfree hr rfl rfl
      exact ⟨_, hok, replies_answered _ _ _ _ _, (htaken hlater (by simp [a]) i x).answered q 0xA2#8 .ok .empty, rfl⟩
    refine ⟨hrefused .wrongLength rfl (by decide) (by decide), fun i f hi hl => haccepted (handleForecast_empties hi hl a),
      fun i f l hi hl hne => ⟨fun hdelay hmin hmax => ?fills, fun hout => ?outOfRange⟩,
      fun f hout => hrefused _ (handleForecast_outside hout a) (by decide) (by decide)⟩
    case fills =>
      exact haccepted ((handleForecast_fills hi hl hne a).trans (if_pos (forecastTimesValid_iff.mpr ⟨hdelay, hmin, hmax⟩)))
    case outOfRange =>
      have hinvalid : ¬ forecastTimesValid f = true := fun h => by rw [forecastTimesValid_iff] at h; omega
      exact hrefused _ ((handleForecast_fills hi hl hne a).trans (if_neg hinvalid)) (by decide) (by decide)
  case times =>
    have hreached (n : Nat) (x : ForecastSlot) : becomes i x (reachSecond n a) (refreshAlarms (told i x (reachSecond n a))) :=
      (htaken (laterOf_reachSecond n m s) (by simp) i x).refreshed
    refine ⟨fun l start finish hslot => ⟨_, ?starts, hreached start _, rfl⟩, fun l start finish hslot => ⟨_, ?ends, hreached finish _, rfl⟩⟩
    case starts =>
      rw [← htold (laterOf_reachSecond start m s), ← slotStarts_of_pending (by rwa [hlater.rain])]
      exact whileRunning_running m (slotStarts i) s hrun
    case ends =>
      rw [← htold (laterOf_reachSecond finish m s), ← slotEnds_of_active (by rwa [hlater.rain])]
      exact whileRunning_running m (slotEnds i) s hrun

end Sys2Proof.Machine

/-! PROOF. The evaluation of an alert rule (R64, R67, R68). -/

namespace Sys2Proof.Machine

/-- The rule is CLEAR or FADING: it raises where its depth reaches the raise depth (R67, R68). -/
theorem evaluateDepth_raises {r : Fin 8} {d : Nat} {s : State} (hd : (s.image.rules.at_ r).raise ≤ d)
    (hv : (s.rain.rules.at_ r).state = .clear ∨ (s.rain.rules.at_ r).state = .fading) : evaluateDepth r d s = raiseRule r s := by
  rw [evaluateDepth, if_pos hd]
  rcases hv with hv | hv <;> rw [hv]

/-- A rule that is already RAISED keeps what it has at the raise depth. -/
theorem evaluateDepth_raised {r : Fin 8} {d : Nat} {s : State} (hd : (s.image.rules.at_ r).raise ≤ d)
    (hv : (s.rain.rules.at_ r).state = .raised) : evaluateDepth r d s = s := by
  rw [evaluateDepth, if_pos hd, hv]

/-- Between the clear depth and the raise depth nothing happens. -/
theorem evaluateDepth_between {r : Fin 8} {d : Nat} {s : State} (hraise : d < (s.image.rules.at_ r).raise)
    (hclear : (s.image.rules.at_ r).clear ≤ d) : evaluateDepth r d s = s := by
  rw [evaluateDepth, if_neg (by omega), if_neg (by omega)]

section BelowClear
variable {r : Fin 8} {d : Nat} {s : State}

theorem evaluateDepth_fades (hraise : d < (s.image.rules.at_ r).raise) (hclear : d < (s.image.rules.at_ r).clear)
    (hv : (s.rain.rules.at_ r).state = .raised) : evaluateDepth r d s = enterRule r { s.rain.rules.at_ r with state := .fading } s := by
  rw [evaluateDepth, if_neg (by omega), if_pos hclear, hv]

theorem evaluateDepth_clear (hraise : d < (s.image.rules.at_ r).raise) (hclear : d < (s.image.rules.at_ r).clear)
    (hv : (s.rain.rules.at_ r).state = .clear) : evaluateDepth r d s = s := by
  rw [evaluateDepth, if_neg (by omega), if_pos hclear, hv]

/-- A FADING rule clears from its hold-until time on (R68). -/
theorem evaluateDepth_fading {h : Nat} (hraise : d < (s.image.rules.at_ r).raise) (hclear : d < (s.image.rules.at_ r).clear)
    (hv : (s.rain.rules.at_ r).state = .fading) (hh : (s.rain.rules.at_ r).holdUntil = some h) :
    evaluateDepth r d s = if h ≤ s.now then enterRule r { s.rain.rules.at_ r with state := .clear } s else s := by
  rw [evaluateDepth, if_neg (by omega), if_pos hclear, hv]
  simp only [hh, Option.getD_some]

end BelowClear

/-- A rule that is armed and sees a depth is evaluated by it. -/
theorem evaluateFull_eq {r : Fin 8} {d : Nat} {s : State} (hlevel : (s.image.rules.at_ r).level ≠ .none)
    (hd : combinedDepth s (s.image.rules.at_ r) = some d) : evaluateFull s r = evaluateDepth r d s := by
  rw [evaluateFull, if_neg hlevel, hd]

/-- A rule that is disarmed or blind is left alone (R69). -/
theorem evaluateFull_unseeing {r : Fin 8} {s : State}
    (h : (s.image.rules.at_ r).level = .none ∨ combinedDepth s (s.image.rules.at_ r) = none) : evaluateFull s r = s := by
  rw [evaluateFull]
  split
  · rfl
  · next hlevel => rw [h.resolve_left hlevel]

/-- A rule that is disarmed or blind, or that the tipping gauge is none of, is left alone at a tip. -/
theorem evaluateRaising_unseeing {g : Fin 4} {r : Fin 8} {s : State}
    (h : (s.image.rules.at_ r).level = .none ∨ combinedDepth s (s.image.rules.at_ r) = none ∨ g ∉ (s.image.rules.at_ r).gauges) :
    evaluateRaising g s r = s := by
  rw [evaluateRaising]
  split
  · next hseen =>
    obtain ⟨hlevel, hgauge⟩ := hseen
    have hblind := (h.resolve_left hlevel).resolve_right (not_not_intro hgauge)
    rw [hblind]
  · rfl

/-- A rule that looks at the tipping gauge: the raising half of the table. -/
theorem evaluateRaising_eq {g : Fin 4} {r : Fin 8} {d : Nat} {s : State} (hlevel : (s.image.rules.at_ r).level ≠ .none)
    (hg : g ∈ (s.image.rules.at_ r).gauges) (hd : combinedDepth s (s.image.rules.at_ r) = some d) :
    evaluateRaising g s r = if (s.image.rules.at_ r).raise ≤ d then evaluateDepth r d s else s := by
  rw [evaluateRaising, if_pos ⟨hlevel, hg⟩, hd]
  by_cases hdeep : (s.image.rules.at_ r).raise ≤ d
  · rw [if_pos hdeep, evaluateDepth, if_pos hdeep]
    exact if_pos hdeep
  · rw [if_neg hdeep]
    exact if_neg hdeep

/-- The rule that takes a state has it. -/
theorem rule_enterRule (r : Fin 8) (x : RuleVol) (s : State) : (enterRule r x s).rain.rules.at_ r = x := by
  simp [enterRule]

/-- Settles O39: a case for each entry of the two tables. -/
theorem ruleEvaluationFollowsTheTables : Obligations.RuleEvaluationFollowsTheTables := by
  intro r s k v raised rolled told
  have htold (x : RuleVol) : enterRule r x s = told x := by rw [enterRule, recomputeAlert_eq]
  have hraise : raiseRule r s = enterRule r raised s := rfl
  refine ⟨evaluateFull_unseeing, fun g => evaluateRaising_unseeing, fun d hlevel hd => ?_⟩
  have hfull : evaluateFull s r = evaluateDepth r d s := evaluateFull_eq hlevel hd
  have htakes {x : RuleVol} (h : evaluateFull s r = enterRule r x s) : rolled = x ∧ evaluateFull s r = told x :=
    ⟨(congrArg (·.rain.rules.at_ r) h).trans (rule_enterRule r x s), h.trans (htold x)⟩
  refine ⟨fun hdeep hv => ?raises, fun hdeep hv => ?raisedStays, fun hshallow hkeeps => ?between, fun hshallow hclear hv => ?fades,
    fun hshallow hclear hv => ?clearStays, fun h hshallow hclear hv hh => ⟨fun hover => ?clears, fun hwaits => ?holds⟩,
    fun g hg => ⟨fun hdeep hv => ?tipRaises, fun hstays => ?tipStays⟩⟩
  case raises => exact htakes (hfull.trans (evaluateDepth_raises hdeep hv))
  case raisedStays => exact hfull.trans (evaluateDepth_raised hdeep hv)
  case between => exact hfull.trans (evaluateDepth_between hshallow hkeeps)
  case fades =>
    obtain ⟨hrolled, hall⟩ := htakes (hfull.trans (evaluateDepth_fades hshallow hclear hv))
    exact ⟨congrArg RuleVol.state hrolled, by rw [hrolled], hall⟩
  case clearStays => exact hfull.trans (evaluateDepth_clear hshallow hclear hv)
  case clears =>
    obtain ⟨hrolled, hall⟩ := htakes ((hfull.trans (evaluateDepth_fading hshallow hclear hv hh)).trans (if_pos hover))
    exact ⟨congrArg RuleVol.state hrolled, hall⟩
  case holds => exact (hfull.trans (evaluateDepth_fading hshallow hclear hv hh)).trans (if_neg (by omega))
  case tipRaises =>
    have htip : evaluateRaising g s r = enterRule r raised s := by
      rw [evaluateRaising_eq hlevel hg hd, if_pos hdeep, evaluateDepth_raises hdeep hv, hraise]
    exact ⟨(congrArg (·.rain.rules.at_ r) htip).trans (rule_enterRule r raised s), htip.trans (htold raised)⟩
  case tipStays =>
    rw [evaluateRaising_eq hlevel hg hd]
    rcases hstays with hshallow | hv
    · exact if_neg (Nat.not_le.mpr hshallow)
    · exact ite_eq_right_iff.mpr fun hdeep => evaluateDepth_raised hdeep hv

end Sys2Proof.Machine

/-! PROOF. Tips, stuck gauges and minute rolls (R60 to R64). -/

namespace Sys2Proof.Machine

/-! ### What the evaluation of the rules leaves alone -/

/-- What the evaluation of a rule never touches: the records, the retained contents, the gauges, the slots and the next roll. -/
structure UnderRules where
  image : Image
  ret : Retained
  gauges : Tab 4 GaugeVol
  slots : Tab 4 ForecastSlot
  nextRoll : Nat

/-- The part of a state under its rules. -/
def underRules (s : State) : UnderRules :=
  { image := s.image, ret := s.ret, gauges := s.rain.gauges, slots := s.rain.slots, nextRoll := s.rain.nextRoll }

section SameUnder
variable {s t : State} (h : underRules t = underRules s)
include h

theorem image_of_underRules : t.image = s.image := congrArg UnderRules.image h
theorem ret_of_underRules : t.ret = s.ret := congrArg UnderRules.ret h
theorem now_of_underRules : t.now = s.now := congrArg Retained.seconds (ret_of_underRules h)
theorem gauges_of_underRules : t.rain.gauges = s.rain.gauges := congrArg UnderRules.gauges h
theorem slots_of_underRules : t.rain.slots = s.rain.slots := congrArg UnderRules.slots h
theorem nextRoll_of_underRules : t.rain.nextRoll = s.rain.nextRoll := congrArg UnderRules.nextRoll h

end SameUnder

theorem underRules_foldl {α : Type} {f : State → α → State} (h : ∀ s a, underRules (f s a) = underRules s) (l : List α) (s : State) :
    underRules (l.foldl f s) = underRules s := by
  induction l generalizing s with
  | nil => rfl
  | cons a l ih => exact (ih _).trans (h s a)

theorem underRules_enterRule (r : Fin 8) (v : RuleVol) (s : State) : underRules (enterRule r v s) = underRules s := by
  simp [underRules, enterRule]

theorem underRules_raiseRule (r : Fin 8) (s : State) : underRules (raiseRule r s) = underRules s := underRules_enterRule r _ s

theorem underRules_evaluateDepth (r : Fin 8) (d : Nat) (s : State) : underRules (evaluateDepth r d s) = underRules s := by
  unfold evaluateDepth
  dsimp only
  repeat' split
  all_goals simp only [underRules_raiseRule, underRules_enterRule]

theorem underRules_evaluateFull (s : State) (r : Fin 8) : underRules (evaluateFull s r) = underRules s := by
  unfold evaluateFull
  repeat' split
  all_goals simp only [underRules_evaluateDepth]

theorem underRules_evaluateRaising (g : Fin 4) (s : State) (r : Fin 8) : underRules (evaluateRaising g s r) = underRules s := by
  unfold evaluateRaising
  dsimp only
  repeat' split
  all_goals simp only [underRules_raiseRule]

theorem allRules_eq : allRules = List.finRange 8 := by decide

/-! ### Edges (R61, R62) -/

/-- A level that is the debounced one is no edge (R179). -/
theorem debounced_same {t : Fin 12} {s : State} (h : s.term.pins.getLsbD t.val = s.term.debounced.getLsbD t.val) : debounced t s = s := by
  unfold debounced
  split
  · rfl
  · exact if_pos h

theorem usable_disabled {s : State} {g : Fin 4} (h : (s.image.gauges.at_ g).enabled = false) : usable s g = false := by
  simp [usable, gaugeState, h]

theorem enabled_of_usable {s : State} {g : Fin 4} (h : usable s g = true) : (s.image.gauges.at_ g).enabled = true := by
  by_contra hdisabled
  rw [usable_disabled (Bool.not_eq_true _ ▸ hdisabled)] at h
  cases h

/-- Whether a gauge is usable is told by the records and by the gauge. -/
theorem usable_congr {s t : State} (himage : t.image = s.image) (hrain : t.rain = s.rain) (g : Fin 4) : usable t g = usable s g := by
  have hterminal : terminalOf t (.gauge g) = terminalOf s (.gauge g) := by simp only [terminalOf, himage]
  simp only [usable, gaugeState, himage, hrain, hterminal]

/-- An active edge that is no tip starts a stuck deadline alone. -/
theorem gaugeActiveEdge_untipped {g : Fin 4} {s : State} (h : usable s g = false ∨ inDeadTime s g = true) :
    gaugeActiveEdge g s = startStuckDeadline g s := by
  rw [gaugeActiveEdge]
  rcases h with h | h <;> simp [h]

/-- A gauge with one more tip at a moment (R61). -/
def tipCounted (fast : Nat) (v : GaugeVol) : GaugeVol :=
  { v with history := addTip v.history, total := min 65535 (v.total + 1), lastTip := some fast }

/-- What a tip leaves: the gauge counts it, and the rules are evaluated for raising in index order (R61). -/
def tipped (g : Fin 4) (s : State) : State :=
  (List.finRange 8).foldl (evaluateRaising g)
    ((s.setGauge g (tipCounted s.clock.fast (s.rain.gauges.at_ g))).withRet { s.ret with lastRain := some s.now })

theorem takeTip_eq (g : Fin 4) (s : State) : takeTip g s = tipped g s := by
  rw [tipped, ← allRules_eq]; rfl

theorem underRules_tipped (g : Fin 4) (s : State) : underRules (tipped g s)
    = underRules ((s.setGauge g (tipCounted s.clock.fast (s.rain.gauges.at_ g))).withRet { s.ret with lastRain := some s.now }) :=
  underRules_foldl (underRules_evaluateRaising g) _ _

/-- An active edge of a usable gauge outside its dead time is a tip, and starts a stuck deadline. -/
theorem gaugeActiveEdge_tipped {g : Fin 4} {s : State} (husable : usable s g = true) (hdead : inDeadTime s g = false) :
    gaugeActiveEdge g s = (tipped g s).setGauge g { tipCounted s.clock.fast (s.rain.gauges.at_ g) with
      stuckDeadline := some (stuckDeadlineFrom s g) } := by
  have hunder := underRules_tipped g s
  have himage : (tipped g s).image = s.image := (image_of_underRules hunder).trans rfl
  have hnow : (tipped g s).now = s.now := (now_of_underRules hunder).trans rfl
  have hgauge : (tipped g s).rain.gauges.at_ g = tipCounted s.clock.fast (s.rain.gauges.at_ g) := by
    simp [gauges_of_underRules hunder]
  rw [gaugeActiveEdge, husable, hdead]
  simp only [Bool.not_false, Bool.and_self, if_true, takeTip_eq]
  rw [startStuckDeadline_enabled (by rw [himage]; exact enabled_of_usable husable), hgauge, stuckDeadlineFrom, himage, hnow]
  rfl

/-! ### Minute rolls (R63) -/

/-- A gauge after a roll: its history moves where it is enabled. -/
def gaugeRolled (second : Nat) (s : State) (g : Fin 4) : GaugeVol :=
  if (s.image.gauges.at_ g).enabled then rollGauge second (s.rain.gauges.at_ g) else s.rain.gauges.at_ g

theorem setGauge_gaugeRolled (second : Nat) (s : State) (g : Fin 4) :
    (if (s.image.gauges.at_ g).enabled then s.setGauge g (rollGauge second (s.rain.gauges.at_ g)) else s)
      = s.setGauge g (gaugeRolled second s g) := by
  unfold gaugeRolled
  split
  · rfl
  · simp only [State.setGauge, Tab.put_at]
    rfl

/-- Each gauge of a list without repetition rolls once, and nothing else changes. -/
theorem rolls_foldl (second : Nat) {l : List (Fin 4)} (hl : l.Nodup) (s : State) : ∃ moved : Tab 4 GaugeVol,
    l.foldl (fun s g => s.setGauge g (gaugeRolled second s g)) s = s.withRain { s.rain with gauges := moved }
      ∧ ∀ g, moved.at_ g = if g ∈ l then gaugeRolled second s g else s.rain.gauges.at_ g := by
  induction l generalizing s with
  | nil => exact ⟨s.rain.gauges, rfl, fun g => by simp⟩
  | cons i l ih =>
    obtain ⟨hi, hl⟩ := List.nodup_cons.mp hl
    obtain ⟨moved, hfold, hmoved⟩ := ih hl (s.setGauge i (gaugeRolled second s i))
    refine ⟨moved, hfold, fun g => ?_⟩
    have hput : (s.setGauge i (gaugeRolled second s i)).rain.gauges.at_ g
        = if i = g then gaugeRolled second s i else s.rain.gauges.at_ g := by
      rw [rain_setGauge, Tab.at_put]
    rw [hmoved g, gaugeRolled, hput]
    by_cases hg : i = g
    · subst hg
      simp [hi]
    · simp [hg, Ne.symm hg, gaugeRolled]

theorem rollHistories_eq (second : Nat) (s : State) : ∃ moved : Tab 4 GaugeVol,
    rollHistories second s = s.withRain { s.rain with gauges := moved } ∧ ∀ g, moved.at_ g = gaugeRolled second s g := by
  obtain ⟨moved, hfold, hmoved⟩ := rolls_foldl second (l := allGauges) (by decide) s
  have hall (g : Fin 4) : g ∈ allGauges := by revert g; decide
  refine ⟨moved, ?_, fun g => (hmoved g).trans (if_pos (hall g))⟩
  rw [← hfold, rollHistories]
  simp only [setGauge_gaugeRolled]

/-- A minute roll: the histories have moved, and the rules are then evaluated in full in index order (R63). -/
theorem minuteRoll_eq {s : State} {moved : Tab 4 GaugeVol}
    (h : rollHistories s.rain.nextRoll s = s.withRain { s.rain with gauges := moved }) : minuteRoll s
      = (List.finRange 8).foldl evaluateFull (s.withRain { s.rain with gauges := moved, nextRoll := s.rain.nextRoll + 60 }) := by
  rw [minuteRoll, h, ← allRules_eq]
  rfl

/-! ### Stuck gauges (R62) -/

/-- The deadline of a gauge with a terminal is reached: the notice carries the stuck time that the deadline was given. -/
theorem stuckDeadlineReached_eq {g : Fin 4} {t : Fin 12} {d : StuckDeadline} {s : State} (hd : (s.rain.gauges.at_ g).stuckDeadline = some d)
    (ht : terminalOf s (.gauge g) = some t) : stuckDeadlineReached g s = post g.val (.rainGaugeStuck t.val d.time)
      ((reachSecond d.due s).setGauge g { s.rain.gauges.at_ g with stuck := true, stuckDeadline := none }) := by
  have hterminal : terminalOf (reachSecond d.due s) (.gauge g) = some t := by simpa [terminalOf] using ht
  have hrain : (reachSecond d.due s).rain = s.rain := by simp
  rw [stuckDeadlineReached, hd]
  simp only [becomeStuck, hterminal, hrain]

/-! ### The three commands -/

/-- Settles O40: each edge of a gauge's terminal, the stuck deadline and the minute roll. -/
theorem tipsAndRollsAreCounted : Obligations.TipsAndRollsAreCounted := by
  intro m s hrun a
  have hlater : LaterOf s a := laterOf_arrive m s
  refine ⟨fun t g hf => ?edges, fun g t d hd ht => ?deadline, ?roll⟩
  case edges =>
    intro v k u
    have hedge {active : Bool} (hpin : m.pins.getLsbD t.val ≠ s.term.debounced.getLsbD t.val) (hactive : inputActive u t = active) :
        exec (.debounceComplete m t) s = .next (refreshAlarms (takeEdge (.gauge g) active u)) :=
      execDebounce_edge hrun hpin hf (by simp) hactive
    have hlateru : LaterOf s u := laterOf_takeRawLevel t m s
    have husable : usable u g = usable s g := usable_congr hlateru.image hlateru.rain g
    have hfrom : stuckDeadlineFrom u g = { due := a.now + k.stuck, time := k.stuck } := by
      rw [stuckDeadlineFrom, hlateru.image]
      rfl
    refine ⟨fun hsame => ?same, fun hpin => ⟨fun hoff => ?inactive, fun hon henabled hno => ?untipped, fun hon hdisabled => ?disabled,
      fun hon hready hdead => ?tip⟩⟩
    case same =>
      have hterm : a.term = { s.term with pins := m.pins } := by simp [a]
      have hstays : debounced t a = a := debounced_same (by simpa only [hterm] using hsame)
      rw [← congrArg refreshAlarms hstays]
      exact whileRunning_running m (debounced t) s hrun
    case inactive =>
      rw [hedge hpin hoff, takeEdge, gaugeInactiveEdge, hlateru.rain]
    case untipped =>
      rw [hedge hpin hon, takeEdge, gaugeActiveEdge_untipped (husable ▸ hno), 
        startStuckDeadline_enabled (by rwa [hlateru.image]), hfrom, hlateru.rain]
    case disabled =>
      have hoff : (u.image.gauges.at_ g).enabled = false := by rwa [hlateru.image]
      rw [hedge hpin hon, takeEdge, gaugeActiveEdge_untipped (Or.inl (usable_disabled hoff)), startStuckDeadline_disabled hoff]
    case tip =>
      intro counted w x
      have hw : tipped g u = w := by
        rw [tipped, hlateru.rain]
        rfl
      have hunder := underRules_tipped g u
      rw [hw] at hunder
      clear_value w
      have hx : exec (.debounceComplete m t) s = .next x := by
        rw [hedge hpin hon, takeEdge, gaugeActiveEdge_tipped (s := u) (husable ▸ hready) hdead, hw, hfrom, hlateru.rain]
        rfl
      have hret : w.ret = { a.ret with lastRain := some a.now } := (ret_of_underRules hunder).trans rfl
      have himage : w.image = s.image := (image_of_underRules hunder).trans hlateru.image
      refine ⟨hx, hret, himage, fun h hh => ?_⟩
      have hwithout : x.rain.gauges.at_ h = w.rain.gauges.at_ h := (Tab.at_put _ _ _ _).trans (if_neg hh.symm)
      rw [hwithout, gauges_of_underRules hunder]
      simp [hh.symm, hlateru.rain]
  case deadline =>
    intro u
    have hterminal : terminalOf a (.gauge g) = some t := by simpa only [terminalOf, hlater.image] using ht
    have hreached := stuckDeadlineReached_eq (s := a) (by rwa [hlater.rain]) hterminal
    rw [hlater.rain] at hreached
    rw [← hreached]
    exact whileRunning_running m (stuckDeadlineReached g) s hrun
  case roll =>
    have hlaterb : LaterOf s (reachSecond s.rain.nextRoll a) := laterOf_reachSecond _ m s
    generalize hb : reachSecond s.rain.nextRoll a = b at hlaterb ⊢
    obtain ⟨moved, hrolls, hmoved⟩ := rollHistories_eq b.rain.nextRoll b
    have hroll := minuteRoll_eq hrolls
    have hexec : exec (.minuteRoll m) s = .next (refreshAlarms (minuteRoll b)) := by
      rw [← hb, ← hlater.rain]
      exact whileRunning_running m (fun s => minuteRoll (reachSecond s.rain.nextRoll s)) s hrun
    rw [hroll, hlaterb.rain] at hexec
    rw [hlaterb.rain] at hmoved
    have hunder := underRules_foldl underRules_evaluateFull (List.finRange 8)
      (b.withRain { s.rain with gauges := moved, nextRoll := s.rain.nextRoll + 60 })
    refine ⟨moved, fun g => ?_, ?_⟩
    · rw [hmoved, gaugeRolled, hlaterb.image, hlaterb.rain]
      rfl
    · generalize List.foldl evaluateFull _ (List.finRange 8) = w at hexec hunder ⊢
      exact ⟨_, hexec, nextRoll_of_underRules hunder, gauges_of_underRules hunder, (image_of_underRules hunder).trans hlaterb.image,
        (ret_of_underRules hunder).trans rfl, (slots_of_underRules hunder).trans rfl, rfl⟩

end Sys2Proof.Machine

/-! PROOF. CLOSE_PERIOD (R92). -/

namespace Sys2Proof.Machine

/-- Settles O42: the request is refused by its length, its index or its outfall, and is answered otherwise by the one write of R92. -/
theorem closePeriodMovesTheSet : Obligations.ClosePeriodMovesTheSet := by
  intro m q s hfree a
  have hcounts : a.ret.counts = s.ret.counts := by simp [a]
  refine ⟨?wrongLength, fun n hn => ?range, fun k => ⟨fun hk => ?unconfigured, fun hk => ?closed⟩⟩
  case wrongLength => exact hostRequest_refused (r := .closePeriod .wrongLength) hfree rfl (by decide) (by decide)
  case range => exact hostRequest_refused (r := .closePeriod (.fields n)) hfree (onOutfall_outside hn a _) (by decide) (by decide)
  case unconfigured =>
    have hnot : (a.outfall k).configured = false := by rwa [outfall_arrive]
    exact hostRequest_refused (r := .closePeriod (.fields k.val)) hfree (onOutfall_unconfigured hnot _) (by decide) (by decide)
  case closed =>
    have hconfigured : (a.outfall k).configured = true := by rwa [outfall_arrive]
    rw [← hcounts]
    exact hostRequest_ok (r := .closePeriod (.fields k.val)) hfree (onOutfall_configured hconfigured _) rfl rfl

end Sys2Proof.Machine

/-! PROOF. What a change of an outfall's open record leaves of the open spill, its id and its class (R78, R103, R105). -/

namespace Sys2Proof.Machine

/-! ### The open record (R78) -/

/-- The open record is read from the log and from the outfall's slot. -/
theorem openRecord_congr {s t : State} {k : Fin 4} (hlog : t.ret.log = s.ret.log) (hslot : t.ret.slots.at_ k = s.ret.slots.at_ k) :
    openRecord t k = openRecord s k := by
  unfold openRecord
  rw [hlog, hslot]

theorem openSpillOf_eq_bind (s : State) (k : Fin 4) : openSpillOf s k = (openRecord s k).bind fun p => p.2.openSpill := by
  unfold openSpillOf
  cases openRecord s k <;> rfl

theorem openId_eq_bind (s : State) (k : Fin 4) : openId s k = (openRecord s k).bind fun p => p.1 := by
  unfold openId
  cases openRecord s k <;> rfl

theorem spillIsDry_eq (s : State) (k : Fin 4) : spillIsDry s k = (openSpillOf s k).any fun o => o.cls == .dry := by
  unfold spillIsDry
  cases openSpillOf s k <;> rfl

theorem isOpenOf_iff (k : Fin 4) (r : SpillRecord) : r.isOpenOf k = true ↔ r.outfall = k ∧ r.openSpill.isSome = true := by
  simp [SpillRecord.isOpenOf, SpillRecord.isOpen]

/-- Where the log has no open record of an outfall, its slot holds the open record, if there is one. -/
theorem openRecord_of_noneOpen {s : State} {k : Fin 4} (h : ∀ e ∈ s.ret.log, e.record.isOpenOf k = false) :
    openRecord s k = (s.ret.slots.at_ k).bind fun r => if r.isOpen then some (none, r) else none := by
  have hnone : s.ret.log.find? (fun e => e.record.isOpenOf k) = none := by simpa using h
  unfold openRecord
  rw [hnone]
  cases s.ret.slots.at_ k <;> rfl

/-- A change of an outfall's open records changes nothing of a log that holds none. -/
theorem log_map_of_noneOpen {s : State} {k : Fin 4} (hnone : ∀ e ∈ s.ret.log, e.record.isOpenOf k = false)
    (f : SpillRecord → SpillRecord) : (s.ret.log.map fun e =>
      if e.record.outfall = k ∧ e.record.openSpill.isSome = true then { e with record := f e.record } else e) = s.ret.log := by
  refine (List.map_congr_left fun e he => ?_).trans (List.map_id _)
  exact if_neg (by rw [← isOpenOf_iff, hnone e he]; decide)

/-- A change of a record keeps its outfall, and acts on the open spill that it may hold. -/
def ActsOnSpill (f : SpillRecord → SpillRecord) (g : OpenSpill → OpenSpill) : Prop :=
  ∀ r, (f r).outfall = r.outfall ∧ (f r).openSpill = r.openSpill.map g

theorem ActsOnSpill.keepsOpen {f : SpillRecord → SpillRecord} {g : OpenSpill → OpenSpill} (h : ActsOnSpill f g) (r : SpillRecord) :
    (f r).outfall = r.outfall ∧ (f r).openSpill.isSome = r.openSpill.isSome :=
  ⟨(h r).1, by simp [(h r).2]⟩

/-! ### Under a change -/

section Changes
variable {s t : State} {k : Fin 4} {f : SpillRecord → SpillRecord} {g : OpenSpill → OpenSpill}

/-- The open record after a change is the one before, changed, in the same place. -/
theorem openRecord_of_changes (h : OpenRecordChanges s t k f) (hf : ActsOnSpill f g) :
    openRecord t k = (openRecord s k).map fun p => (p.1, f p.2) := by
  obtain ⟨hlog, hslots, -⟩ := h
  have hfind : t.ret.log.find? (fun e => e.record.isOpenOf k)
      = (s.ret.log.find? fun e => e.record.isOpenOf k).map fun e => { e with record := f e.record } := by
    simp only [← isOpenOf_iff] at hlog
    have hstays : (fun e : LogEntry => e.record.isOpenOf k)
        ∘ (fun e => if e.record.isOpenOf k = true then { e with record := f e.record } else e) = fun e => e.record.isOpenOf k := by
      funext e
      by_cases he : e.record.isOpenOf k = true
      · have hfe : (f e.record).isOpenOf k = true := by
          rw [isOpenOf_iff, (hf.keepsOpen e.record).1, (hf.keepsOpen e.record).2, ← isOpenOf_iff]
          exact he
        simp [he, hfe]
      · simp [he]
    rw [hlog, List.find?_map, hstays]
    cases hs : s.ret.log.find? fun e => e.record.isOpenOf k with
    | none => rfl
    | some e =>
      have he := List.find?_some hs
      simp only [Option.map_some, if_pos he]
  unfold openRecord
  rw [hfind, hslots k]
  cases s.ret.log.find? fun e => e.record.isOpenOf k with
  | some e => rfl
  | none =>
    cases s.ret.slots.at_ k with
    | none => rfl
    | some r => cases hr : r.openSpill <;> simp [SpillRecord.isOpen, hr, (hf r).2]

theorem openSpillOf_of_changes (h : OpenRecordChanges s t k f) (hf : ActsOnSpill f g) :
    openSpillOf t k = (openSpillOf s k).map g := by
  simp only [openSpillOf_eq_bind, openRecord_of_changes h hf]
  cases openRecord s k with
  | none => rfl
  | some p => exact (hf p.2).2

theorem openId_of_changes (h : OpenRecordChanges s t k f) (hf : ActsOnSpill f g) : openId t k = openId s k := by
  simp only [openId_eq_bind, openRecord_of_changes h hf]
  cases openRecord s k <;> rfl

/-- The class of a spill is fixed at its start (R86). -/
theorem spillIsDry_of_changes (h : OpenRecordChanges s t k f) (hf : ActsOnSpill f g) (hcls : ∀ o, (g o).cls = o.cls) :
    spillIsDry t k = spillIsDry s k := by
  simp only [spillIsDry_eq, openSpillOf_of_changes h hf]
  cases openSpillOf s k with
  | none => rfl
  | some o => simp [hcls]

end Changes

/-! ### The changes of an acceptance and of a block (R79, R84, R85, R87) -/

/-- An open spill whose volume, peak head and blocks have moved. -/
def spillMoved (volume blocks : Nat → Nat) (head : Int) (o : OpenSpill) : OpenSpill :=
  { o with volume := volume o.volume, peak := max o.peak head.toNat, blocks := blocks o.blocks }

/-- A record whose open spill has moved so, and its own figures with it. -/
def recordMoved (volume blocks : Nat → Nat) (head : Int) (r : SpillRecord) : SpillRecord :=
  { r with volume := volume r.volume, peak := max r.peak head.toNat, blocks := blocks r.blocks
           openSpill := r.openSpill.map (spillMoved volume blocks head) }

theorem actsOnSpill_recordMoved (volume blocks : Nat → Nat) (head : Int) :
    ActsOnSpill (recordMoved volume blocks head) (spillMoved volume blocks head) := fun _ => ⟨rfl, rfl⟩

/-- The open spill of which a block has opened. -/
def spillBlocked (o : OpenSpill) : OpenSpill := { o with blocks := addHeld Config.max16 o.blocks 1 }

theorem actsOnSpill_addBlock : ActsOnSpill SpillRecord.addBlock spillBlocked := fun _ => ⟨rfl, rfl⟩

theorem actsOnSpill_addVolume (d : Nat) : ActsOnSpill (SpillRecord.addVolume d)
    fun o => { o with volume := addHeld Config.max32 o.volume d } := fun _ => ⟨rfl, rfl⟩

theorem actsOnSpill_setGap : ActsOnSpill SpillRecord.setGap fun o => { o with gap := true } := fun _ => ⟨rfl, rfl⟩

theorem raisePeak_eq_recordMoved (head : Int) : SpillRecord.raisePeak head = recordMoved (fun v => v) (fun n => n) head := rfl

theorem raisePeak_addVolume (d : Nat) (head : Int) : (fun r => SpillRecord.raisePeak head (SpillRecord.addVolume d r))
    = recordMoved (fun v => addHeld Config.max32 v d) (fun n => n) head := by
  funext r
  cases h : r.openSpill <;> simp [SpillRecord.raisePeak, SpillRecord.addVolume, recordMoved, spillMoved, h]

theorem addBlock_recordMoved (volume : Nat → Nat) (head : Int) :
    (fun r => SpillRecord.addBlock (recordMoved volume (fun n => n) head r))
      = recordMoved volume (fun n => addHeld Config.max16 n 1) head := by
  funext r
  cases h : r.openSpill <;> simp [SpillRecord.addBlock, recordMoved, spillMoved, h]

end Sys2Proof.Machine

/-! PROOF. Count blocks, losses of the level and tail deadlines (R82, R83, R87 to R90, R94, R95, R107). -/

namespace Sys2Proof.Machine

/-! ### Spill states, notices and the takers of a change -/

@[simp] theorem spillState_setOutfall (s : State) (k j : Fin 4) (v : OutfallVol) :
    (s.setOutfall k v).spillState j = if k = j then v.state else s.spillState j := by
  simp only [State.spillState, State.setOutfall, State.withSpill_fields, Tab.at_put, apply_ite OutfallVol.state]

@[simp] theorem spillState_enterSpillState (s : State) (k j : Fin 4) (x : SpillState) :
    (enterSpillState k x s).spillState j = if k = j then x else s.spillState j :=
  spillState_setOutfall s k j _

/-- What a notice leaves of the port is told by the port, the clock flag and the offset. -/
theorem port_postAt_congr {s t : State} (hport : t.port = s.port) (hset : t.ret.clockSet = s.ret.clockSet)
    (hoffset : t.ret.offset = s.ret.offset) (time i : Nat) (d : NoticeDetail) : (postAt time i d t).port = (postAt time i d s).port := by
  simp [postAt, written, siteTime, hport, hset, hoffset]

/-- The takers of an outfall's change leave the spill states, the image and the retained contents alone. -/
theorem outfallChanged_fields (k : Fin 4) (s : State) :
    (outfallChanged k s).spill = s.spill ∧ (outfallChanged k s).image = s.image ∧ (outfallChanged k s).ret = s.ret := by
  have hkept : kept (outfallChanged k s) = kept s := by simp [outfallChanged]
  exact ⟨congrArg Kept.spill hkept, congrArg Kept.image hkept, congrArg Kept.ret hkept⟩

theorem openSpillOf_congr {s t : State} {k : Fin 4} (hlog : t.ret.log = s.ret.log) (hslots : t.ret.slots = s.ret.slots) :
    openSpillOf t k = openSpillOf s k := by
  rw [openSpillOf_eq_bind, openSpillOf_eq_bind, openRecord_congr hlog (congrArg (·.at_ k) hslots)]

theorem openId_congr {s t : State} {k : Fin 4} (hlog : t.ret.log = s.ret.log) (hslots : t.ret.slots = s.ret.slots) :
    openId t k = openId s k := by
  rw [openId_eq_bind, openId_eq_bind, openRecord_congr hlog (congrArg (·.at_ k) hslots)]

theorem spillIsDry_congr {s t : State} {k : Fin 4} (hlog : t.ret.log = s.ret.log) (hslots : t.ret.slots = s.ret.slots) :
    spillIsDry t k = spillIsDry s k := by
  rw [spillIsDry_eq, spillIsDry_eq, openSpillOf_congr hlog hslots]

/-- `u` is `s` at another moment: nothing that the spill accountant works on has changed. -/
structure SameAccounts (s u : State) : Prop where
  log : u.ret.log = s.ret.log
  slots : u.ret.slots = s.ret.slots
  nextId : u.ret.nextId = s.ret.nextId
  counts : u.ret.counts = s.ret.counts
  clockSet : u.ret.clockSet = s.ret.clockSet
  offset : u.ret.offset = s.ret.offset
  image : u.image = s.image
  spill : u.spill = s.spill
  port : u.port = s.port

theorem sameAccounts_reachSecond (n : Nat) (m : Moment) (s : State) : SameAccounts s (reachSecond n (arrive m s)) := by
  constructor <;> simp

theorem SameAccounts.port_postAt {s u : State} (h : SameAccounts s u) (time i : Nat) (d : NoticeDetail) :
    (postAt time i d u).port = (postAt time i d s).port := port_postAt_congr h.port h.clockSet h.offset time i d

/-! ### Count blocks (R87 to R89, R94) -/

/-- The counts of an outfall once a block has opened at a second. -/
def blockCounted (s : State) (k : Fin 4) (start : Nat) : OutfallCounts :=
  { s.ret.counts.at_ k with
    blockEnd := start + blockLength s k
    current := { (s.ret.counts.at_ k).current with
      blocks := addHeld Config.max32 (s.ret.counts.at_ k).current.blocks 1
      dryBlocks := if spillIsDry s k then addHeld Config.max32 (s.ret.counts.at_ k).current.dryBlocks 1
        else (s.ret.counts.at_ k).current.dryBlocks } }

@[simp] theorem counts_openBlock (k : Fin 4) (start : Nat) (s : State) :
    (openBlock k start s).ret.counts = s.ret.counts.put k (blockCounted s k start) := by
  simp [openBlock, creditPeriod, updateOpen, State.setCounts, blockCounted]

/-- A block that is carried is one that opens, with a notice. -/
theorem carryBlock_fields (k : Fin 4) (start : Nat) (s : State) : (carryBlock k start s).ret = (openBlock k start s).ret
    ∧ (carryBlock k start s).spill = s.spill ∧ (carryBlock k start s).image = s.image := by
  simp only [carryBlock, postAt, State.withPort_fields, true_and]
  exact ⟨rfl, rfl⟩

theorem counts_carryBlock (k : Fin 4) (start : Nat) (s : State) :
    (carryBlock k start s).ret.counts = s.ret.counts.put k (blockCounted s k start) := by
  rw [(carryBlock_fields k start s).1, counts_openBlock]

theorem SameAccounts.blockLength {s u : State} (h : SameAccounts s u) (k : Fin 4) : blockLength u k = blockLength s k := by
  simp only [Machine.blockLength, State.outfall, h.image]

theorem SameAccounts.blockCounted {s u : State} (h : SameAccounts s u) (k : Fin 4) (start : Nat) :
    blockCounted u k start = blockCounted s k start := by
  simp only [Machine.blockCounted, h.counts, h.blockLength, spillIsDry_congr h.log h.slots]

theorem openBlock_changes (k : Fin 4) (start : Nat) (s : State) : OpenRecordChanges s (openBlock k start s) k SpillRecord.addBlock :=
  (updateOpen_changes k SpillRecord.addBlock _).congr ⟨rfl, rfl, rfl⟩ ⟨rfl, rfl, rfl⟩

theorem carryBlock_changes (k : Fin 4) (start : Nat) (s : State) : OpenRecordChanges s (carryBlock k start s) k SpillRecord.addBlock :=
  (openBlock_changes k start s).congr ⟨rfl, rfl, rfl⟩ (by simp only [carryBlock_fields, and_self])

/-- A block that is carried posts one notice, with the blocks of the spill after it (R94). -/
theorem port_carryBlock {s : State} {k : Fin 4} {o : OpenSpill} (h : openSpillOf s k = some o) (start : Nat) :
    (carryBlock k start s).port
      = (postAt start k.val (.blockCarried (openId s k) (blockLength s k) (addHeld Config.max16 o.blocks 1)) s).port := by
  have hopen : openSpillOf (openBlock k start s) k = some (spillBlocked o) := by
    rw [openSpillOf_of_changes (openBlock_changes k start s) actsOnSpill_addBlock, h]
    rfl
  unfold carryBlock
  dsimp only
  rw [hopen, openId_of_changes (openBlock_changes k start s) actsOnSpill_addBlock]
  exact port_postAt_congr rfl rfl rfl _ _ _

/-! ### Losses of the level (R83) -/

theorem spillLoss_of_unheard {b : Fin 8} {k : Fin 4} {s : State} (h : outfallOf s b = some k)
    (hstate : s.spillState k = .quiet ∨ s.spillState k = .blind) : spillLoss b s = s := by
  rcases hstate with hstate | hstate <;> simp only [spillLoss, h, hstate]

theorem spillLoss_of_heard {b : Fin 8} {k : Fin 4} {s : State} (h : outfallOf s b = some k) (hquiet : s.spillState k ≠ .quiet)
    (hblind : s.spillState k ≠ .blind) : spillLoss b s = updateOpen k SpillRecord.setGap (enterSpillState k .blind s) := by
  cases hstate : s.spillState k with
  | quiet => exact absurd hstate hquiet
  | blind => exact absurd hstate hblind
  | spilling => simp only [spillLoss, h, hstate]
  | tailing tentative deadline => simp only [spillLoss, h, hstate]

/-! ### Closes (R90, R104, R107) -/

/-- An open spill is held by the open record, with the record's id or the aggregate mark. -/
theorem openRecord_of_openSpillOf {s : State} {k : Fin 4} {o : OpenSpill} (h : openSpillOf s k = some o) :
    ∃ r, openRecord s k = some (openId s k, r) ∧ r.openSpill = some o := by
  unfold openSpillOf openId at *
  cases hopen : openRecord s k with
  | none => simp [hopen] at h
  | some p => exact ⟨p.2, rfl, by simpa [hopen] using h⟩

/-- An open record with the aggregate mark stands in its outfall's slot, and the log has none. -/
theorem slot_of_openRecord {s : State} {k : Fin 4} {r : SpillRecord} (h : openRecord s k = some (none, r)) :
    (∀ e ∈ s.ret.log, e.record.isOpenOf k = false) ∧ s.ret.slots.at_ k = some r := by
  unfold openRecord at h
  cases hfind : s.ret.log.find? fun e => e.record.isOpenOf k with
  | some e => simp [hfind] at h
  | none =>
    refine ⟨by simpa using hfind, ?_⟩
    cases hslot : s.ret.slots.at_ k with
    | none => simp [hfind, hslot] at h
    | some x =>
      have : x.isOpen = true ∧ x = r := by simpa [hfind, hslot] using h
      rw [this.2]

/-- What the close of a record writes is told by the clock flag and the offset. -/
theorem spillClosed_congr {s t : State} (hset : t.ret.clockSet = s.ret.clockSet) (hoffset : t.ret.offset = s.ret.offset) (finish : Nat)
    (cause : EndCause) : spillClosed t finish cause = spillClosed s finish cause := by
  funext r
  simp only [spillClosed, written, siteTime, hset, hoffset]

/-- The first three steps of a close (R90): the period is credited, and the open record closes. -/
theorem closeFigures_eq (k : Fin 4) (finish : Nat) (cause : EndCause) (o : OpenSpill) (s : State) :
    closeFigures k finish cause o s = updateOpen k (spillClosed s finish cause)
      (s.setCounts k (periodCredited finish o (s.ret.counts.at_ k))) := by
  unfold closeFigures
  dsimp only
  rw [closeAt_eq_spillClosed, spillClosed_congr (s := s) rfl rfl]
  rfl

/-- The records of the log at a close: that of the outfall's open spill closes, and a record without an open spill is left alone. -/
theorem log_closeFigures (k : Fin 4) (finish : Nat) (cause : EndCause) (o : OpenSpill) (s : State) :
    (closeFigures k finish cause o s).ret.log = s.ret.log.map fun e =>
      { e with record := if e.record.outfall = k then spillClosed s finish cause e.record else e.record } := by
  rw [closeFigures_eq]
  refine List.map_congr_left fun e _ => ?_
  by_cases hk : e.record.outfall = k
  · cases ho : e.record.openSpill <;> simp [SpillRecord.isOpenOf, SpillRecord.isOpen, spillClosed, hk, ho]
  · simp [SpillRecord.isOpenOf, hk]

/-- A change of an open record that stands in its outfall's slot. -/
theorem updateOpen_of_slot {s : State} {k : Fin 4} {r : SpillRecord} (hnone : ∀ e ∈ s.ret.log, e.record.isOpenOf k = false)
    (hslot : s.ret.slots.at_ k = some r) (hopen : r.openSpill.isSome = true) (f : SpillRecord → SpillRecord) :
    updateOpen k f s = s.withRet { s.ret with slots := s.ret.slots.put k (some (f r)) } := by
  have hlog : (s.ret.log.map fun e => if e.record.isOpenOf k then { e with record := f e.record } else e) = s.ret.log :=
    (updateOpen_changes k f s).1.trans (log_map_of_noneOpen hnone f)
  unfold updateOpen
  rw [hlog, Tab.upd, hslot]
  simp [SpillRecord.isOpen, hopen]

/-- The close of a spill that an aggregate holds: its slot and the counts of its outfall are all that changes. -/
theorem closeFigures_of_aggregate {s : State} {k : Fin 4} {r : SpillRecord} {o : OpenSpill} (h : openRecord s k = some (none, r))
    (ho : r.openSpill = some o) (finish : Nat) (cause : EndCause) : closeFigures k finish cause o s = s.withRet { s.ret with
      counts := s.ret.counts.put k (periodCredited finish o (s.ret.counts.at_ k))
      slots := s.ret.slots.put k (some (spillClosed s finish cause r)) } := by
  obtain ⟨hnone, hslot⟩ := slot_of_openRecord h
  rw [closeFigures_eq]
  exact updateOpen_of_slot (s := s.setCounts k _) (r := r) hnone hslot (by simp [ho]) _

/-- What a close leaves before the outfall becomes QUIET: the transfer test has been made where an aggregate has closed (R107). -/
def closeTested (k : Fin 4) (finish : Nat) (cause : EndCause) (id : Option Nat) (o : OpenSpill) (s : State) : State :=
  if id.isNone then (transferTest (closeFigures k finish cause o s)).1 else closeFigures k finish cause o s

theorem closeSpill_of_openSpill {s : State} {k : Fin 4} {o : OpenSpill} (h : openSpillOf s k = some o) (finish : Nat) (cause : EndCause) :
    closeSpill k finish cause false s = postAt finish k.val (.spillEnded (openId s k) cause (min ((finish - o.start) / 60) Config.max16))
      ((closeTested k finish cause (openId s k) o s).setOutfall k { state := .quiet, remainder := 0 }) := by
  obtain ⟨r, hopen, ho⟩ := openRecord_of_openSpillOf h
  simp only [closeSpill, hopen, ho, closeTested, Bool.not_false, Bool.and_true]

/-- A transfer leaves everything alone but the log, the slots, the ids and the port. -/
theorem transferLoop_fields (fuel n : Nat) (s : State) :
    (transferLoop fuel n s).1.image = s.image ∧ (transferLoop fuel n s).1.spill = s.spill
      ∧ (transferLoop fuel n s).1.ret.counts = s.ret.counts ∧ (transferLoop fuel n s).1.ret.clockSet = s.ret.clockSet
      ∧ (transferLoop fuel n s).1.ret.offset = s.ret.offset := by
  induction fuel generalizing n s with
  | zero => exact ⟨rfl, rfl, rfl, rfl, rfl⟩
  | succ fuel ih =>
    unfold transferLoop
    split
    · exact ⟨rfl, rfl, rfl, rfl, rfl⟩
    · next t ht =>
      obtain ⟨id, k, r, -, -, -, rfl⟩ := transferOne_eq_some ht
      obtain ⟨himage, hspill, hcounts, hset, hoffset⟩ := ih (n + 1) (enterLog id r (s.withRet { s.ret with slots := s.ret.slots.put k none }))
      rw [himage, hspill, hcounts, hset, hoffset]
      unfold enterLog
      dsimp only
      split <;> exact ⟨rfl, rfl, rfl, rfl, rfl⟩

theorem closeTested_fields (k : Fin 4) (finish : Nat) (cause : EndCause) (id : Option Nat) (o : OpenSpill) (s : State) :
    (closeTested k finish cause id o s).image = s.image ∧ (closeTested k finish cause id o s).spill = s.spill
      ∧ (closeTested k finish cause id o s).ret.counts = s.ret.counts.put k (periodCredited finish o (s.ret.counts.at_ k))
      ∧ (closeTested k finish cause id o s).ret.clockSet = s.ret.clockSet
      ∧ (closeTested k finish cause id o s).ret.offset = s.ret.offset := by
  unfold closeTested
  split
  · exact transferLoop_fields 4 0 (closeFigures k finish cause o s)
  · exact ⟨rfl, rfl, rfl, rfl, rfl⟩

/-- A close of the record of a spill in the log makes no transfer test. -/
theorem closeTested_some (k : Fin 4) (finish : Nat) (cause : EndCause) (id : Nat) (o : OpenSpill) (s : State) :
    closeTested k finish cause (some id) o s = closeFigures k finish cause o s := rfl

/-- The close of a spill that an aggregate holds: the transfer test is made on what the close leaves. -/
theorem closeTested_aggregate {s u : State} (h : SameAccounts s u) {k : Fin 4} {o : OpenSpill} {r : SpillRecord}
    (ho : openSpillOf s k = some o) (hid : openId s k = none) (hslot : s.ret.slots.at_ k = some r) (finish : Nat) (cause : EndCause) :
    closeTested k finish cause none o u = (transferTest (u.withRet { u.ret with
      counts := s.ret.counts.put k (periodCredited finish o (s.ret.counts.at_ k))
      slots := s.ret.slots.put k (some (spillClosed s finish cause r)) })).1 := by
  obtain ⟨x, hrecord, hx⟩ := openRecord_of_openSpillOf ((openSpillOf_congr h.log h.slots).trans ho)
  rw [openId_congr h.log h.slots, hid] at hrecord
  obtain rfl : x = r := Option.some.inj ((slot_of_openRecord hrecord).2.symm.trans ((congrArg (·.at_ k) h.slots).trans hslot))
  rw [← h.counts, ← h.slots, ← spillClosed_congr h.clockSet h.offset, ← closeFigures_of_aggregate hrecord hx]
  rfl

/-! ### The two deadlines -/

theorem tailDeadlineReached_of_tailing {s : State} {k : Fin 4} {tentative deadline : Nat} (h : s.spillState k = .tailing tentative deadline) :
    tailDeadlineReached k s = outfallChanged k (closeSpill k tentative .ended false (reachSecond deadline s)) := by
  simp only [tailDeadlineReached, tailEnds, spillState_reachSecond, h]

theorem tailDeadlineReached_of_not_tailing {s : State} {k : Fin 4} (h : ∀ x d, s.spillState k ≠ .tailing x d) :
    tailDeadlineReached k s = s := by
  cases hstate : s.spillState k with
  | tailing x d => exact absurd hstate (h x d)
  | quiet => simp only [tailDeadlineReached, hstate]
  | spilling => simp only [tailDeadlineReached, hstate]
  | blind => simp only [tailDeadlineReached, hstate]

theorem blockEndReached_of_waiting {s : State} {k : Fin 4} (h : s.spillState k = .quiet ∨ ∃ x d, s.spillState k = .tailing x d) :
    blockEndReached k s = s := by
  rcases h with h | ⟨x, d, h⟩ <;> simp only [blockEndReached, h]

theorem blockEndReached_of_counting {s : State} {k : Fin 4} (h : s.spillState k = .spilling ∨ s.spillState k = .blind) :
    blockEndReached k s = carryBlock k (s.ret.counts.at_ k).blockEnd s := by
  rcases h with h | h <;> simp only [blockEndReached, h]

theorem execTailDeadline_closes {m : Moment} {k : Fin 4} {s : State} {tentative deadline : Nat} {o : OpenSpill} (h : s.run = .running)
    (htail : s.spillState k = .tailing tentative deadline) (ho : openSpillOf s k = some o) :
    exec (.tailDeadline m k) s = .next (refreshAlarms (outfallChanged k (postAt tentative k.val
      (.spillEnded (openId s k) .ended (min ((tentative - o.start) / 60) Config.max16))
      ((closeTested k tentative .ended (openId s k) o (reachSecond deadline (arrive m s))).setOutfall k
        { state := .quiet, remainder := 0 })))) := by
  have hsame := sameAccounts_reachSecond deadline m s
  have hclose := closeSpill_of_openSpill ((openSpillOf_congr hsame.log hsame.slots).trans ho) tentative .ended
  rw [openId_congr hsame.log hsame.slots] at hclose
  refine (whileRunning_running m (tailDeadlineReached k) s h).trans ?_
  rw [tailDeadlineReached_of_tailing ((spillState_arrive m s k).trans htail), hclose]

theorem execBlockEndReached_running {m : Moment} {k : Fin 4} {s : State} (h : s.run = .running) :
    exec (.blockEndReached m k) s
      = .next (refreshAlarms (blockEndReached k (reachSecond (s.ret.counts.at_ k).blockEnd (arrive m s)))) := by
  have hcounts : (arrive m s).ret.counts = s.ret.counts := by simp
  rw [← hcounts]
  exact whileRunning_running m (fun u => blockEndReached k (reachSecond (u.ret.counts.at_ k).blockEnd u)) s h

/-- Settles O44: a loss writes its mark into the open record, a tail deadline closes it, and a block-end opens a block of it. -/
theorem spillDeadlinesAndLosses : Obligations.SpillDeadlinesAndLosses := by
  refine ⟨fun b k s hk => ⟨spillLoss_of_unheard hk, fun hquiet hblind => ?loss⟩, fun m k s hrun => ?deadlines⟩
  case loss =>
    have hchanges : OpenRecordChanges s (spillLoss b s) k SpillRecord.setGap := by
      rw [spillLoss_of_heard hk hquiet hblind]
      exact (updateOpen_changes k SpillRecord.setGap _).congr ⟨rfl, rfl, rfl⟩ ⟨rfl, rfl, rfl⟩
    refine ⟨?state, fun o ho => ?spill, hchanges⟩
    case state =>
      rw [spillLoss_of_heard hk hquiet hblind]
      exact (spillState_enterSpillState s k k .blind).trans (if_pos rfl)
    case spill => rw [openSpillOf_of_changes hchanges actsOnSpill_setGap, ho, Option.map_some]
  intro a c
  have hstate : a.spillState k = s.spillState k := spillState_arrive m s k
  refine ⟨fun htail => ?notTailing, fun tentative deadline o htail ho => ?tail, fun hwait => ?waiting, fun hcount => ?counting⟩
  case notTailing =>
    have hstays : tailDeadlineReached k a = a := tailDeadlineReached_of_not_tailing (by rwa [hstate])
    exact (whileRunning_running m (tailDeadlineReached k) s hrun).trans (by rw [hstays])
  case tail =>
    intro u ended
    have hsame : SameAccounts s u := sameAccounts_reachSecond deadline m s
    have hexec : exec (.tailDeadline m k) s = .next (refreshAlarms (outfallChanged k (postAt tentative k.val
        (.spillEnded (openId s k) .ended (min ((tentative - o.start) / 60) 65535))
        ((closeTested k tentative .ended (openId s k) o u).setOutfall k { state := .quiet, remainder := 0 })))) :=
      execTailDeadline_closes hrun htail ho
    obtain ⟨himage, hspill, hcounts, hset, hoffset⟩ := closeTested_fields k tentative .ended (openId s k) o u
    have hlogged (id : Nat) (hid : openId s k = some id) :
        closeTested k tentative .ended (openId s k) o u = closeFigures k tentative .ended o u := by
      rw [hid, closeTested_some]
    have haggregate (r : SpillRecord) (hid : openId s k = none) (hslot : s.ret.slots.at_ k = some r) :
        closeTested k tentative .ended (openId s k) o u = _ :=
      (congrArg (closeTested k tentative .ended · o u) hid).trans (closeTested_aggregate hsame ho hid hslot tentative .ended)
    generalize closeTested k tentative .ended (openId s k) o u = tested at hexec himage hspill hcounts hset hoffset hlogged haggregate
    let v := tested.setOutfall k { state := .quiet, remainder := 0 }
    have hport : v.port = tested.port := rfl
    obtain ⟨htspill, htimage, htret⟩ := outfallChanged_fields k (postAt tentative k.val
      (.spillEnded (openId s k) .ended (min ((tentative - o.start) / 60) 65535)) v)
    replace htspill := htspill.trans (congrArg (fun x : Tab 4 OutfallVol => x.put k { state := .quiet, remainder := 0 })
      (hspill.trans hsame.spill))
    replace htimage := htimage.trans (himage.trans hsame.image)
    replace htret : _ = tested.ret := htret
    generalize hx : outfallChanged k _ = x at hexec htspill htimage htret
    refine ⟨refreshAlarms x, v, hexec, htspill, htimage, congrArg refreshAlarms hx.symm, hset.trans hsame.clockSet,
      hoffset.trans hsame.offset, fun id hid => hport.trans ((congrArg State.port (hlogged id hid)).trans hsame.port),
      (congrArg Retained.counts htret).trans ?counts, fun id hid => (congrArg Retained.log htret).trans ?log,
      fun r hid hslot => ⟨htret.trans (congrArg State.ret (haggregate r hid hslot)),
        hport.trans (congrArg State.port (haggregate r hid hslot))⟩⟩
    case counts => rw [hcounts, hsame.counts]
    case log => rw [hlogged id hid, log_closeFigures, hsame.log, spillClosed_congr hsame.clockSet hsame.offset]
  case waiting =>
    have hstays : blockEndReached k (reachSecond c.blockEnd a) = reachSecond c.blockEnd a :=
      blockEndReached_of_waiting (by simpa only [spillState_reachSecond, hstate] using hwait)
    exact (execBlockEndReached_running hrun).trans (by rw [hstays])
  case counting =>
    let u := reachSecond c.blockEnd a
    have hsame : SameAccounts s u := sameAccounts_reachSecond c.blockEnd m s
    have hcounting : u.spillState k = .spilling ∨ u.spillState k = .blind := by
      simpa only [u, spillState_reachSecond, hstate] using hcount
    have hexec : exec (.blockEndReached m k) s = .next (refreshAlarms (carryBlock k c.blockEnd u)) := by
      have hblock := blockEndReached_of_counting hcounting
      rw [hsame.counts] at hblock
      rw [← hblock]
      exact execBlockEndReached_running hrun
    obtain ⟨-, hspill, himage⟩ := carryBlock_fields k c.blockEnd u
    have hcounts : (carryBlock k c.blockEnd u).ret.counts = s.ret.counts.put k (blockCounted s k c.blockEnd) := by
      rw [counts_carryBlock, hsame.blockCounted, hsame.counts]
    have hchanges : OpenRecordChanges s (carryBlock k c.blockEnd u) k SpillRecord.addBlock :=
      (carryBlock_changes k c.blockEnd u).congr ⟨hsame.log.symm, hsame.slots.symm, hsame.nextId.symm⟩ ⟨rfl, rfl, rfl⟩
    have hport (o : OpenSpill) (ho : openSpillOf s k = some o) : (carryBlock k c.blockEnd u).port = (postAt c.blockEnd k.val
        (.blockCarried (openId s k) (blockLength s k) (addHeld Config.max16 o.blocks 1)) s).port := by
      rw [port_carryBlock ((openSpillOf_congr hsame.log hsame.slots).trans ho), openId_congr hsame.log hsame.slots, hsame.port_postAt,
        hsame.blockLength]
    generalize carryBlock k c.blockEnd u = t at hexec hspill himage hcounts hchanges hport
    exact ⟨refreshAlarms t, hexec, hspill.trans hsame.spill, himage.trans hsame.image, hcounts, hchanges, fun o ho =>
      ⟨(openSpillOf_of_changes hchanges actsOnSpill_addBlock).trans (by rw [ho]; rfl), hport o ho⟩⟩

end Sys2Proof.Machine

/-! PROOF. Acceptances of a reference bay's level: volume, peak head, and the transitions that start no spill (R79, R81 to R85, R89). -/

namespace Sys2Proof.Machine

/-! ### Volume and peak head (R79 steps 2 and 3, R84, R85) -/

/-- From `s` to `u` the spill accountant has moved figures of open spills alone. -/
structure SameButFigures (s u : State) : Prop where
  image : u.image = s.image
  port : u.port = s.port
  counts : u.ret.counts = s.ret.counts
  seconds : u.ret.seconds = s.ret.seconds
  clockSet : u.ret.clockSet = s.ret.clockSet
  offset : u.ret.offset = s.ret.offset
  spillState : ∀ j, u.spillState j = s.spillState j

/-- The litres that an acceptance finds: those of its interval at the present head, and the remainder (R84). -/
def litresFound (s : State) (k : Fin 4) (head : Int) (interval : Nat) : Nat :=
  weirFlow (s.outfall k).weir head * interval + (s.spill.at_ k).remainder

/-- A volume after an acceptance that found litres: nothing accrues in BLIND (R79, R84). -/
def volumeAccrued (s : State) (k : Fin 4) (litres volume : Nat) : Nat :=
  if s.spillState k = .blind then volume else addHeld Config.max32 volume (litres / 100)

section Accrual
variable (k : Fin 4) (head : Int) (time : Nat) (previous : Option Nat) (s : State)

theorem sameButFigures_accrueAndPeak : SameButFigures s (accrueAndPeak k head time previous s) := by
  have haccrued (f : SpillRecord → SpillRecord) (n : Nat) : SameButFigures s (updateOpen k f (accrue k head n s)) := by
    refine ⟨rfl, rfl, rfl, rfl, rfl, rfl, fun j => (spillState_setOutfall _ k j _).trans ?_⟩
    split
    · next h => subst h; rfl
    · rfl
  cases h : s.spillState k with
  | quiet => simp only [accrueAndPeak, h]; exact ⟨rfl, rfl, rfl, rfl, rfl, rfl, fun _ => rfl⟩
  | spilling => simp only [accrueAndPeak, h]; exact haccrued _ _
  | tailing tentative deadline => simp only [accrueAndPeak, h]; exact haccrued _ _
  | blind => simp only [accrueAndPeak, h]; exact ⟨rfl, rfl, rfl, rfl, rfl, rfl, fun _ => rfl⟩

variable {k s}

theorem accrueAndPeak_of_quiet (h : s.spillState k = .quiet) : accrueAndPeak k head time previous s = s := by
  simp only [accrueAndPeak, h]

theorem accrueAndPeak_of_blind (h : s.spillState k = .blind) :
    accrueAndPeak k head time previous s = updateOpen k (SpillRecord.raisePeak head) s := by
  simp only [accrueAndPeak, h]

theorem accrueAndPeak_of_accruing (hquiet : s.spillState k ≠ .quiet) (hblind : s.spillState k ≠ .blind) :
    accrueAndPeak k head time previous s
      = updateOpen k (SpillRecord.raisePeak head) (accrue k head (accrualInterval time previous) s) := by
  cases h : s.spillState k with
  | quiet => exact absurd h hquiet
  | blind => exact absurd h hblind
  | spilling => simp only [accrueAndPeak, h]
  | tailing tentative deadline => simp only [accrueAndPeak, h]

/-- The litres that make no decicube stay in the remainder (R84). -/
theorem remainder_accrueAndPeak (hquiet : s.spillState k ≠ .quiet) :
    ((accrueAndPeak k head time previous s).spill.at_ k).remainder = if s.spillState k = .blind then (s.spill.at_ k).remainder
      else litresFound s k head (accrualInterval time previous) % 100 := by
  split
  · next hblind => rw [accrueAndPeak_of_blind head time previous hblind]; rfl
  · next hblind =>
    rw [accrueAndPeak_of_accruing head time previous hquiet hblind]
    exact congrArg OutfallVol.remainder ((Tab.at_put _ k k _).trans (if_pos rfl))

theorem accrueAndPeak_changes (hquiet : s.spillState k ≠ .quiet) : OpenRecordChanges s (accrueAndPeak k head time previous s) k
    (recordMoved (volumeAccrued s k (litresFound s k head (accrualInterval time previous))) (fun n => n) head) := by
  by_cases hblind : s.spillState k = .blind
  · have hvolume : volumeAccrued s k (litresFound s k head (accrualInterval time previous)) = fun v => v :=
      funext fun v => if_pos hblind
    rw [hvolume, accrueAndPeak_of_blind head time previous hblind, ← raisePeak_eq_recordMoved]
    exact updateOpen_changes k _ s
  · have hvolume : volumeAccrued s k (litresFound s k head (accrualInterval time previous))
        = fun v => addHeld Config.max32 v (litresFound s k head (accrualInterval time previous) / 100) :=
      funext fun v => if_neg hblind
    rw [hvolume, accrueAndPeak_of_accruing head time previous hquiet hblind, ← raisePeak_addVolume]
    refine (updateOpen_changes k _ s).trans (actsOnSpill_addVolume _).keepsOpen ((updateOpen_changes k _ _).congr ?_ ⟨rfl, rfl, rfl⟩)
    exact ⟨rfl, rfl, rfl⟩

end Accrual

/-! ### Transitions (R79 step 4, R80 to R83, R89) -/

section Transitions
variable {k : Fin 4} {head : Int} {time : Nat} {s : State}

theorem spillTransition_of_quiet (h : s.spillState k = .quiet) : spillTransition k head time s
    = if ((s.outfall k).onset : Int) ≤ head then startSpill k head time s else s := by
  simp only [spillTransition, h]

theorem spillTransition_of_spilling (h : s.spillState k = .spilling) : spillTransition k head time s
    = if head < ((s.outfall k).onset : Int) - ((s.outfall k).hysteresis : Int) then beginTail k time s else s := by
  simp only [spillTransition, h]

theorem spillTransition_of_tailing {tentative deadline : Nat} (h : s.spillState k = .tailing tentative deadline) :
    spillTransition k head time s = if ((s.outfall k).onset : Int) ≤ head then
        (if (s.ret.counts.at_ k).blockEnd ≤ s.now then carryBlock k s.now (enterSpillState k .spilling s)
          else enterSpillState k .spilling s)
      else s := by
  simp only [spillTransition, h]
  rfl

theorem spillTransition_of_blind (h : s.spillState k = .blind) : spillTransition k head time s
    = if ((s.outfall k).onset : Int) ≤ head then enterSpillState k .spilling s else beginTail k time s := by
  simp only [spillTransition, h]

/-- An acceptance carries a block: it returns the outfall from TAILING to SPILLING at or after the block-end (R89). -/
def carriesBlock (s : State) (k : Fin 4) (head : Int) : Bool :=
  match s.spillState k with
  | .tailing _ _ => decide (((s.outfall k).onset : Int) ≤ head ∧ ¬ s.now < (s.ret.counts.at_ k).blockEnd)
  | .quiet | .spilling | .blind => false

/-- The blocks of a spill after an acceptance. -/
def blocksCarried (s : State) (k : Fin 4) (head : Int) (blocks : Nat) : Nat :=
  if carriesBlock s k head then addHeld Config.max16 blocks 1 else blocks

theorem SameButFigures.carriesBlock {u : State} (h : SameButFigures s u) : carriesBlock u k head = carriesBlock s k head := by
  have houtfall : u.outfall k = s.outfall k := congrArg (·.outfalls.at_ k) h.image
  have hnow : u.now = s.now := h.seconds
  unfold Machine.carriesBlock
  rw [h.spillState, h.counts, houtfall, hnow]

theorem spillTransition_of_carries (h : carriesBlock s k head = true) :
    spillTransition k head time s = carryBlock k s.now (enterSpillState k .spilling s) := by
  cases hstate : s.spillState k with
  | tailing tentative deadline =>
    obtain ⟨honset, hend⟩ : ((s.outfall k).onset : Int) ≤ head ∧ ¬ s.now < (s.ret.counts.at_ k).blockEnd := by
      simpa only [carriesBlock, hstate, decide_eq_true_eq] using h
    rw [spillTransition_of_tailing hstate, if_pos honset, if_pos (Nat.le_of_not_lt hend)]
  | quiet => simp [carriesBlock, hstate] at h
  | spilling => simp [carriesBlock, hstate] at h
  | blind => simp [carriesBlock, hstate] at h

/-- An acceptance that carries no block, while a spill is open, moves the spill state alone. -/
theorem spillTransition_of_not_carries (hquiet : s.spillState k ≠ .quiet) (h : carriesBlock s k head = false) :
    (spillTransition k head time s).ret = s.ret ∧ (spillTransition k head time s).port = s.port := by
  cases hstate : s.spillState k with
  | quiet => exact absurd hstate hquiet
  | spilling =>
    rw [spillTransition_of_spilling hstate]
    split <;> exact ⟨rfl, rfl⟩
  | blind =>
    rw [spillTransition_of_blind hstate]
    split <;> exact ⟨rfl, rfl⟩
  | tailing tentative deadline =>
    rw [spillTransition_of_tailing hstate]
    split
    · next honset =>
      have hend : ¬ (s.ret.counts.at_ k).blockEnd ≤ s.now := by
        intro hend
        simp [carriesBlock, hstate, honset, Nat.not_lt.mpr hend] at h
      rw [if_neg hend]
      exact ⟨rfl, rfl⟩
    · exact ⟨rfl, rfl⟩

theorem spillTransition_changes (hquiet : s.spillState k ≠ .quiet) : OpenRecordChanges s (spillTransition k head time s) k
    fun r => if carriesBlock s k head then r.addBlock else r := by
  cases h : carriesBlock s k head with
  | true =>
    rw [spillTransition_of_carries h]
    exact (carryBlock_changes k s.now _).congr ⟨rfl, rfl, rfl⟩ ⟨rfl, rfl, rfl⟩
  | false =>
    have hret := (spillTransition_of_not_carries (time := time) hquiet h).1
    exact (OpenRecordChanges.refl s k).congr ⟨rfl, rfl, rfl⟩ (by simp only [hret, and_self])

/-- The remainder stays at the transition of an open spill. -/
theorem remainder_spillTransition (hquiet : s.spillState k ≠ .quiet) :
    ((spillTransition k head time s).spill.at_ k).remainder = (s.spill.at_ k).remainder := by
  have henter (x : SpillState) : ((enterSpillState k x s).spill.at_ k).remainder = (s.spill.at_ k).remainder := by
    simp [enterSpillState, State.setOutfall]
  cases hstate : s.spillState k with
  | quiet => exact absurd hstate hquiet
  | spilling => rw [spillTransition_of_spilling hstate]; split; exacts [henter _, rfl]
  | blind => rw [spillTransition_of_blind hstate]; split; exacts [henter _, henter _]
  | tailing tentative deadline =>
    rw [spillTransition_of_tailing hstate]
    split
    · split
      · rw [(carryBlock_fields k s.now _).2.1, henter]
      · exact henter _
    · rfl

end Transitions

end Sys2Proof.Machine

/-! PROOF. The start of a spill: its record, its notices and its counts (R80, R86, R87, R93, R101, R102, R105, R106, R114). -/

namespace Sys2Proof.Machine

/-! ### A record enters the log (R101, R102, R114) -/

/-- The retained contents once a record has entered the log. -/
theorem ret_enterLog (id : Nat) (r : SpillRecord) (s : State) :
    (enterLog id r s).ret = { s.ret with log := s.ret.log ++ [{ id := id, record := r }], nextId := nextIdAfter id } := by
  unfold enterLog
  dsimp only
  split <;> rfl

theorem enterLog_fields (id : Nat) (r : SpillRecord) (s : State) :
    (enterLog id r s).spill = s.spill ∧ (enterLog id r s).image = s.image := by
  unfold enterLog
  dsimp only
  split <;> exact ⟨rfl, rfl⟩

theorem port_enterLog_of_room {s : State} (h : s.ret.log.length ≠ 47) (id : Nat) (r : SpillRecord) :
    (enterLog id r s).port = s.port := by
  unfold enterLog
  simp only [State.withRet_fields, List.length_append, List.length_singleton, Config.logCap, Nat.reduceEqDiff, h, if_false]

/-- The open record that fills the log posts LOG_FULL, which counts it among the open ones (R114). -/
theorem port_enterLog_of_full {s : State} {oldest : LogEntry} (h : s.ret.log.length = 47) (hhead : s.ret.log.head? = some oldest)
    {r : SpillRecord} (hopen : r.openSpill.isSome = true) (id : Nat) : (enterLog id r s).port = (postAt s.now r.outfall.val
      (.logFull id (id - oldest.id) (s.ret.log.countP (fun e => e.record.openSpill.isSome) + 1)) s).port := by
  obtain ⟨rest, hrest⟩ := List.head?_eq_some_iff.mp hhead
  have hcount : (s.ret.log ++ [(⟨id, r⟩ : LogEntry)]).countP (fun e => e.record.openSpill.isSome)
      = s.ret.log.countP (fun e => e.record.openSpill.isSome) + 1 := by
    rw [List.countP_append, List.countP_singleton, if_pos hopen]
  unfold enterLog
  simp only [State.withRet_fields, List.length_append, List.length_singleton, Config.logCap, h, if_true, SpillRecord.isOpen, hcount]
  simp only [hrest, List.cons_append]
  exact port_postAt_congr rfl rfl rfl _ _ _

/-! ### A spill is placed (R102, R105, R106) -/

section Placed
variable {k : Fin 4} {start : Nat} {cls : SpillClass} {head : Nat} {s : State}

theorem placeSpill_of_room {id : Nat} (hid : s.ret.nextId = some id) (hroom : s.ret.log.length < 48) :
    placeSpill k start cls head s = enterLog id (newRecord s k start cls head) s := by
  simp only [placeSpill, hid]
  exact if_pos hroom

theorem placeSpill_of_no_room (h : 48 ≤ s.ret.log.length ∨ s.ret.nextId = none) :
    placeSpill k start cls head s = placeSpill.placeSlot k start cls head s := by
  cases hid : s.ret.nextId with
  | none => simp only [placeSpill, hid]
  | some id =>
    have hfull : ¬ s.ret.log.length < Config.logCap := by
      rcases h with h | h
      · exact Nat.not_lt.mpr h
      · simp [hid] at h
    simp only [placeSpill, hid]
    exact if_neg hfull

/-- Where it is placed matters to nothing but the log, the slots, the ids and the port. -/
theorem placeSpill_fields : (placeSpill k start cls head s).spill = s.spill ∧ (placeSpill k start cls head s).image = s.image
    ∧ (placeSpill k start cls head s).ret.counts = s.ret.counts ∧ (placeSpill k start cls head s).ret.seconds = s.ret.seconds
    ∧ (placeSpill k start cls head s).ret.clockSet = s.ret.clockSet ∧ (placeSpill k start cls head s).ret.offset = s.ret.offset := by
  have hslot : (placeSpill.placeSlot k start cls head s).spill = s.spill ∧ (placeSpill.placeSlot k start cls head s).image = s.image
      ∧ (placeSpill.placeSlot k start cls head s).ret.counts = s.ret.counts
      ∧ (placeSpill.placeSlot k start cls head s).ret.seconds = s.ret.seconds
      ∧ (placeSpill.placeSlot k start cls head s).ret.clockSet = s.ret.clockSet
      ∧ (placeSpill.placeSlot k start cls head s).ret.offset = s.ret.offset := ⟨rfl, rfl, rfl, rfl, rfl, rfl⟩
  unfold placeSpill
  split
  · split
    · rw [ret_enterLog, (enterLog_fields ..).1, (enterLog_fields ..).2]
      exact ⟨rfl, rfl, rfl, rfl, rfl, rfl⟩
    · exact hslot
  · exact hslot

end Placed

/-! ### The start (R80, R87) -/

theorem enterSpillState_fields (k : Fin 4) (x : SpillState) (s : State) :
    (enterSpillState k x s).ret = s.ret ∧ (enterSpillState k x s).port = s.port := ⟨rfl, rfl⟩

theorem creditPeriod_fields (k : Fin 4) (f : PeriodSet → PeriodSet) (s : State) :
    (creditPeriod k f s).spill = s.spill ∧ (creditPeriod k f s).port = s.port ∧ (creditPeriod k f s).ret.clockSet = s.ret.clockSet
      ∧ (creditPeriod k f s).ret.offset = s.ret.offset := ⟨rfl, rfl, rfl, rfl⟩

theorem openBlock_fields (k : Fin 4) (start : Nat) (s : State) :
    (openBlock k start s).spill = s.spill ∧ (openBlock k start s).port = s.port ∧ (openBlock k start s).ret.clockSet = s.ret.clockSet
      ∧ (openBlock k start s).ret.offset = s.ret.offset := ⟨rfl, rfl, rfl, rfl⟩

/-- The class of a spill that starts (R86). -/
def startClass (s : State) : SpillClass := if rainAttributed s then .rain else .dry

/-- A spill that starts has been placed, with the litre remainder cleared (R80 steps 1 to 3). -/
def spillPlaced (s : State) (k : Fin 4) (head : Int) (time : Nat) : State :=
  placeSpill k time (startClass s) head.toNat (s.setOutfall k { s.spill.at_ k with remainder := 0 })

/-- A spill that starts has been counted (R80 step 4). -/
def spillCounted (s : State) (k : Fin 4) (head : Int) (time : Nat) : State :=
  creditPeriod k (fun p => { p with events := addHeld Config.max32 p.events 1 }) (spillPlaced s k head time)

/-- A spill that starts has opened a block, unless one runs, and the outfall is SPILLING (R80 steps 5 and 6, R87). -/
def spillBegun (s : State) (k : Fin 4) (head : Int) (time : Nat) : State :=
  enterSpillState k .spilling (if s.now < (s.ret.counts.at_ k).blockEnd then spillCounted s k head time
    else openBlock k s.now (spillCounted s k head time))

/-- What the start does with a record: it opens the spill's first block, unless one runs (R87). -/
def firstBlock (s : State) (k : Fin 4) (r : SpillRecord) : SpillRecord :=
  if s.now < (s.ret.counts.at_ k).blockEnd then r else r.addBlock

/-- The open spill of a start, with its first block. -/
def startedSpill (s : State) (k : Fin 4) (head : Int) (time : Nat) : OpenSpill :=
  { start := time, cls := startClass s, peak := head.toNat, volume := 0
    blocks := if s.now < (s.ret.counts.at_ k).blockEnd then 0 else 1, gap := false }

/-- The counts of an outfall with an event counted. -/
def eventCounted (c : OutfallCounts) : OutfallCounts :=
  { c with current := { c.current with events := addHeld Config.max32 c.current.events 1 } }

/-- The counts of an outfall after a start. -/
def startedCounts (s : State) (k : Fin 4) (dry : Bool) : OutfallCounts :=
  let c := s.ret.counts.at_ k
  if s.now < c.blockEnd then eventCounted c
  else { eventCounted c with
    blockEnd := s.now + blockLength s k
    current := { (eventCounted c).current with
      blocks := addHeld Config.max32 c.current.blocks 1
      dryBlocks := if dry then addHeld Config.max32 c.current.dryBlocks 1 else c.current.dryBlocks } }

section Start
variable (s : State) (k : Fin 4) (head : Int) (time : Nat)

theorem actsOnSpill_firstBlock : ActsOnSpill (firstBlock s k)
    fun o => if s.now < (s.ret.counts.at_ k).blockEnd then o else spillBlocked o := by
  intro r
  unfold firstBlock
  split
  · exact ⟨rfl, by simp⟩
  · exact actsOnSpill_addBlock r

theorem spillPlaced_fields : (spillPlaced s k head time).spill = s.spill.put k { s.spill.at_ k with remainder := 0 }
    ∧ (spillPlaced s k head time).image = s.image ∧ (spillPlaced s k head time).ret.counts = s.ret.counts
    ∧ (spillPlaced s k head time).ret.seconds = s.ret.seconds ∧ (spillPlaced s k head time).ret.clockSet = s.ret.clockSet
    ∧ (spillPlaced s k head time).ret.offset = s.ret.offset := placeSpill_fields

/-- Of what the placing left, the start changes the open record by its first block, the counts and the spill state. -/
theorem spillBegun_changes : OpenRecordChanges (spillPlaced s k head time) (spillBegun s k head time) k (firstBlock s k) := by
  unfold spillBegun firstBlock
  split
  · exact (OpenRecordChanges.refl (spillPlaced s k head time) k).congr ⟨rfl, rfl, rfl⟩ ⟨rfl, rfl, rfl⟩
  · exact (openBlock_changes k s.now (spillCounted s k head time)).congr ⟨rfl, rfl, rfl⟩ ⟨rfl, rfl, rfl⟩

theorem spillBegun_fields : (spillBegun s k head time).port = (spillPlaced s k head time).port
    ∧ (spillBegun s k head time).ret.clockSet = s.ret.clockSet ∧ (spillBegun s k head time).ret.offset = s.ret.offset := by
  obtain ⟨-, -, -, -, hset, hoffset⟩ := spillPlaced_fields s k head time
  unfold spillBegun
  split <;> simp only [spillCounted, enterSpillState_fields, openBlock_fields, creditPeriod_fields, hset, hoffset, and_self]

theorem counts_spillBegun : (spillBegun s k head time).ret.counts
    = s.ret.counts.put k (startedCounts s k (spillIsDry (spillPlaced s k head time) k)) := by
  obtain ⟨-, himage, hcounts, -, -, -⟩ := spillPlaced_fields s k head time
  have hcounted : (spillCounted s k head time).ret.counts = s.ret.counts.put k (eventCounted (s.ret.counts.at_ k)) := by
    rw [← hcounts]
    rfl
  have hlength : blockLength (spillCounted s k head time) k = blockLength s k :=
    congrArg (fun i : Image => (i.outfalls.at_ k).blockHours * 3600) himage
  have hdry : spillIsDry (spillCounted s k head time) k = spillIsDry (spillPlaced s k head time) k := spillIsDry_congr rfl rfl
  unfold spillBegun startedCounts
  dsimp only
  split
  · exact hcounted
  · refine (counts_openBlock k s.now (spillCounted s k head time)).trans ?_
    rw [blockCounted, hcounted, hlength, hdry, Tab.put_put, Tab.at_put, if_pos rfl]
    rfl

theorem spillState_spillBegun (j : Fin 4) :
    (spillBegun s k head time).spillState j = if k = j then .spilling else s.spillState j := by
  have hplaced : (spillPlaced s k head time).spillState j = s.spillState j := by
    simp only [State.spillState, (spillPlaced_fields s k head time).1, Tab.at_put]
    split
    · next h => subst h; rfl
    · rfl
  unfold spillBegun
  rw [spillState_enterSpillState, ← hplaced]
  split
  · rfl
  · simp only [State.spillState, spillCounted, apply_ite State.spill, openBlock_fields, creditPeriod_fields, ite_self]

/-- The start as a whole: one notice is posted, and the change of the outfall is taken (R80 step 7, R93). -/
theorem startSpill_eq : startSpill k head time s = outfallChanged k (postAt time k.val
    (.spillStarted (openId (spillBegun s k head time) k) (startClass s)
      (if s.now < (s.ret.counts.at_ k).blockEnd then .merged else .opened) head) (spillBegun s k head time)) := by
  obtain ⟨-, -, hcounts, hseconds, -, -⟩ := spillPlaced_fields s k head time
  have hnow : (spillCounted s k head time).now = s.now := hseconds
  have hend : ((spillCounted s k head time).ret.counts.at_ k).blockEnd = (s.ret.counts.at_ k).blockEnd := by
    rw [← hcounts]
    simp [spillCounted, creditPeriod, State.setCounts]
  have hstart : startSpill k head time s = outfallChanged k (postAt time k.val
      (.spillStarted (openId (enterSpillState k .spilling
          (if decide ((spillCounted s k head time).now < ((spillCounted s k head time).ret.counts.at_ k).blockEnd) = true
            then spillCounted s k head time else openBlock k (spillCounted s k head time).now (spillCounted s k head time))) k)
        (startClass s) (if decide ((spillCounted s k head time).now < ((spillCounted s k head time).ret.counts.at_ k).blockEnd) = true
          then .merged else .opened) head)
      (enterSpillState k .spilling
        (if decide ((spillCounted s k head time).now < ((spillCounted s k head time).ret.counts.at_ k).blockEnd) = true
          then spillCounted s k head time else openBlock k (spillCounted s k head time).now (spillCounted s k head time)))) := rfl
  rw [hstart, hnow, hend]
  simp only [decide_eq_true_eq]
  rfl

end Start

end Sys2Proof.Machine

/-! PROOF. Where a spill that starts is placed: in a log with room, or in its outfall's slot (R102, R105, R106). -/

namespace Sys2Proof.Machine

/-- The record that a spill which starts has in its outfall's slot: a new aggregate, or the one that the slot holds (R105, R106). -/
def slotRecord (s : State) (k : Fin 4) (head : Int) (time : Nat) : SpillRecord :=
  match s.ret.slots.at_ k with
  | none => newAggregate s k time (startClass s) head.toNat
  | some r => absorb s time (startClass s) head.toNat r

section Placed
variable {s : State} {k : Fin 4} {head : Int} {time : Nat}

/-! ### In a log with room (R102) -/

theorem spillPlaced_of_room {id : Nat} (hid : s.ret.nextId = some id) (hroom : s.ret.log.length < 48) :
    spillPlaced s k head time = enterLog id (newRecord s k time (startClass s) head.toNat)
      (s.setOutfall k { s.spill.at_ k with remainder := 0 }) := placeSpill_of_room hid hroom

theorem ret_spillPlaced_of_room {id : Nat} (hid : s.ret.nextId = some id) (hroom : s.ret.log.length < 48) :
    (spillPlaced s k head time).ret = { s.ret with
      log := s.ret.log ++ [{ id := id, record := newRecord s k time (startClass s) head.toNat }], nextId := nextIdAfter id } := by
  rw [spillPlaced_of_room hid hroom, ret_enterLog]
  rfl

theorem openRecord_spillPlaced_of_room {id : Nat} (hid : s.ret.nextId = some id) (hroom : s.ret.log.length < 48)
    (hnone : ∀ e ∈ s.ret.log, e.record.isOpenOf k = false) :
    openRecord (spillPlaced s k head time) k = some (some id, newRecord s k time (startClass s) head.toNat) := by
  have hold : s.ret.log.find? (fun e => e.record.isOpenOf k) = none := by simpa using hnone
  have hnew : (newRecord s k time (startClass s) head.toNat).isOpenOf k = true := (isOpenOf_iff k _).mpr ⟨rfl, rfl⟩
  unfold openRecord
  rw [ret_spillPlaced_of_room hid hroom]
  simp only [List.find?_append, hold, List.find?_singleton, hnew, if_true, Option.none_or]

/-- The record of a start with its first block. -/
theorem firstBlock_newRecord : firstBlock s k (newRecord s k time (startClass s) head.toNat)
    = { newRecord s k time (startClass s) head.toNat with
        blocks := (startedSpill s k head time).blocks, openSpill := some (startedSpill s k head time) } := by
  unfold firstBlock startedSpill
  split <;> rfl

/-- The newest record of the log is that of the start. -/
theorem getLast?_log_spillBegun {id : Nat} (hid : s.ret.nextId = some id) (hroom : s.ret.log.length < 48) :
    (spillBegun s k head time).ret.log.getLast?
      = some { id := id, record := firstBlock s k (newRecord s k time (startClass s) head.toNat) } := by
  have hnew : (newRecord s k time (startClass s) head.toNat).outfall = k
      ∧ (newRecord s k time (startClass s) head.toNat).openSpill.isSome = true := ⟨rfl, rfl⟩
  rw [(spillBegun_changes s k head time).1, ret_spillPlaced_of_room hid hroom, List.map_append, List.map_singleton,
    List.getLast?_concat, if_pos hnew]

theorem length_log_spillBegun {id : Nat} (hid : s.ret.nextId = some id) (hroom : s.ret.log.length < 48) :
    (spillBegun s k head time).ret.log.length = s.ret.log.length + 1 := by
  rw [(spillBegun_changes s k head time).1, ret_spillPlaced_of_room hid hroom, List.length_map, List.length_append, List.length_singleton]

theorem log_spillBegun_of_room {id : Nat} (hid : s.ret.nextId = some id) (hroom : s.ret.log.length < 48)
    (hnone : ∀ e ∈ s.ret.log, e.record.isOpenOf k = false) : (spillBegun s k head time).ret.log
      = s.ret.log ++ [{ id := id, record := firstBlock s k (newRecord s k time (startClass s) head.toNat) }] := by
  have hnew : (newRecord s k time (startClass s) head.toNat).outfall = k
      ∧ (newRecord s k time (startClass s) head.toNat).openSpill.isSome = true := ⟨rfl, rfl⟩
  rw [(spillBegun_changes s k head time).1, ret_spillPlaced_of_room hid hroom, List.map_append, log_map_of_noneOpen hnone,
    List.map_singleton, if_pos hnew]

/-- A slot that holds no open aggregate stays as it is. -/
theorem slots_spillBegun_of_room {id : Nat} (hid : s.ret.nextId = some id) (hroom : s.ret.log.length < 48)
    (hslot : ∀ r, s.ret.slots.at_ k = some r → r.openSpill = none) : (spillBegun s k head time).ret.slots = s.ret.slots := by
  have hplaced : (spillPlaced s k head time).ret.slots = s.ret.slots := by rw [ret_spillPlaced_of_room hid hroom]
  have hcell (j : Fin 4) : (spillBegun s k head time).ret.slots.at_ j = s.ret.slots.at_ j := by
    rw [(spillBegun_changes s k head time).2.1, hplaced]
    cases hj : s.ret.slots.at_ j with
    | none => rfl
    | some r =>
      have hclosed : ¬ (j = k ∧ r.openSpill.isSome = true) := by
        rintro ⟨rfl, hopen⟩
        simp [hslot r hj] at hopen
      rw [Option.map_some, if_neg hclosed]
  exact Vector.ext fun i hi => hcell ⟨i, hi⟩

/-! ### In the outfall's slot (R105, R106) -/

theorem spillPlaced_of_no_room (h : 48 ≤ s.ret.log.length ∨ s.ret.nextId = none) : spillPlaced s k head time
    = (s.setOutfall k { s.spill.at_ k with remainder := 0 }).withRet { s.ret with
        slots := s.ret.slots.put k (some (slotRecord s k head time)) } := by
  refine (placeSpill_of_no_room (s := s.setOutfall k _) h).trans ?_
  unfold placeSpill.placeSlot slotRecord
  simp only [State.setOutfall_fields]
  cases s.ret.slots.at_ k <;> rfl

theorem openSpill_slotRecord : ∃ o, (slotRecord s k head time).openSpill = some o ∧ o.cls = startClass s := by
  unfold slotRecord
  cases s.ret.slots.at_ k <;> exact ⟨_, rfl, rfl⟩

theorem openRecord_spillPlaced_of_no_room (h : 48 ≤ s.ret.log.length ∨ s.ret.nextId = none)
    (hnone : ∀ e ∈ s.ret.log, e.record.isOpenOf k = false) :
    openRecord (spillPlaced s k head time) k = some (none, slotRecord s k head time) := by
  obtain ⟨o, ho, -⟩ := openSpill_slotRecord (s := s) (k := k) (head := head) (time := time)
  rw [openRecord_of_noneOpen (by rw [spillPlaced_of_no_room h]; exact hnone), spillPlaced_of_no_room h]
  simp [SpillRecord.isOpen, ho]

/-- The outfall's slot holds the record with the first block of the start, and the other slots stay. -/
theorem slots_spillBegun_of_no_room (h : 48 ≤ s.ret.log.length ∨ s.ret.nextId = none) (j : Fin 4) :
    (spillBegun s k head time).ret.slots.at_ j
      = if j = k then some (firstBlock s k (slotRecord s k head time)) else s.ret.slots.at_ j := by
  obtain ⟨o, ho, -⟩ := openSpill_slotRecord (s := s) (k := k) (head := head) (time := time)
  rw [(spillBegun_changes s k head time).2.1, spillPlaced_of_no_room h]
  simp only [State.withRet_fields, Tab.at_put]
  by_cases hj : j = k
  · simp [hj, ho]
  · rw [if_neg (Ne.symm hj), if_neg hj]
    cases s.ret.slots.at_ j <;> simp [hj]

theorem firstBlock_newAggregate (hslot : s.ret.slots.at_ k = none) : firstBlock s k (slotRecord s k head time)
    = { newAggregate s k time (startClass s) head.toNat with
        blocks := (startedSpill s k head time).blocks, openSpill := some (startedSpill s k head time) } := by
  unfold firstBlock slotRecord startedSpill
  rw [hslot]
  split <;> rfl

theorem firstBlock_absorb {r : SpillRecord} (hslot : s.ret.slots.at_ k = some r) : firstBlock s k (slotRecord s k head time)
    = { absorb s time (startClass s) head.toNat r with
        blocks := if s.now < (s.ret.counts.at_ k).blockEnd then r.blocks else addHeld Config.max16 r.blocks 1
        openSpill := some (startedSpill s k head time) } := by
  unfold firstBlock slotRecord startedSpill
  rw [hslot]
  split <;> rfl

/-! ### In either place -/

theorem spillIsDry_spillPlaced (hnone : ∀ e ∈ s.ret.log, e.record.isOpenOf k = false) :
    spillIsDry (spillPlaced s k head time) k = (startClass s == .dry) := by
  rw [spillIsDry_eq, openSpillOf_eq_bind]
  by_cases hplace : 48 ≤ s.ret.log.length ∨ s.ret.nextId = none
  · obtain ⟨o, ho, hcls⟩ := openSpill_slotRecord (s := s) (k := k) (head := head) (time := time)
    simp [openRecord_spillPlaced_of_no_room hplace hnone, ho, hcls]
  · rw [not_or, Nat.not_le] at hplace
    obtain ⟨id, hid⟩ := Option.ne_none_iff_exists'.mp hplace.2
    simp [openRecord_spillPlaced_of_room hid hplace.1 hnone, newRecord]

theorem openId_spillBegun_of_room {id : Nat} (hid : s.ret.nextId = some id) (hroom : s.ret.log.length < 48)
    (hnone : ∀ e ∈ s.ret.log, e.record.isOpenOf k = false) : openId (spillBegun s k head time) k = some id := by
  rw [openId_of_changes (spillBegun_changes s k head time) (actsOnSpill_firstBlock s k), openId_eq_bind,
    openRecord_spillPlaced_of_room hid hroom hnone]
  rfl

theorem openId_spillBegun_of_no_room (h : 48 ≤ s.ret.log.length ∨ s.ret.nextId = none)
    (hnone : ∀ e ∈ s.ret.log, e.record.isOpenOf k = false) : openId (spillBegun s k head time) k = none := by
  rw [openId_of_changes (spillBegun_changes s k head time) (actsOnSpill_firstBlock s k), openId_eq_bind,
    openRecord_spillPlaced_of_no_room h hnone]
  rfl

end Placed

end Sys2Proof.Machine

/-! PROOF. An acceptance as a whole: the state follows the head, and the open record with it (R79 to R89, R93, R94). -/

namespace Sys2Proof.Machine

/-! ### The spill state (R79 to R83) -/

/-- The spill state of an outfall after an acceptance. -/
def nextSpillState (s : State) (k : Fin 4) (head : Int) (time : Nat) : SpillState :=
  match s.spillState k with
  | .quiet => if ((s.outfall k).onset : Int) ≤ head then .spilling else .quiet
  | .spilling => if head < ((s.outfall k).onset : Int) - ((s.outfall k).hysteresis : Int) then
      .tailing time (time + (s.outfall k).tail) else .spilling
  | .tailing tentative deadline => if ((s.outfall k).onset : Int) ≤ head then .spilling else .tailing tentative deadline
  | .blind => if ((s.outfall k).onset : Int) ≤ head then .spilling else .tailing time (time + (s.outfall k).tail)

/-- The takers of a start leave the spill states and the retained contents as the accountant left them. -/
theorem startSpill_fields (s : State) (k : Fin 4) (head : Int) (time : Nat) :
    (startSpill k head time s).spill = (spillBegun s k head time).spill ∧ (startSpill k head time s).ret = (spillBegun s k head time).ret := by
  rw [startSpill_eq]
  obtain ⟨hspill, -, hret⟩ := outfallChanged_fields k (postAt time k.val (.spillStarted (openId (spillBegun s k head time) k)
    (startClass s) (if s.now < (s.ret.counts.at_ k).blockEnd then .merged else .opened) head) (spillBegun s k head time))
  exact ⟨hspill, hret⟩

theorem spillState_spillTransition (s : State) (k j : Fin 4) (head : Int) (time : Nat) :
    (spillTransition k head time s).spillState j = if k = j then nextSpillState s k head time else s.spillState j := by
  have hstays (h : nextSpillState s k head time = s.spillState k) :
      s.spillState j = if k = j then nextSpillState s k head time else s.spillState j := by
    split
    · next hj => rw [h, hj]
    · rfl
  cases hstate : s.spillState k with
  | quiet =>
    rw [spillTransition_of_quiet hstate]
    split
    · next honset =>
      rw [nextSpillState, hstate]
      simp only [if_pos honset]
      rw [← spillState_spillBegun s k head time j]
      exact congrArg (fun v : Tab 4 OutfallVol => (v.at_ j).state) (startSpill_fields s k head time).1
    · next honset => exact hstays (by simp only [nextSpillState, hstate, if_neg honset])
  | spilling =>
    rw [spillTransition_of_spilling hstate]
    split
    · next hlow => simp only [beginTail, spillState_enterSpillState, nextSpillState, hstate, if_pos hlow]
    · next hlow => exact hstays (by simp only [nextSpillState, hstate, if_neg hlow])
  | tailing tentative deadline =>
    rw [spillTransition_of_tailing hstate]
    split
    · next honset =>
      have hreturns : (enterSpillState k .spilling s).spillState j = if k = j then nextSpillState s k head time else s.spillState j := by
        simp only [spillState_enterSpillState, nextSpillState, hstate, if_pos honset]
      split
      · exact (congrArg (fun v : Tab 4 OutfallVol => (v.at_ j).state) (carryBlock_fields k s.now _).2.1).trans hreturns
      · exact hreturns
    · next honset => exact hstays (by simp only [nextSpillState, hstate, if_neg honset])
  | blind =>
    rw [spillTransition_of_blind hstate]
    split
    · next honset => simp only [spillState_enterSpillState, nextSpillState, hstate, if_pos honset]
    · next honset => simp only [beginTail, spillState_enterSpillState, nextSpillState, hstate, if_neg honset]

theorem SameButFigures.nextSpillState {s u : State} (h : SameButFigures s u) (k : Fin 4) (head : Int) (time : Nat) :
    nextSpillState u k head time = nextSpillState s k head time := by
  have houtfall : u.outfall k = s.outfall k := congrArg (·.outfalls.at_ k) h.image
  unfold Machine.nextSpillState
  rw [h.spillState, houtfall]

/-! ### The whole acceptance -/

section Acceptance
variable {b : Fin 8} {k : Fin 4} {value time : Nat} {previous : Option Nat} {head : Int} {s : State}

theorem spillAcceptance_eq (hk : outfallOf s b = some k) (hconfigured : (s.outfall k).configured = true) :
    spillAcceptance b value time previous s = spillTransition k ((value : Int) - ((s.bay b).crest : Int)) time
      (accrueAndPeak k ((value : Int) - ((s.bay b).crest : Int)) time previous s) := by
  simp only [spillAcceptance, hk, hconfigured, if_true]

/-- The open record takes each change with the spill (R78, R103, R105). -/
theorem acceptance_changes (hquiet : s.spillState k ≠ .quiet) :
    OpenRecordChanges s (spillTransition k head time (accrueAndPeak k head time previous s)) k
      (recordMoved (volumeAccrued s k (litresFound s k head (accrualInterval time previous))) (blocksCarried s k head) head) := by
  have hsame := sameButFigures_accrueAndPeak k head time previous s
  have hmoved := (accrueAndPeak_changes head time previous hquiet).trans (actsOnSpill_recordMoved _ _ head).keepsOpen
    (spillTransition_changes (head := head) (time := time) (by rwa [hsame.spillState]))
  rw [hsame.carriesBlock] at hmoved
  cases hcarries : carriesBlock s k head with
  | true =>
    have hblocks : blocksCarried s k head = fun n => addHeld Config.max16 n 1 := funext fun n => if_pos hcarries
    rw [hblocks, ← addBlock_recordMoved]
    simpa only [hcarries, if_true] using hmoved
  | false =>
    have hblocks : blocksCarried s k head = fun n => n := funext fun n => if_neg (by simp [hcarries])
    rw [hblocks]
    simpa only [hcarries, Bool.false_eq_true, if_false] using hmoved

theorem remainder_acceptance (hquiet : s.spillState k ≠ .quiet) :
    ((spillTransition k head time (accrueAndPeak k head time previous s)).spill.at_ k).remainder
      = if s.spillState k = .blind then (s.spill.at_ k).remainder else litresFound s k head (accrualInterval time previous) % 100 := by
  have hsame := sameButFigures_accrueAndPeak k head time previous s
  rw [remainder_spillTransition (by rwa [hsame.spillState]), remainder_accrueAndPeak head time previous hquiet]

/-- An acceptance that starts no spill and carries no block counts nothing and posts nothing. -/
theorem acceptance_silent (hquiet : s.spillState k ≠ .quiet) (hcarries : carriesBlock s k head = false) :
    (spillTransition k head time (accrueAndPeak k head time previous s)).ret.counts = s.ret.counts
      ∧ (spillTransition k head time (accrueAndPeak k head time previous s)).port = s.port := by
  have hsame := sameButFigures_accrueAndPeak k head time previous s
  obtain ⟨hret, hport⟩ := spillTransition_of_not_carries (time := time) (hsame.spillState k ▸ hquiet) (hsame.carriesBlock.trans hcarries)
  exact ⟨(congrArg Retained.counts hret).trans hsame.counts, hport.trans hsame.port⟩

/-- An acceptance that carries a block counts it and posts one notice (R89, R94). -/
theorem acceptance_carries (hcarries : carriesBlock s k head = true) (hquiet : s.spillState k ≠ .quiet) :
    (spillTransition k head time (accrueAndPeak k head time previous s)).ret.counts = s.ret.counts.put k (blockCounted s k s.now)
      ∧ ∀ o, openSpillOf s k = some o → (spillTransition k head time (accrueAndPeak k head time previous s)).port = (postAt s.now k.val
        (.blockCarried (openId s k) (blockLength s k) (addHeld Config.max16 o.blocks 1)) s).port := by
  have hsame := sameButFigures_accrueAndPeak k head time previous s
  have hmoved := accrueAndPeak_changes head time previous hquiet
  have hacts := actsOnSpill_recordMoved (volumeAccrued s k (litresFound s k head (accrualInterval time previous))) (fun n => n) head
  rw [spillTransition_of_carries (hsame.carriesBlock.trans hcarries)]
  generalize accrueAndPeak k head time previous s = u at hsame hmoved ⊢
  have hnow : u.now = s.now := hsame.seconds
  have hlength : blockLength u k = blockLength s k := by simp only [blockLength, State.outfall, hsame.image]
  have hblock : blockCounted (enterSpillState k .spilling u) k u.now = blockCounted s k s.now := by
    have hentered : blockCounted (enterSpillState k .spilling u) k u.now = blockCounted u k u.now := rfl
    rw [hentered]
    simp only [blockCounted, hsame.counts, hlength, hnow, spillIsDry_of_changes hmoved hacts fun _ => rfl]
  refine ⟨?counts, fun o ho => ?port⟩
  case counts => rw [counts_carryBlock, hblock, (enterSpillState_fields k .spilling u).1, hsame.counts]
  case port =>
    have hopen : openSpillOf (enterSpillState k .spilling u) k
        = some (spillMoved (volumeAccrued s k (litresFound s k head (accrualInterval time previous))) (fun n => n) head o) := by
      rw [openSpillOf_congr (t := enterSpillState k .spilling u) (s := u) rfl rfl, openSpillOf_of_changes hmoved hacts, ho, Option.map_some]
    have hid : openId (enterSpillState k .spilling u) k = openId s k := by
      rw [openId_congr (t := enterSpillState k .spilling u) (s := u) rfl rfl, openId_of_changes hmoved hacts]
    have hlength' : blockLength (enterSpillState k .spilling u) k = blockLength s k := hlength
    rw [port_carryBlock hopen, hid, hlength', hnow]
    exact port_postAt_congr hsame.port hsame.clockSet hsame.offset _ _ _

end Acceptance

end Sys2Proof.Machine

/-! PROOF. The spill state, the counts, the records and the notices follow the head (R79 to R89, R93, R94, R102 to R106, R114). -/

namespace Sys2Proof.Machine

/-! ### The counts and the notice of a start -/

section Start
variable {s : State} {k : Fin 4} {head : Int} {time : Nat}

theorem startedCounts_fields (dry : Bool) : (startedCounts s k dry).current.events = addHeld Config.max32 (s.ret.counts.at_ k).current.events 1
    ∧ (startedCounts s k dry).blockEnd
      = (if s.now < (s.ret.counts.at_ k).blockEnd then (s.ret.counts.at_ k).blockEnd else s.now + blockLength s k)
    ∧ (startedCounts s k dry).current.blocks = (if s.now < (s.ret.counts.at_ k).blockEnd then (s.ret.counts.at_ k).current.blocks
      else addHeld Config.max32 (s.ret.counts.at_ k).current.blocks 1)
    ∧ (startedCounts s k dry).current.dryBlocks = (if s.now < (s.ret.counts.at_ k).blockEnd ∨ dry = false then
      (s.ret.counts.at_ k).current.dryBlocks else addHeld Config.max32 (s.ret.counts.at_ k).current.dryBlocks 1) := by
  unfold startedCounts
  dsimp only
  split
  · next hmerged => exact ⟨rfl, rfl, rfl, (if_pos (Or.inl hmerged)).symm⟩
  · next hmerged => cases dry <;> simp [hmerged, eventCounted]

theorem counts_startSpill : (startSpill k head time s).ret.counts.at_ k = startedCounts s k (spillIsDry (spillPlaced s k head time) k) := by
  rw [(startSpill_fields s k head time).2, counts_spillBegun, Tab.at_put, if_pos rfl]

/-- The class of a start is DRY unless it is RAIN (R86). -/
theorem startClass_beq_dry : (startClass s == .dry) = false ↔ startClass s = .rain := by
  cases startClass s <;> decide

/-- The notice of a start is posted on what the placing of its record left of the port (R80 step 7, R93). -/
theorem startSpill_told {id : Option Nat} (hid : openId (spillBegun s k head time) k = id) {port : Port}
    (hport : (spillPlaced s k head time).port = port) : ∃ u : State, u.port = port ∧ u.ret.clockSet = s.ret.clockSet
      ∧ u.ret.offset = s.ret.offset ∧ startSpill k head time s = outfallChanged k (postAt time k.val
        (.spillStarted id (startClass s) (if s.now < (s.ret.counts.at_ k).blockEnd then .merged else .opened) head) u) := by
  obtain ⟨hbegun, hset, hoffset⟩ := spillBegun_fields s k head time
  exact ⟨_, hbegun.trans hport, hset, hoffset, hid ▸ startSpill_eq s k head time⟩

end Start

/-! ### The obligation -/

/-- Settles O43: what an acceptance accrues and raises, then its transition by the state that it finds. -/
theorem spillStateFollowsTheHead : Obligations.SpillStateFollowsTheHead := by
  intro b k value time previous s hk hconfigured head onset low tail c merged cls noneOpen opened interval litres volume carried blocks t
    started
  let u := accrueAndPeak k head time previous s
  have ht : t = spillTransition k head time u := spillAcceptance_eq hk hconfigured
  have hsame : SameButFigures s u := sameButFigures_accrueAndPeak k head time previous s
  have hlitres : litresFound s k head (accrualInterval time previous) = litres := by
    cases previous <;> rfl
  have hstates (j : Fin 4) : t.spillState j = if k = j then nextSpillState s k head time else s.spillState j := by
    rw [ht, spillState_spillTransition, hsame.nextSpillState, hsame.spillState]
  have hstate : t.spillState k = nextSpillState s k head time := (hstates k).trans (if_pos rfl)
  have hquietly (h : s.spillState k = .quiet) : t = if onset ≤ head then startSpill k head time s else s := by
    have hu : u = s := accrueAndPeak_of_quiet head time previous h
    rw [ht, hu]
    exact spillTransition_of_quiet h
  have hsilent (h : s.spillState k ≠ .quiet) (hc : carriesBlock s k head = false) : t.ret.counts = s.ret.counts ∧ t.port = s.port :=
    ht ▸ acceptance_silent h hc
  have hmoved (h : s.spillState k ≠ .quiet) : OpenRecordChanges s t k (recordMoved (volumeAccrued s k litres) (blocksCarried s k head) head) := by
    rw [ht, ← hlitres]
    exact acceptance_changes h
  have hspill (h : s.spillState k ≠ .quiet) (o : OpenSpill) (ho : openSpillOf s k = some o) :
      openSpillOf t k = some (spillMoved (volumeAccrued s k litres) (blocksCarried s k head) head o) := by
    rw [openSpillOf_of_changes (hmoved h) (actsOnSpill_recordMoved _ _ head), ho, Option.map_some]
  refine ⟨fun j hj => (hstates j).trans (if_neg (Ne.symm hj)), fun hq hbelow => (hquietly hq).trans (if_neg (Int.not_le.mpr hbelow)),
    fun hq honset => ?start, fun hspilling => ?spilling, fun tentative deadline htailing => ?tailing, fun hblind => ?blind,
    fun o hopen ho => ⟨_, hspill hopen o ho, rfl, ?figures⟩, hmoved⟩
  case start =>
    have hstarted : t = startSpill k head time s := (hquietly hq).trans (if_pos honset)
    have hret : t.ret = (spillBegun s k head time).ret := hstarted ▸ (startSpill_fields s k head time).2
    have hcounts : t.ret.counts.at_ k = startedCounts s k (spillIsDry (spillPlaced s k head time) k) := hstarted ▸ counts_startSpill
    obtain ⟨hevents, hend, hblocks, hdry⟩ := startedCounts_fields (s := s) (k := k) (spillIsDry (spillPlaced s k head time) k)
    rw [← hcounts] at hevents hend hblocks hdry
    have hnext : t.ret.nextId = (spillPlaced s k head time).ret.nextId := hret ▸ (spillBegun_changes s k head time).2.2
    have htold (id : Option Nat) (port : Port) (hid : openId (spillBegun s k head time) k = id)
        (hport : (spillPlaced s k head time).port = port) : started id port := by
      obtain ⟨w, hw⟩ := startSpill_told hid hport
      rw [← hstarted] at hw
      exact ⟨w, hw⟩
    refine ⟨hstate.trans (by simp only [nextSpillState, hq]; exact if_pos honset), hevents, hend, hblocks, fun hnone => ?dry,
      fun id hid hroom => ?room, fun hplace => ?noRoom⟩
    case dry =>
      rw [spillIsDry_spillPlaced hnone] at hdry
      simp only [startClass_beq_dry] at hdry
      exact hdry
    case room =>
      have hlength : t.ret.log.length = s.ret.log.length + 1 := hret ▸ length_log_spillBegun hid hroom
      have hnewest : t.ret.log.getLast? = some { id := id, record := { newRecord s k time (startClass s) head.toNat with
          blocks := (startedSpill s k head time).blocks, openSpill := some (startedSpill s k head time) } } := by
        rw [hret, getLast?_log_spillBegun hid hroom, firstBlock_newRecord]
      refine ⟨hlength, _, startedSpill s k head time, hnewest, rfl, rfl, rfl, rfl, rfl, rfl, rfl, rfl, rfl, rfl, rfl, rfl, ?nextId,
        fun hnone => ?log, fun hslot => ?slots, fun hnone => ⟨fun hlength => ?posted, fun oldest hlength hhead => ?filled⟩⟩
      case nextId => rw [hnext, ret_spillPlaced_of_room hid hroom]; rfl
      case log => rw [hret, log_spillBegun_of_room hid hroom hnone, firstBlock_newRecord]; rfl
      case slots => exact (congrArg Retained.slots hret).trans (slots_spillBegun_of_room hid hroom hslot)
      case posted =>
        refine htold _ _ (openId_spillBegun_of_room hid hroom hnone) ?_
        rw [spillPlaced_of_room hid hroom]
        exact port_enterLog_of_room (s := s.setOutfall k _) hlength id _
      case filled =>
        refine htold _ _ (openId_spillBegun_of_room hid hroom hnone) ?_
        rw [spillPlaced_of_room hid hroom]
        exact (port_enterLog_of_full (s := s.setOutfall k _) hlength hhead rfl id).trans (port_postAt_congr rfl rfl rfl _ _ _)
    case noRoom =>
      refine ⟨?sameId, fun j hj => ?otherSlots, fun hnone => ⟨?sameLog, ?told⟩, fun hslot => ?opened, fun r hslot => ?absorbed⟩
      case sameId => rw [hnext, spillPlaced_of_no_room hplace]; rfl
      case otherSlots => rw [hret, slots_spillBegun_of_no_room hplace, if_neg hj]
      case sameLog =>
        rw [hret, (spillBegun_changes s k head time).1, spillPlaced_of_no_room hplace]
        exact log_map_of_noneOpen hnone _
      case told =>
        refine htold _ _ (openId_spillBegun_of_no_room hplace hnone) ?_
        rw [spillPlaced_of_no_room hplace]
        rfl
      case opened => rw [hret, slots_spillBegun_of_no_room hplace, if_pos rfl, firstBlock_newAggregate hslot]; rfl
      case absorbed => rw [hret, slots_spillBegun_of_no_room hplace, if_pos rfl, firstBlock_absorb hslot]; rfl
  case spilling =>
    have hopen : s.spillState k ≠ .quiet := by simp [hspilling]
    exact ⟨hstate.trans (by simp only [nextSpillState, hspilling]; rfl), hsilent hopen (by simp only [carriesBlock, hspilling])⟩
  case blind =>
    have hopen : s.spillState k ≠ .quiet := by simp [hblind]
    exact ⟨hstate.trans (by simp only [nextSpillState, hblind]; rfl), hsilent hopen (by simp only [carriesBlock, hblind])⟩
  case tailing =>
    have hopen : s.spillState k ≠ .quiet := by simp [htailing]
    have hcarries : carriesBlock s k head = decide (onset ≤ head ∧ ¬ merged) := by simp only [carriesBlock, htailing]; rfl
    refine ⟨fun honset => ⟨?returns, fun hmerged => ?merged, fun hpast => ?carried⟩, fun hbelow => ?below⟩
    case returns => exact hstate.trans (by simp only [nextSpillState, htailing]; exact if_pos honset)
    case merged =>
      have hnot : carriesBlock s k head = false := hcarries.trans (decide_eq_false fun h => h.2 hmerged)
      obtain ⟨hcounts, hport⟩ := hsilent hopen hnot
      refine ⟨hcounts, hport, fun o x ho hx => ?_⟩
      obtain rfl := Option.some.inj ((hspill hopen o ho).symm.trans hx)
      exact if_neg (by simp [hnot])
    case carried =>
      have hdoes : carriesBlock s k head = true := hcarries.trans (decide_eq_true ⟨honset, hpast⟩)
      obtain ⟨hcounts, hport⟩ := acceptance_carries (time := time) (previous := previous) hdoes hopen
      rw [← ht] at hcounts hport
      refine ⟨hcounts, fun o x ho hx => ?_⟩
      obtain rfl := Option.some.inj ((hspill hopen o ho).symm.trans hx)
      have hblocks : blocksCarried s k head o.blocks = addHeld Config.max16 o.blocks 1 := if_pos hdoes
      exact ⟨hblocks, (hport o ho).trans (by simp only [spillMoved, hblocks]; rfl)⟩
    case below =>
      have hnot : carriesBlock s k head = false := hcarries.trans (decide_eq_false fun h => absurd h.1 (Int.not_le.mpr hbelow))
      exact ⟨hstate.trans (by simp only [nextSpillState, htailing]; exact if_neg (Int.not_le.mpr hbelow)), hsilent hopen hnot⟩
  case figures =>
    have hremainder : (t.spill.at_ k).remainder = if s.spillState k = .blind then (s.spill.at_ k).remainder else litres % 100 := by
      rw [ht, ← hlitres]
      exact remainder_acceptance hopen
    refine ⟨fun h => ?blocks, fun h => ⟨if_pos h, hremainder.trans (if_pos h)⟩, fun h => ⟨if_neg h, hremainder.trans (if_neg h)⟩⟩
    case blocks =>
      have hnot : carriesBlock s k head = false := by rcases h with h | h <;> simp only [carriesBlock, h]
      exact if_neg (by simp [hnot])

end Sys2Proof.Machine

/-! PROOF. READ_SPILLS (R99, R103, R109). -/

namespace Sys2Proof.Machine

/-- A count from 1 to 7 is answered with the report, and another one is refused (R109). -/
theorem handleReadSpills_fields (fromId count : Nat) (s : State) : handleReadSpills (.fields ⟨fromId, count⟩) s =
    if 1 ≤ count ∧ count ≤ 7 then answerOk (.spills (spillsReport s fromId count)) s else refuse .refusedRange s := by
  simp only [handleReadSpills, onFields_fields, unlessRefused_cons, unlessRefused_nil, Bool.not_eq_true', ← inRange_iff,
    ← Bool.not_eq_true, ite_not]

/-- Settles O22: the request is refused by its length or its count, and is answered otherwise with the report of R109 on the state it finds. -/
theorem readSpillsReports : Obligations.ReadSpillsReports := by
  intro m q fromId count s hfree a
  have hlog : a.ret.log = s.ret.log := by simp [a]
  have hnext : a.ret.nextId = s.ret.nextId := by simp [a]
  refine ⟨fun hlow hhigh => ?inRange, ?wrongLength, fun hcount => ?outOfRange⟩
  case inRange =>
    rw [← hlog, ← hnext]
    exact hostRequest_ok (r := .readSpills (.fields ⟨fromId, count⟩)) hfree
      ((handleReadSpills_fields fromId count a).trans (if_pos ⟨hlow, hhigh⟩)) rfl rfl
  case wrongLength => exact hostRequest_refused (r := .readSpills .wrongLength) hfree rfl (by decide) (by decide)
  case outOfRange =>
    have hnot : ¬ (1 ≤ count ∧ count ≤ 7) := by omega
    exact hostRequest_refused (r := .readSpills (.fields ⟨fromId, count⟩)) hfree
      ((handleReadSpills_fields fromId count a).trans (if_neg hnot)) (by decide) (by decide)

end Sys2Proof.Machine

/-! PROOF. The transfer test and RELEASE_SPILLS (R101, R108, R110, R114). -/

namespace Sys2Proof.Machine

/-! ### The closed aggregate that goes first (R108) -/

/-- An outfall's slot holds a closed aggregate. -/
def ClosedIn (s : State) (x : Fin 4 × SpillRecord) : Prop := s.ret.slots.at_ x.1 = some x.2 ∧ x.2.openSpill = none

/-- What the search for the first closed aggregate makes of its best so far at the next outfall. -/
def preferred (s : State) (best : Option (Fin 4 × SpillRecord)) (k : Fin 4) : Option (Fin 4 × SpillRecord) :=
  match s.ret.slots.at_ k with
  | none => best
  | some r =>
    if r.isOpen then best
    else match best with
      | none => some (k, r)
      | some (k', r') => if r.firstStart < r'.firstStart then some (k, r) else some (k', r')

theorem firstClosed_eq_foldl (s : State) : firstClosed s = allOutfalls.foldl (preferred s) none := rfl

section Preferred
variable {s : State} {k : Fin 4}

theorem preferred_of_not_closed (h : ∀ r, ¬ ClosedIn s (k, r)) (best : Option (Fin 4 × SpillRecord)) : preferred s best k = best := by
  unfold preferred
  split
  · rfl
  · next r hslot =>
    have hopen : r.isOpen = true := Option.isSome_iff_ne_none.mpr fun hnone => h r ⟨hslot, hnone⟩
    exact if_pos hopen

theorem preferred_none {r : SpillRecord} (h : ClosedIn s (k, r)) : preferred s none k = some (k, r) := by
  obtain ⟨hslot, hclosed⟩ : s.ret.slots.at_ k = some r ∧ r.openSpill = none := h
  simp [preferred, hslot, SpillRecord.isOpen, hclosed]

theorem preferred_some {r : SpillRecord} (h : ClosedIn s (k, r)) (x : Fin 4 × SpillRecord) :
    preferred s (some x) k = if r.firstStart < x.2.firstStart then some (k, r) else some x := by
  obtain ⟨hslot, hclosed⟩ : s.ret.slots.at_ k = some r ∧ r.openSpill = none := h
  simp [preferred, hslot, SpillRecord.isOpen, hclosed]

end Preferred

/-- `best` is the closed aggregate of the outfalls of a list that goes first, or there is none (R108). -/
def FirstOf (s : State) (l : List (Fin 4)) : Option (Fin 4 × SpillRecord) → Prop
  | none => ∀ y, ClosedIn s y → y.1 ∉ l
  | some x => ClosedIn s x ∧ x.1 ∈ l ∧ ∀ y, ClosedIn s y → y.1 ∈ l → y = x ∨ GoesFirst x y

/-- An outfall without a closed aggregate changes nothing about the first of those before it. -/
theorem FirstOf.concat_of_not_closed {s : State} {l : List (Fin 4)} {k : Fin 4} {best : Option (Fin 4 × SpillRecord)}
    (h : FirstOf s l best) (hk : ∀ r, ¬ ClosedIn s (k, r)) : FirstOf s (l ++ [k]) best := by
  have hmem : ∀ y, ClosedIn s y → y.1 ∈ l ++ [k] → y.1 ∈ l := fun y hy hin => by
    rcases List.mem_append.mp hin with hin | hin
    · exact hin
    · obtain rfl : y.1 = k := List.mem_singleton.mp hin
      exact absurd hy (hk y.2)
  cases best with
  | none => exact fun y hy hin => h y hy (hmem y hy hin)
  | some x =>
    obtain ⟨hx, hxl, hfirst⟩ := h
    exact ⟨hx, List.mem_append_left _ hxl, fun y hy hin => hfirst y hy (hmem y hy hin)⟩

/-- The closed aggregate of a later outfall becomes the first where its first start is the earlier one. -/
theorem FirstOf.concat_of_closed {s : State} {l : List (Fin 4)} {k : Fin 4} {r : SpillRecord} {best : Option (Fin 4 × SpillRecord)}
    (h : FirstOf s l best) (hk : ClosedIn s (k, r)) (hlast : ∀ i ∈ l, i < k) : FirstOf s (l ++ [k]) (preferred s best k) := by
  have hcases : ∀ y, ClosedIn s y → y.1 ∈ l ++ [k] → y.1 ∈ l ∨ y = (k, r) := fun y hy hin => by
    refine (List.mem_append.mp hin).imp_right fun hin => ?_
    obtain rfl : y.1 = k := List.mem_singleton.mp hin
    exact Prod.ext rfl (Option.some.inj (hy.1.symm.trans hk.1))
  cases best with
  | none =>
    rw [preferred_none hk]
    exact ⟨hk, by simp, fun y hy hin => (hcases y hy hin).elim (fun hin => absurd hin (h y hy)) .inl⟩
  | some x =>
    obtain ⟨hx, hxl, hfirst⟩ := h
    rw [preferred_some hk]
    split
    · next hearlier =>
      refine ⟨hk, by simp, fun y hy hin => (hcases y hy hin).elim (fun hin => .inr (.inl ?_)) .inl⟩
      rcases hfirst y hy hin with rfl | hxy | ⟨hxy, -⟩
      · exact hearlier
      · exact Nat.lt_trans hearlier hxy
      · exact hxy ▸ hearlier
    · next hlater =>
      refine ⟨hx, List.mem_append_left _ hxl, fun y hy hin => (hcases y hy hin).elim (hfirst y hy) fun hyk => .inr ?_⟩
      subst hyk
      rcases Nat.lt_or_eq_of_le (Nat.not_lt.mp hlater) with hlt | heq
      · exact .inl hlt
      · exact .inr ⟨heq, hlast _ hxl⟩

/-- The search through outfalls in index order finds the closed aggregate that goes first. -/
theorem firstOf_foldl (s : State) {l : List (Fin 4)} (hl : l.Pairwise (· < ·)) : FirstOf s l (l.foldl (preferred s) none) := by
  induction l using List.reverseRecOn with
  | nil => exact fun y _ => List.not_mem_nil
  | append_singleton l k ih =>
    obtain ⟨hl, -, hlast⟩ := List.pairwise_append.mp hl
    rw [List.foldl_concat]
    by_cases hk : ∃ r, ClosedIn s (k, r)
    · obtain ⟨r, hk⟩ := hk
      exact (ih hl).concat_of_closed hk fun i hi => hlast i hi k (List.mem_singleton_self k)
    · have hnot : ∀ r, ¬ ClosedIn s (k, r) := not_exists.mp hk
      rw [preferred_of_not_closed hnot]
      exact (ih hl).concat_of_not_closed hnot

theorem firstOf_firstClosed (s : State) : FirstOf s allOutfalls (firstClosed s) :=
  firstClosed_eq_foldl s ▸ firstOf_foldl s (by decide)

theorem mem_allOutfalls : ∀ k : Fin 4, k ∈ allOutfalls := by decide

theorem firstClosed_eq_none {s : State} (h : firstClosed s = none) (x : Fin 4 × SpillRecord) : ¬ ClosedIn s x := by
  have hfirst := firstOf_firstClosed s
  rw [h] at hfirst
  exact fun hx => hfirst x hx (mem_allOutfalls x.1)

theorem firstClosed_eq_some {s : State} {x : Fin 4 × SpillRecord} (h : firstClosed s = some x) :
    ClosedIn s x ∧ ∀ y, ClosedIn s y → y = x ∨ GoesFirst x y := by
  have hfirst := firstOf_firstClosed s
  rw [h] at hfirst
  obtain ⟨hx, -, hleast⟩ := hfirst
  exact ⟨hx, fun y hy => hleast y hy (mem_allOutfalls y.1)⟩

/-! ### Transfers, one after another (R101, R108) -/

/-- What the transfer of the aggregate of an outfall's slot, under an id, leaves. -/
def entered (id : Nat) (x : Fin 4 × SpillRecord) (s : State) : State :=
  enterLog id x.2 (s.withRet { s.ret with slots := s.ret.slots.put x.1 none })

theorem ret_entered (id : Nat) (x : Fin 4 × SpillRecord) (s : State) : (entered id x s).ret = { s.ret with
    log := s.ret.log ++ [{ id := id, record := x.2 }], nextId := nextIdAfter id, slots := s.ret.slots.put x.1 none } := by
  rw [entered, ret_enterLog]
  rfl

theorem nextId_entered (id : Nat) (x : Fin 4 × SpillRecord) (s : State) : (entered id x s).ret.nextId = nextIdAfter id := by
  rw [ret_entered]

/-- From `s`, the transfers of the aggregates of a list, in its order, lead to `t`: each found room and an id, and went first. -/
inductive Transfers : State → List (Fin 4 × SpillRecord) → State → Prop
  | nil (s : State) : Transfers s [] s
  | cons {s t : State} {id : Nat} {x : Fin 4 × SpillRecord} {moved : List (Fin 4 × SpillRecord)} (hroom : s.ret.log.length < 48)
      (hid : s.ret.nextId = some id) (hfirst : firstClosed s = some x) (rest : Transfers (entered id x s) moved t) :
      Transfers s (x :: moved) t

/-- No transfer follows: the log takes no more, or no closed aggregate is left (R108). -/
def NoneFollows (t : State) : Prop := (48 ≤ t.ret.log.length ∨ t.ret.nextId = none) ∨ ∀ x, ¬ ClosedIn t x

/-- No transfer is made where the log refuses records or no slot holds a closed aggregate. -/
theorem transferOne_eq_none {s : State} (h : transferOne s = none) : NoneFollows s := by
  unfold transferOne at h
  split at h
  · split at h
    · simp at h
    · next hnot =>
      cases hid : s.ret.nextId with
      | none => exact .inl (.inr hid)
      | some id =>
        cases hfirst : firstClosed s with
        | none => exact .inr (firstClosed_eq_none hfirst)
        | some x => exact absurd hfirst (hnot id x.1 x.2 hid)
  · next hfull => exact .inl (.inl (Nat.not_lt.mp hfull))

/-- A transfer empties its slot and leaves the others. -/
theorem closedIn_entered {id : Nat} {x y : Fin 4 × SpillRecord} {s : State} :
    ClosedIn (entered id x s) y ↔ ClosedIn s y ∧ y.1 ≠ x.1 := by
  unfold ClosedIn
  rw [ret_entered, Tab.at_put]
  by_cases hk : x.1 = y.1
  · simp [hk]
  · simp [hk, Ne.symm hk]

/-- The outfalls whose slots hold closed aggregates. -/
def closedSlots (s : State) : Finset (Fin 4) :=
  Finset.univ.filter fun k => (s.ret.slots.at_ k).any fun r => r.openSpill.isNone

theorem mem_closedSlots {s : State} {k : Fin 4} : k ∈ closedSlots s ↔ ∃ r, ClosedIn s (k, r) := by
  simp [closedSlots, ClosedIn, Option.any_eq_true]

theorem closedSlots_entered (id : Nat) (x : Fin 4 × SpillRecord) (s : State) :
    closedSlots (entered id x s) = (closedSlots s).erase x.1 := by
  ext k
  simp only [mem_closedSlots, closedIn_entered, Finset.mem_erase, exists_and_right, and_comm (a := k ≠ x.1)]

/-- A loop that may go on for as many transfers as there are closed aggregates ends where no transfer follows. -/
theorem transfers_transferLoop {fuel : Nat} {s : State} (h : (closedSlots s).card ≤ fuel) (n : Nat) :
    ∃ moved, (transferLoop fuel n s).2 = n + moved.length ∧ Transfers s moved (transferLoop fuel n s).1
      ∧ NoneFollows (transferLoop fuel n s).1 := by
  induction fuel generalizing s n with
  | zero =>
    have hempty : closedSlots s = ∅ := Finset.card_eq_zero.mp (Nat.le_zero.mp h)
    refine ⟨[], rfl, .nil s, .inr fun x hx => ?_⟩
    exact Finset.notMem_empty x.1 (hempty ▸ mem_closedSlots.mpr ⟨x.2, hx⟩)
  | succ fuel ih =>
    unfold transferLoop
    split
    · next hnone => exact ⟨[], rfl, .nil s, transferOne_eq_none hnone⟩
    · next t ht =>
      obtain ⟨id, k, r, hroom, hid, hfirst, rfl⟩ := transferOne_eq_some ht
      have hin : k ∈ closedSlots s := mem_closedSlots.mpr ⟨r, (firstClosed_eq_some hfirst).1⟩
      have hfewer : (closedSlots (entered id (k, r) s)).card ≤ fuel := by
        rw [closedSlots_entered, Finset.card_erase_of_mem hin]
        omega
      obtain ⟨moved, hcount, htransfers, hnone⟩ := ih hfewer (n + 1)
      exact ⟨(k, r) :: moved, hcount.trans (by simp only [List.length_cons]; omega), .cons hroom hid hfirst htransfers, hnone⟩

/-- Four slots hold at most four closed aggregates. -/
theorem transfers_transferTest (s : State) : ∃ moved, (transferTest s).2 = moved.length ∧ Transfers s moved (transferTest s).1
    ∧ NoneFollows (transferTest s).1 := by
  simpa [transferTest] using transfers_transferLoop (s := s) (fuel := 4) (Finset.card_le_univ _) 0

/-- Where no closed aggregate waits, the transfer test does nothing. -/
theorem transferTest_of_none {s : State} (h : ∀ x, ¬ ClosedIn s x) : transferTest s = (s, 0) := by
  obtain ⟨moved, hcount, htransfers, -⟩ := transfers_transferTest s
  generalize transferTest s = tested at hcount htransfers ⊢
  obtain ⟨t, n⟩ := tested
  cases htransfers with
  | nil => exact Prod.ext rfl hcount
  | cons _ _ hfirst _ => exact absurd (firstClosed_eq_some hfirst).1 (h _)

/-! ### What the transfers have moved, and what they leave -/

section Moved
variable {s t : State} {moved : List (Fin 4 × SpillRecord)}

/-- Each went into the log as its slot held it. -/
theorem Transfers.closedIn (h : Transfers s moved t) : ∀ x ∈ moved, ClosedIn s x := by
  induction h with
  | nil => simp
  | cons _ _ hfirst _ ih =>
    exact List.forall_mem_cons.mpr ⟨(firstClosed_eq_some hfirst).1, fun y hy => (closedIn_entered.mp (ih y hy)).1⟩

theorem Transfers.pairwise (h : Transfers s moved t) : moved.Pairwise GoesFirst := by
  induction h with
  | nil => exact .nil
  | cons _ _ hfirst rest ih =>
    refine .cons (fun y hy => ?_) ih
    obtain ⟨hclosed, hother⟩ := closedIn_entered.mp (rest.closedIn y hy)
    exact ((firstClosed_eq_some hfirst).2 y hclosed).resolve_left fun heq => hother (congrArg Prod.fst heq)

/-- A closed aggregate that has not moved stays in its slot, and goes after all that have. -/
theorem Transfers.left (h : Transfers s moved t) {y : Fin 4 × SpillRecord} (hy : ClosedIn s y) (hnot : y ∉ moved) :
    ClosedIn t y ∧ ∀ x ∈ moved, GoesFirst x y := by
  induction h with
  | nil => exact ⟨hy, by simp⟩
  | @cons s t id x moved _ _ hfirst _ ih =>
    obtain ⟨hne, hnot⟩ := List.ne_and_not_mem_of_not_mem_cons hnot
    obtain ⟨hx, hleast⟩ := firstClosed_eq_some hfirst
    have hother : y.1 ≠ x.1 := fun heq => hne (Prod.ext heq (Option.some.inj (hy.1.symm.trans (heq ▸ hx.1))))
    obtain ⟨hleft, hafter⟩ := ih (closedIn_entered.mpr ⟨hy, hother⟩) hnot
    exact ⟨hleft, List.forall_mem_cons.mpr ⟨(hleast y hy).resolve_left hne, hafter⟩⟩

theorem Transfers.slots (h : Transfers s moved t) (k : Fin 4) :
    t.ret.slots.at_ k = if ∃ x ∈ moved, x.1 = k then none else s.ret.slots.at_ k := by
  induction h with
  | nil => simp
  | @cons s t id x moved _ _ _ _ ih =>
    have hcons : (∃ y ∈ x :: moved, y.1 = k) ↔ x.1 = k ∨ ∃ y ∈ moved, y.1 = k := List.exists_mem_cons_iff ..
    rw [ih, ret_entered, Tab.at_put]
    by_cases hk : x.1 = k
    · rw [if_pos hk, if_pos (hcons.mpr (.inl hk)), ite_self]
    · rw [if_neg hk, if_congr (hcons.trans (or_iff_right hk)) rfl rfl]

/-- Without a next id there is no transfer. -/
theorem Transfers.of_exhausted (h : Transfers s moved t) (hid : s.ret.nextId = none) : moved = [] ∧ t = s := by
  cases h with
  | nil => exact ⟨rfl, rfl⟩
  | cons _ hsome _ _ => simp [hid] at hsome

theorem Transfers.room (h : Transfers s moved t) : moved = [] ∨ s.ret.log.length + moved.length ≤ 48 := by
  induction h with
  | nil => exact .inl rfl
  | cons hroom _ _ _ ih =>
    refine .inr ?_
    rcases ih with rfl | ih
    · exact hroom
    · rw [ret_entered, List.length_append, List.length_singleton] at ih
      simp only [List.length_cons]
      omega

/-- The records take the ids from the next one on, in their order. -/
theorem Transfers.log (h : Transfers s moved t) {id : Nat} (hid : s.ret.nextId = some id) :
    t.ret.log = s.ret.log ++ moved.mapIdx fun i x => { id := id + i, record := x.2 } := by
  induction h generalizing id with
  | nil => simp
  | @cons s t first x moved _ hfirst _ rest ih =>
    obtain rfl : first = id := Option.some.inj (hfirst.symm.trans hid)
    have hnext := nextId_entered first x s
    rw [List.mapIdx_cons]
    by_cases hlast : first = Config.max32
    · obtain ⟨rfl, rfl⟩ := rest.of_exhausted (hnext.trans (if_pos hlast))
      simp [ret_entered]
    · rw [ih (hnext.trans (if_neg hlast)), ret_entered]
      simp [Nat.add_comm, Nat.add_left_comm]

theorem Transfers.nextId (h : Transfers s moved t) {id : Nat} (hid : s.ret.nextId = some id) (hrange : id ≤ 4294967295) :
    t.ret.nextId = if id + moved.length = 4294967296 then none else some (id + moved.length) := by
  induction h generalizing id with
  | nil => rw [hid, List.length_nil, if_neg (by omega)]; rfl
  | @cons s t first x moved _ hfirst _ rest ih =>
    obtain rfl : first = id := Option.some.inj (hfirst.symm.trans hid)
    have hnext := nextId_entered first x s
    by_cases hlast : first = 4294967295
    · have hnone := hnext.trans (if_pos hlast)
      obtain ⟨rfl, rfl⟩ := rest.of_exhausted hnone
      rw [hnone, if_pos (by simp [hlast])]
    · rw [ih (hnext.trans (if_neg hlast)) (by omega), List.length_cons]
      simp only [Nat.add_assoc, Nat.add_comm 1]

end Moved

/-! ### The notice of the transfer that fills the log (R114) -/

/-- `s` with the log, the next id and the slots of `t`. -/
def withLogOf (t s : State) : State := s.withRet { s.ret with log := t.ret.log, nextId := t.ret.nextId, slots := t.ret.slots }

/-- A log that does not hold 48 records is not announced as full. -/
theorem logFilled_of_ne {s : State} (h : s.ret.log.length ≠ 48) (r : SpillRecord) : logFilled r s = s := by
  unfold logFilled
  split
  · exact if_neg h
  · rfl

/-- A record that enters the log posts LOG_FULL where it has filled it (R102, R114). -/
theorem enterLog_eq_logFilled (id : Nat) (r : SpillRecord) (s : State) : enterLog id r s = logFilled r (s.withRet { s.ret with
    log := s.ret.log ++ [{ id := id, record := r }], nextId := nextIdAfter id }) := by
  unfold enterLog logFilled
  simp only [State.withRet_fields, List.getLast?_concat, Config.logCap, SpillRecord.isOpen]
  cases s.ret.log <;> rfl

/-- A transfer posts LOG_FULL where it has filled the log, and changes nothing beside the log, the next id and the slots. -/
theorem entered_eq_logFilled (id : Nat) (x : Fin 4 × SpillRecord) (s : State) :
    entered id x s = logFilled x.2 (withLogOf (entered id x s) s) := by
  rw [withLogOf, ret_entered]
  exact enterLog_eq_logFilled ..

/-- The notice that follows the last transfer, where there has been one. -/
def announcedBy : Option (Fin 4 × SpillRecord) → State → State
  | some last, s => logFilled last.2 s
  | none, s => s

/-- Only the last transfer can have filled the log: any other is followed by one that found room. -/
theorem Transfers.state {s t : State} {moved : List (Fin 4 × SpillRecord)} (h : Transfers s moved t) :
    t = announcedBy moved.getLast? (withLogOf t s) := by
  induction h with
  | nil => rfl
  | @cons s t id x moved _ _ _ rest ih =>
    cases rest with
    | nil => exact entered_eq_logFilled id x s
    | @cons _ _ _ y moved hroom _ _ rest =>
      have hsilent : entered id x s = withLogOf (entered id x s) s :=
        (entered_eq_logFilled id x s).trans (logFilled_of_ne (s := withLogOf (entered id x s) s) (Nat.ne_of_lt hroom) x.2)
      rw [List.getLast?_cons_cons]
      rwa [hsilent] at ih

/-! ### The obligation -/

/-- The transfer test, told by the aggregates that it has moved. -/
theorem transferred_transferTest (s : State) : Transferred s (transferTest s).1 (transferTest s).2 := by
  obtain ⟨moved, hcount, h, hnone⟩ := transfers_transferTest s
  refine ⟨moved, hcount, h.closedIn, h.pairwise, fun k r hslot hclosed hnot => ?left, ?room, fun hid => ?exhausted,
    fun id hid => ⟨h.log hid, fun hrange => ?nextId⟩, h.slots, h.state.trans ?notice⟩
  case left =>
    obtain ⟨hleft, hafter⟩ := h.left (y := (k, r)) ⟨hslot, hclosed⟩ hnot
    exact ⟨hafter, hnone.resolve_right fun hempty => hempty _ hleft⟩
  case room => exact hcount ▸ h.room
  case exhausted =>
    obtain ⟨hmoved, ht⟩ := h.of_exhausted hid
    exact ⟨hmoved, by rw [ht], by rw [ht, hid]⟩
  case nextId => exact hcount ▸ h.nextId hid hrange
  case notice => cases moved.getLast? <;> rfl

/-- What a release answers and leaves, told by the log that it keeps and by the transfer test on it (R110). -/
theorem handleReleaseSpills_fields (upTo : Nat) {s u : State} {kept : List LogEntry} {n : Nat}
    (hkept : s.ret.log.dropWhile (fun e => decide (e.id ≤ upTo) && e.record.openSpill.isNone) = kept)
    (htest : transferTest (s.withRet { s.ret with log := kept }) = (u, n)) :
    handleReleaseSpills (.fields upTo) s
      = answerOk (.released (releaseReport (s.ret.log.length - kept.length) n u)) u := by
  have hreleasable : releasable upTo = fun e => decide (e.id ≤ upTo) && e.record.openSpill.isNone := by
    funext e
    rw [releasable, SpillRecord.isOpen, Option.not_isSome]
  simp only [handleReleaseSpills, onFields_fields, hreleasable, hkept, htest]

/-- Settles O45: the transfer test moves the closed aggregates that go first, and a release is answered on what the test leaves of the log
that it keeps. -/
theorem releaseSpillsEmptiesTheOldestEnd : Obligations.ReleaseSpillsEmptiesTheOldestEnd := by
  refine ⟨transferred_transferTest, ?_⟩
  intro m q upTo s hfree a kept tested
  have hlog : a.ret.log = s.ret.log := by simp [a]
  have hslots : a.ret.slots = s.ret.slots := by simp [a]
  have hkept : a.ret.log.dropWhile (fun e => decide (e.id ≤ upTo) && e.record.openSpill.isNone) = kept := by rw [hlog]
  have hexec {u : State} {n : Nat} (htest : transferTest (a.withRet { a.ret with log := kept }) = (u, n)) :
      exec (.releaseSpills m q (.fields upTo)) s
        = .next (answered q 0xAD#8 .ok (.released (releaseReport (s.ret.log.length - kept.length) n u)) u) := by
    rw [← hlog]
    exact hostRequest_ok (r := .releaseSpills (.fields upTo)) hfree (handleReleaseSpills_fields upTo hkept htest) rfl rfl
  refine ⟨hexec rfl, fun hopen => hexec (transferTest_of_none fun x hx => ?_)⟩
  obtain ⟨hslot, hclosed⟩ := hx
  have hslot : s.ret.slots.at_ x.1 = some x.2 := hslots ▸ hslot
  simpa [hclosed] using hopen x.1 x.2 hslot

end Sys2Proof.Machine

/-! PROOF. What slot grant and the planner leave of a bay that they pass over (R126, R146, R147). -/

namespace Sys2Proof.Machine

/-! ### Eligible orders (R126) -/

theorem mem_eligibleBays {s : State} {b : Fin 8} : b ∈ eligibleBays s ↔ eligible s b = true := by
  simp [eligibleBays, mem_allBays]

/-- An eligible order is QUEUED. -/
theorem queued_of_eligible {s : State} {b : Fin 8} (h : eligible s b = true) : ∃ o, s.order b = some o ∧ o.state = .queued := by
  unfold eligible at h
  cases ho : s.order b with
  | none => simp [ho] at h
  | some o =>
    refine ⟨o, rfl, by_contra fun hs => ?_⟩
    simp [ho, firstUnmet, hs] at h

/-- Eligibility is read from the order and from what the reactions of the blocks keep; the end of a RESHUT does not matter. -/
theorem eligible_congr {s t : State} (hk : kept t = kept s) {b : Fin 8} (ho : ReshutLike (s.order b) (t.order b)) :
    eligible t b = eligible s b := by
  have hbay : t.bay b = s.bay b := congrArg (fun k => k.image.bays.at_ b) hk
  have hlevel : t.level b = s.level b := congrArg (fun k => k.lvl.records.at_ b) hk
  have hdevice (d : Fin 16) : t.device d = s.device d := congrArg (fun k => k.devices.at_ d) hk
  have hstop : t.term.worksStop = s.term.worksStop := congrArg (fun k => k.term.worksStop) hk
  have habove (n : Nat) : aboveTarget t b n = aboveTarget s b n := by simp only [aboveTarget, hlevel]
  have hhealthy : deviceHealthy t b = deviceHealthy s b := by simp only [deviceHealthy, hbay, hdevice]
  rcases ho with hsame | ⟨o, ho, hs, hends⟩
  · simp only [eligible, hsame, firstUnmet, hlevel, habove, hhealthy, hstop]
  · simp [eligible, firstUnmet, ho, hends, hs]

/-! ### Bays by rank (R126) -/

/-- A list of bays has no best ranked one where it is empty. -/
theorem bestRanked_eq_none {s : State} {l : List (Fin 8)} : bestRanked s l = none ↔ l = [] := by
  cases l with
  | nil => simp [bestRanked]
  | cons x t =>
    simp only [bestRanked, reduceCtorEq, iff_false]
    split
    · simp
    · split <;> simp

/-- The best ranked bay of a list stands in it. -/
theorem mem_of_bestRanked {s : State} {b : Fin 8} {l : List (Fin 8)} (h : bestRanked s l = some b) : b ∈ l := by
  induction l generalizing b with
  | nil => simp [bestRanked] at h
  | cons x t ih =>
    unfold bestRanked at h
    split at h
    · simp_all
    · rename_i z hz
      have hzt := ih hz
      split at h <;> simp_all

/-- The bay whose rank is below that of every other bay of a list is the best ranked. -/
theorem bestRanked_eq_some {s : State} {b : Fin 8} {l : List (Fin 8)} (hb : b ∈ l)
    (hbest : ∀ x ∈ l, x ≠ b → (s.bay b).rank < (s.bay x).rank) : bestRanked s l = some b := by
  induction l with
  | nil => simp at hb
  | cons x t ih =>
    have hrest : ∀ y ∈ t, y ≠ b → (s.bay b).rank < (s.bay y).rank := fun y hy => hbest y (List.mem_cons_of_mem x hy)
    unfold bestRanked
    by_cases ht : b ∈ t
    · rw [ih ht hrest]
      by_cases hxb : x = b
      · simp [hxb]
      · simp [hbest x (List.mem_cons_self ..) hxb]
    · obtain rfl : b = x := (List.mem_cons.mp hb).resolve_right ht
      cases hz : bestRanked s t with
      | none => rfl
      | some z =>
        have hzt := mem_of_bestRanked hz
        have hlt := hrest z hzt fun h => ht (h ▸ hzt)
        simp [Nat.lt_asymm hlt]

/-! ### An order enters OPENING (R117, R128) -/

/-- An order that enters OPENING with a credit, before its ENGAGE is put. -/
def openingAt (b : Fin 8) (o : Order) (s : State) : State := (consume s).setOrder b (some { o with state := .opening, credit := true })

theorem enterOpening_of_order {s : State} {b : Fin 8} {o : Order} (h : s.order b = some o) :
    enterOpening b s = putForOrder b .engage (openingAt b o s) := by
  simp only [enterOpening, h, openingAt]

theorem order_openingAt (b c : Fin 8) (o : Order) (s : State) :
    (openingAt b o s).order c = if b = c then some { o with state := .opening, credit := true } else s.order c :=
  State.order_setOrder (consume s) b c _

/-- A command that is put leaves an order that is not SUSPECT. -/
theorem order_putForOrder_of_not_suspect {s : State} {c : Fin 8} {o : Order} (h : s.order c = some o) (hs : o.state ≠ .suspect) (b : Fin 8)
    (k : LineCommand) : (putForOrder b k s).order c = some o := by
  have hlike : ReshutLike (s.order c) ((putForOrder b k s).order c) := (order_putForOrder b k s c).imp_right And.right
  rw [h] at hlike
  exact hlike.of_not_suspect hs

theorem order_enterOpening_self {s : State} {b : Fin 8} {o : Order} (h : s.order b = some o) :
    (enterOpening b s).order b = some { o with state := .opening, credit := true } := by
  rw [enterOpening_of_order h]
  exact order_putForOrder_of_not_suspect (by rw [order_openingAt, if_pos rfl]) (by simp) b .engage

/-- No other order changes, but for the end of a RESHUT. -/
theorem order_enterOpening_other {b c : Fin 8} (h : b ≠ c) (s : State) : ReshutLike (s.order c) ((enterOpening b s).order c) := by
  cases ho : s.order b with
  | none =>
    simp only [enterOpening, ho]
    exact .refl _
  | some o =>
    have hlike := order_putForOrder b .engage (openingAt b o s) c
    rw [order_openingAt, if_neg h] at hlike
    rw [enterOpening_of_order ho]
    exact hlike.imp_right And.right

/-! ### What passes a bay over -/

/-- Slot grant and the planner pass a bay over whose order is not QUEUED, or which has none and is inhibited (R126, R147). -/
structure PassedOver (s : State) (b : Fin 8) : Prop where
  order : ∀ o, s.order b = some o → o.state ≠ .queued
  inhibited : s.order b = none → (s.inhibit.at_ b).isSome = true

/-- From `r` to `s` a bay's order has stayed, but for the end of a RESHUT, no credit has been forfeited, and each command stands that no other
bay's order can supersede. -/
structure Undisturbed (b : Fin 8) (r s : State) : Prop where
  kept : kept s = kept r
  order : ReshutLike (r.order b) (s.order b)
  forfeited : s.drn.counters.forfeited = r.drn.counters.forfeited
  stands : ∀ {d : Fin 16} {c : LineCommand} {o : Originator}, (∀ x, x ≠ b → (r.bay x).device ≠ some d) → CommandStands r d c o →
    CommandStands s d c o

variable {b : Fin 8} {r s : State}

theorem Undisturbed.refl (b : Fin 8) (s : State) : Undisturbed b s s := ⟨rfl, .refl _, rfl, fun _ h => h⟩

/-- An operation that leaves the bay's order, the forfeits and the actuator line alone. -/
theorem Undisturbed.same {t : State} (h : Undisturbed b r s) (hk : Machine.kept t = Machine.kept s) (ho : t.order b = s.order b)
    (hf : t.drn.counters.forfeited = s.drn.counters.forfeited) (ha : t.act = s.act) : Undisturbed b r t where
  kept := hk.trans h.kept
  order := ho ▸ h.order
  forfeited := hf.trans h.forfeited
  stands hd hr := (h.stands hd hr).congr (by rw [ha]) (by rw [ha])

theorem Undisturbed.bay (h : Undisturbed b r s) (c : Fin 8) : s.bay c = r.bay c :=
  congrArg (fun k => k.image.bays.at_ c) h.kept

/-- A bay that is passed over goes on being so. -/
theorem Undisturbed.passedOver (h : Undisturbed b r s) (hr : PassedOver r b) : PassedOver s b where
  order o ho := by
    have hlike := h.order
    rw [ho] at hlike
    rcases hlike with hsame | ⟨p, hp, hsuspect, hends⟩
    · exact hr.order o hsame.symm
    · obtain rfl := Option.some.inj hends
      simp [hsuspect]
  inhibited ho := by
    have hsome := h.order.isSome
    rw [ho] at hsome
    have hinhibit : s.inhibit = r.inhibit := congrArg Kept.inhibit h.kept
    rw [hinhibit]
    exact hr.inhibited (Option.isNone_iff_eq_none.mp (by simpa using hsome.symm))

theorem PassedOver.not_eligible (h : PassedOver s b) : eligible s b ≠ true := fun he => by
  obtain ⟨o, ho, hs⟩ := queued_of_eligible he
  exact h.order o ho hs

theorem PassedOver.not_candidate (h : PassedOver s b) : (candidateUnmet s b).isSome = true := by
  cases ho : s.order b with
  | none =>
    have hinhibited := h.inhibited ho
    rw [candidateUnmet, if_pos hinhibited]
    split <;> rfl
  | some o =>
    unfold candidateUnmet
    rw [ho]
    repeat' split
    all_goals simp_all

/-- An order of another bay enters OPENING. -/
theorem undisturbed_enterOpening (h : Undisturbed b r s) {c : Fin 8} (hc : c ≠ b) : Undisturbed b r (enterOpening c s) := by
  cases ho : s.order c with
  | none => simpa only [enterOpening, ho] using h
  | some o =>
    have hopening : Undisturbed b r (openingAt c o s) :=
      h.same rfl (by rw [order_openingAt, if_neg hc]) rfl rfl
    refine ⟨(kept_enterOpening c s).trans h.kept, h.order.trans (order_enterOpening_other hc s), ?_, fun hd hr => ?_⟩
    · rw [enterOpening_of_order ho]
      have hpurse := purse_putForOrder c .engage (openingAt c o s)
      simp only [purse, Prod.mk.injEq] at hpurse
      rw [hpurse.2.1]
      exact hopening.forfeited
    · rw [enterOpening_of_order ho]
      refine commandStands_putForOrder_other (hopening.stands hd hr) ?_
      rw [hopening.bay]
      exact hd c hc

theorem undisturbed_creditsWanted (h : Undisturbed b r s) : Undisturbed b r (creditsWanted s) := by
  refine h.same (kept_creditsWanted s) ?_ ?_ (act_creditsWanted s)
  all_goals
    unfold creditsWanted
    repeat' split
    all_goals rfl

theorem undisturbed_slotGrant (hr : PassedOver r b) (h : Undisturbed b r s) : Undisturbed b r (slotGrant s) := by
  have hrounds (n : Nat) : ∀ {s : State}, Undisturbed b r s → Undisturbed b r (slotGrantRounds n s) := by
    induction n with
    | zero => exact undisturbed_creditsWanted
    | succ n ih =>
      intro s h
      unfold slotGrantRounds
      split
      · split
        · rename_i c hc
          refine ih (undisturbed_enterOpening h fun hcb => ?_)
          exact (h.passedOver hr).not_eligible (mem_eligibleBays.mp (hcb ▸ mem_of_bestRanked hc))
        · exact h
      · exact undisturbed_creditsWanted h
  exact hrounds 8 h

theorem undisturbed_plannerBay (hr : PassedOver r b) (h : Undisturbed b r s) (c : Fin 8) : Undisturbed b r (plannerBay s c) := by
  unfold plannerBay
  split
  · rename_i t hcandidate _
    have hcb : c ≠ b := by
      rintro rfl
      have := (h.passedOver hr).not_candidate
      simp [hcandidate] at this
    exact undisturbed_slotGrant hr (h.same rfl (by rw [State.order_setOrder, if_neg hcb]) rfl rfl)
  · exact h

theorem undisturbed_plannerEvaluation (hr : PassedOver r b) (h : Undisturbed b r s) : Undisturbed b r (plannerEvaluation s) := by
  have hfold (l : List (Fin 8)) : ∀ {s : State}, Undisturbed b r s → Undisturbed b r (l.foldl plannerBay s) := by
    induction l with
    | nil => exact fun h => h
    | cons c t ih => exact fun h => ih (undisturbed_plannerBay hr h c)
  exact hfold allBays h

@[simp] theorem act_intervalsChanged (s : State) : (intervalsChanged s).act = s.act := by
  have hfold (l : List (Fin 8)) (s : State) : (l.foldl (fun s b => reviseEntry b s) s).act = s.act := by
    induction l generalizing s with
    | nil => rfl
    | cons b t ih => rw [List.foldl_cons, ih, act_reviseEntry]
  rw [intervalsChanged, act_engineTake, hfold]

theorem undisturbed_evaluateMode (hr : PassedOver r b) (h : Undisturbed b r s) : Undisturbed b r (evaluateMode s) := by
  unfold evaluateMode
  split
  · exact h
  · refine undisturbed_plannerEvaluation hr (h.same (by simp) ?_ (by simp; rfl) (by simp))
    simp only [State.order, drn_intervalsChanged, drn_supplyFollowsMode]
    rfl

theorem undisturbed_plannerTake (hr : PassedOver r b) (h : Undisturbed b r s) : Undisturbed b r (plannerTake s) := by
  unfold plannerTake
  split
  · exact undisturbed_evaluateMode hr (undisturbed_plannerEvaluation hr h)
  · exact undisturbed_plannerEvaluation hr h

theorem undisturbed_sitePlanner (hr : PassedOver r b) (h : Undisturbed b r s) : Undisturbed b r (sitePlanner s) := by
  have hdropped : Undisturbed b r (dropChoice s) := h.same (by simp) rfl rfl rfl
  unfold sitePlanner
  split
  · exact undisturbed_plannerTake hr (undisturbed_evaluateMode hr hdropped)
  · exact undisturbed_evaluateMode hr (undisturbed_plannerTake hr hdropped)

end Sys2Proof.Machine

/-! PROOF. Slot grant (R117, R126, R127, R128). -/

namespace Sys2Proof.Machine

/-! ### What credits and slots are read from -/

theorem pool_congr {s t : State} (h : t.drn.grants = s.drn.grants) : pool t = pool s := by rw [pool, pool, h]

theorem freeSlots_congr {s t : State} (hi : t.image = s.image) (ho : t.drn.orders = s.drn.orders) : freeSlots t = freeSlots s := by
  rw [freeSlots, freeSlots, hi, slotHolders_congr ho]

theorem creditsWanted_drn (s : State) : (creditsWanted s).drn.grants = s.drn.grants ∧ (creditsWanted s).drn.orders = s.drn.orders := by
  unfold creditsWanted
  repeat' split
  all_goals exact ⟨rfl, rfl⟩

theorem creditsWanted_of_no_slot {s : State} (h : freeSlots s = 0) : creditsWanted s = s := by simp [creditsWanted, h]

theorem creditsWanted_of_none_eligible {s : State} (h : eligibleBays s = []) : creditsWanted s = s := by
  simp [creditsWanted, h, bestRanked]

/-! ### Rounds -/

/-- An order that enters OPENING leaves one eligible order less, and makes no other one eligible. -/
theorem eligibleBays_enterOpening {s : State} {b : Fin 8} (h : eligible s b = true) :
    (eligibleBays (enterOpening b s)).length < (eligibleBays s).length := by
  obtain ⟨o, ho, -⟩ := queued_of_eligible h
  have hothers : eligibleBays (enterOpening b s) = (eligibleBays s).filter fun c => decide (c ≠ b) := by
    rw [eligibleBays, eligibleBays, List.filter_filter]
    refine List.filter_congr fun c _ => ?_
    by_cases hc : c = b
    · subst hc
      simp [eligible, order_enterOpening_self ho, firstUnmet]
    · simp [hc, eligible_congr (kept_enterOpening b s) (order_enterOpening_other (Ne.symm hc) s)]
  rw [hothers, List.length_filter_lt_length_iff_exists]
  exact ⟨b, mem_eligibleBays.mpr h, by simp⟩

/-- Where no order is eligible, no round changes anything. -/
theorem slotGrantRounds_of_none_eligible {s : State} (h : eligibleBays s = []) (n : Nat) : slotGrantRounds n s = s := by
  cases n with
  | zero => exact creditsWanted_of_none_eligible h
  | succ n => simp [slotGrantRounds, h, bestRanked, creditsWanted_of_none_eligible h]

/-- A round moves the best ranked eligible order. -/
theorem slotGrantRounds_succ {s : State} {b : Fin 8} (hf : 0 < freeSlots s) (hp : 0 < pool s)
    (hb : bestRanked s (eligibleBays s) = some b) (n : Nat) : slotGrantRounds (n + 1) s = slotGrantRounds n (enterOpening b s) := by
  rw [slotGrantRounds, if_pos ⟨hf, hp⟩, hb]

/-- Without a free slot or a credit a round moves no order. -/
theorem slotGrantRounds_stopped {s : State} (h : ¬ (0 < freeSlots s ∧ 0 < pool s)) (n : Nat) : slotGrantRounds n s = creditsWanted s := by
  cases n with
  | zero => rfl
  | succ n => rw [slotGrantRounds, if_neg h]

/-- A free slot and a credit meet an eligible order, or slot grant stops, for want of one of the three. -/
theorem slotGrant_cases (s : State) : eligibleBays s = [] ∨ ¬ (0 < freeSlots s ∧ 0 < pool s)
    ∨ ∃ b, 0 < freeSlots s ∧ 0 < pool s ∧ bestRanked s (eligibleBays s) = some b ∧ eligible s b = true := by
  by_cases hgo : 0 < freeSlots s ∧ 0 < pool s
  · cases hb : bestRanked s (eligibleBays s) with
    | none => exact .inl (bestRanked_eq_none.mp hb)
    | some b => exact .inr (.inr ⟨b, hgo.1, hgo.2, rfl, mem_eligibleBays.mp (mem_of_bestRanked hb)⟩)
  · exact .inr (.inl hgo)

/-- As many rounds as there are eligible orders are enough. -/
theorem slotGrantRounds_enough {n : Nat} {s : State} (h : (eligibleBays s).length ≤ n) : slotGrantRounds (n + 1) s = slotGrantRounds n s := by
  induction n generalizing s with
  | zero =>
    have hnone : eligibleBays s = [] := List.length_eq_zero_iff.mp (Nat.le_zero.mp h)
    rw [slotGrantRounds_of_none_eligible hnone, slotGrantRounds_of_none_eligible hnone]
  | succ n ih =>
    rcases slotGrant_cases s with hnone | hstop | ⟨b, hf, hp, hb, he⟩
    · rw [slotGrantRounds_of_none_eligible hnone, slotGrantRounds_of_none_eligible hnone]
    · rw [slotGrantRounds_stopped hstop, slotGrantRounds_stopped hstop]
    · have hless := eligibleBays_enterOpening he
      rw [slotGrantRounds_succ hf hp hb, slotGrantRounds_succ hf hp hb, ih (by omega)]

theorem eligibleBays_length_le (s : State) : (eligibleBays s).length ≤ 8 := List.length_filter_le _ _

/-- Slot grant moves the best ranked eligible order, and goes on from there. -/
theorem slotGrant_moves {s : State} {b : Fin 8} (hf : 0 < freeSlots s) (hp : 0 < pool s) (hb : bestRanked s (eligibleBays s) = some b) :
    slotGrant s = slotGrant (enterOpening b s) := by
  have hless := eligibleBays_enterOpening (mem_eligibleBays.mp (mem_of_bestRanked hb))
  have hmax := eligibleBays_length_le s
  exact (slotGrantRounds_succ hf hp hb 7).trans (slotGrantRounds_enough (by omega)).symm

/-- Slot grant ends for want of a free slot, of a credit, or of an eligible order. -/
theorem slotGrantRounds_ends {n : Nat} {s : State} (h : (eligibleBays s).length ≤ n) :
    freeSlots (slotGrantRounds n s) = 0 ∨ pool (slotGrantRounds n s) = 0 ∨ eligibleBays (slotGrantRounds n s) = [] := by
  have hends (s : State) (hstop : ¬ (0 < freeSlots s ∧ 0 < pool s)) : freeSlots (creditsWanted s) = 0 ∨ pool (creditsWanted s) = 0 := by
    obtain ⟨hgrants, horders⟩ := creditsWanted_drn s
    rw [pool_congr hgrants, freeSlots_congr (congrArg Kept.image (kept_creditsWanted s)) horders]
    omega
  induction n generalizing s with
  | zero =>
    have hnone : eligibleBays s = [] := List.length_eq_zero_iff.mp (Nat.le_zero.mp h)
    rw [slotGrantRounds_of_none_eligible hnone]
    exact .inr (.inr hnone)
  | succ n ih =>
    rcases slotGrant_cases s with hnone | hstop | ⟨b, hf, hp, hb, he⟩
    · rw [slotGrantRounds_of_none_eligible hnone]
      exact .inr (.inr hnone)
    · rw [slotGrantRounds_stopped hstop]
      exact (hends s hstop).imp_right .inl
    · have hless := eligibleBays_enterOpening he
      rw [slotGrantRounds_succ hf hp hb]
      exact ih (by omega)

/-! ### The order that is served -/

/-- The order that has entered OPENING, and the ENGAGE that it has put, stay while slot grant goes on. -/
theorem undisturbed_opened {s : State} {b : Fin 8} {o : Order} (h : s.order b = some o) :
    Undisturbed b (enterOpening b s) (slotGrant (enterOpening b s)) := by
  have hopening := order_enterOpening_self h
  refine undisturbed_slotGrant ⟨fun x hx => ?_, fun hnone => ?_⟩ (.refl b _)
  · obtain rfl := Option.some.inj (hopening.symm.trans hx)
    simp
  · rw [hopening] at hnone
    cases hnone

theorem order_slotGrant_opened {s : State} {b : Fin 8} {o : Order} (h : s.order b = some o) :
    (slotGrant (enterOpening b s)).order b = some { o with state := .opening, credit := true } := by
  have hlike := (undisturbed_opened h).order
  rw [order_enterOpening_self h] at hlike
  exact hlike.of_not_suspect (by simp)

theorem commandStands_slotGrant_opened {s : State} {b : Fin 8} {o : Order} {d : Fin 16} (h : s.order b = some o)
    (hd : (s.bay b).device = some d) (hother : ∀ x, x ≠ b → (s.bay x).device ≠ some d) :
    CommandStands (slotGrant (enterOpening b s)) d .engage (.order b) := by
  have hbay (x : Fin 8) : (enterOpening b s).bay x = s.bay x := congrArg (fun k => k.image.bays.at_ x) (kept_enterOpening b s)
  refine (undisturbed_opened h).stands (fun x hx => by rw [hbay]; exact hother x hx) ?_
  rw [enterOpening_of_order h]
  exact commandStands_putForOrder (s := openingAt b o s) hd .engage

/-- A credit is taken from the first grant in consumption order, which leaves the list with its last one (R117). -/
theorem takeCredit_eq (gs : List Grant) : takeCredit gs = match gs with
    | g :: rest => if g.count ≤ 1 then rest else { g with count := g.count - 1 } :: rest
    | [] => [] := by
  cases gs <;> rfl

/-- Settles O47: a round moves the best ranked eligible order, eight rounds reach every eligible order, and what a round has moved the later
rounds pass over. -/
theorem slotGrantServesByRank : Obligations.SlotGrantServesByRank := by
  intro s t paid c moved
  have hmoved (b : Fin 8) (o : Order) : moved b o = openingAt b o s := by
    have hpaid : paid = takeCredit s.drn.grants := (takeCredit_eq _).symm
    simp only [moved, hpaid]
    rfl
  have hbest {b : Fin 8} (he : eligible s b = true)
      (hrank : ∀ x, eligible s x = true → x ≠ b → (s.bay b).rank < (s.bay x).rank) : bestRanked s (eligibleBays s) = some b :=
    bestRanked_eq_some (mem_eligibleBays.mpr he) fun x hx => hrank x (mem_eligibleBays.mp hx)
  refine ⟨slotGrantRounds_ends (eligibleBays_length_le s), fun b o ho he hrank hf hp => ?served,
    fun hnone => slotGrantRounds_of_none_eligible hnone 8, fun hf => ?noSlot, fun hp harmed => ?disarmed, fun b hf hp harmed he hrank => ?armed⟩
  case served =>
    have hgo : t = slotGrant (enterOpening b s) := slotGrant_moves hf hp (hbest he hrank)
    rw [hgo]
    refine ⟨order_slotGrant_opened ho, fun hd => ?_, fun d hd => ⟨?_, commandStands_slotGrant_opened ho hd⟩⟩
    all_goals
      have hd' : ((openingAt b o s).bay b).device = (s.bay b).device := rfl
      rw [enterOpening_of_order ho, hmoved, putForOrder, hd', hd]
  case noSlot => exact (slotGrantRounds_stopped (by omega) 8).trans (creditsWanted_of_no_slot hf)
  case disarmed =>
    refine (slotGrantRounds_stopped (by omega) 8).trans ?_
    simp [creditsWanted, harmed]
  case armed =>
    refine (slotGrantRounds_stopped (by omega) 8).trans ?_
    rw [creditsWanted, if_pos ⟨hf, hp, harmed⟩, hbest he hrank]

end Sys2Proof.Machine

/-! PROOF. GRANT, WITHDRAW and the expiry of a grant (R115, R116, R118, R119, R120). -/

namespace Sys2Proof.Machine

/-! ### GRANT (R115, R116) -/

/-- A grant stands after the grants that expire earlier or with it, and before those that expire later. -/
theorem insertGrant_append {g : Grant} {front back : List Grant} (hfront : ∀ x ∈ front, x.expiry ≤ g.expiry)
    (hback : ∀ x ∈ back, g.expiry < x.expiry) : insertGrant g (front ++ back) = front ++ g :: back := by
  induction front with
  | nil =>
    cases back with
    | nil => rfl
    | cons x t =>
      have hlater : ¬ x.expiry ≤ g.expiry := Nat.not_le.mpr (hback x (List.mem_cons_self ..))
      simp [insertGrant, hlater]
  | cons x t ih =>
    rw [List.cons_append, insertGrant, if_pos (hfront x (List.mem_cons_self ..)), ih fun y hy => hfront y (List.mem_cons_of_mem x hy)]
    rfl

/-- GRANT is checked for its ranges first, and then for a full list (log entry 59). -/
theorem handleGrant_fields (f : GrantFields) (s : State) : handleGrant (.fields f) s =
    if !(inRange 1 255 f.count && inRange 1 1440 f.lifetime) then refuse .refusedRange s
    else if decide (8 ≤ s.drn.grants.length) then refuse .refusedFull s
    else answerOk .empty (applyGrant f.count f.lifetime s) := by
  rw [handleGrant, onFields_fields, unlessRefused_cons, unlessRefused_cons, unlessRefused_nil]
  rfl

theorem grantInRange_iff {f : GrantFields} : (inRange 1 255 f.count && inRange 1 1440 f.lifetime) = true ↔
    (1 ≤ f.count ∧ f.count ≤ 255) ∧ 1 ≤ f.lifetime ∧ f.lifetime ≤ 1440 := by
  simp only [Bool.and_eq_true, inRange_iff]

/-! ### WITHDRAW (R119) -/

/-- A withdrawal removes what it asks for, up to what the list holds. -/
theorem removeCredits_count (n : Nat) (l : List Grant) : (removeCredits n l).1 = min n (l.map fun g => g.count).sum := by
  induction l generalizing n with
  | nil => simp [removeCredits]
  | cons g t ih =>
    unfold removeCredits
    rw [List.map_cons, List.sum_cons]
    split
    · omega
    · split
      · dsimp only
        omega
      · dsimp only
        rw [ih]
        omega

/-- A withdrawal that ends within a grant empties the grants that it meets before, and leaves those behind. -/
theorem removeCredits_append {n : Nat} {emptied rest : List Grant} {g : Grant} (hpos : ∀ x ∈ emptied, 1 ≤ x.count)
    (hle : (emptied.map fun x => x.count).sum ≤ n) (hlt : n < g.count + (emptied.map fun x => x.count).sum) :
    (removeCredits n (emptied ++ g :: rest)).2 = { g with count := g.count + (emptied.map fun x => x.count).sum - n } :: rest := by
  induction emptied generalizing n with
  | nil =>
    simp only [List.map_nil, List.sum_nil, Nat.add_zero] at hlt ⊢
    rw [List.nil_append, removeCredits]
    split
    · rename_i hn
      rw [hn, Nat.sub_zero]
    · rfl
  | cons x t ih =>
    have hx := hpos x (List.mem_cons_self ..)
    simp only [List.map_cons, List.sum_cons] at hle hlt ⊢
    rw [List.cons_append, removeCredits, if_neg (by omega), if_neg (by omega)]
    dsimp only
    rw [ih (fun y hy => hpos y (List.mem_cons_of_mem x hy)) (by omega) (by omega),
      show g.count + (t.map fun x => x.count).sum - (n - x.count) = g.count + (x.count + (t.map fun x => x.count).sum) - n by omega]

theorem withdrawn_count (n : Nat) (s : State) : (withdrawn n s).1 = min n (pool s) := by
  rw [withdrawn, removeCredits_count, List.map_reverse, List.sum_reverse, pool]

/-- What is left and what is removed are the pool. -/
theorem withdrawn_sum (n : Nat) (s : State) : ((withdrawn n s).2.map fun g => g.count).sum + min n (pool s) = pool s := by
  have hsum := removeCredits_sum n s.drn.grants.reverse
  rw [List.map_reverse, List.sum_reverse] at hsum
  rw [← withdrawn_count, withdrawn, List.map_reverse, List.sum_reverse, pool]
  omega

/-- Credits leave from the end of the list. -/
theorem withdrawn_left {n : Nat} {s : State} {front back : List Grant} {g : Grant} (hwf : grantsWf s.drn.grants)
    (hsplit : s.drn.grants = front ++ g :: back) (hle : (back.map fun g => g.count).sum ≤ n)
    (hlt : n < g.count + (back.map fun g => g.count).sum) :
    (withdrawn n s).2 = front ++ [{ g with count := g.count + (back.map fun g => g.count).sum - n }] := by
  obtain ⟨-, -, hcounts⟩ := hwf
  have hsum : (back.reverse.map fun g => g.count).sum = (back.map fun g => g.count).sum := by
    rw [List.map_reverse, List.sum_reverse]
  have hreverse : s.drn.grants.reverse = back.reverse ++ g :: front.reverse := by simp [hsplit]
  have hpos : ∀ x ∈ back.reverse, 1 ≤ x.count := fun x hx => (hcounts x (by rw [hsplit]; simp [List.mem_reverse.mp hx])).1
  rw [withdrawn, hreverse, removeCredits_append hpos (by rwa [hsum]) (by rwa [hsum]), hsum]
  simp

/-- The part of a list behind a grant holds no more than the pool holds without that grant. -/
theorem pool_split {s : State} {front back : List Grant} {g : Grant} (hsplit : s.drn.grants = front ++ g :: back) :
    g.count + (back.map fun g => g.count).sum ≤ pool s := by
  rw [pool, hsplit, List.map_append, List.sum_append, List.map_cons, List.sum_cons]
  omega

/-- WITHDRAW is checked for its range, and answered with what it has removed and what is left of the pool. -/
theorem handleWithdraw_fields (n : Nat) (s : State) : handleWithdraw (.fields n) s =
    if !(inRange 1 2040 n || n == 65535) then refuse .refusedRange s
    else answerOk (.withdrawn (min (if n = 65535 then pool s else n) (pool s)) (pool s - min (if n = 65535 then pool s else n) (pool s)))
      (applyWithdraw (if n = 65535 then pool s else n) s) := by
  have hleft (k : Nat) : pool (applyWithdraw k s) = pool s - min k (pool s) := by
    have hsum := withdrawn_sum k s
    have happlied : pool (applyWithdraw k s) = ((withdrawn k s).2.map fun g => g.count).sum := rfl
    omega
  rw [handleWithdraw, onFields_fields, unlessRefused_cons, unlessRefused_nil]
  simp only [withdrawn_count, hleft]
  rfl

theorem withdrawInRange_iff {n : Nat} : (inRange 1 2040 n || n == 65535) = true ↔ (1 ≤ n ∧ n ≤ 2040) ∨ n = 65535 := by
  simp only [Bool.or_eq_true, inRange_iff, beq_iff_eq]

/-! ### The obligation -/

/-- Settles O46: a grant is placed by its expiry, a withdrawal meets the grants from the last to the first, and the first grant expires. -/
theorem creditsComeAndGo : Obligations.CreditsComeAndGo := by
  intro m s a c
  have hdrn : a.drn = s.drn := by simp [a]
  have hpool : pool a = pool s := pool_congr (by rw [hdrn])
  refine ⟨fun hfree q => ⟨?grantLength, ?withdrawLength, fun f hf => ?grantRange, fun f hc1 hc2 hl1 hl2 =>
    ⟨fun hfull => ?full, fun hroom front back hsplit hfront hback => ?granted⟩, fun n hn => ?withdrawRange, fun hwf n hn1 hn2 => ?withdrawn⟩,
    fun hrun g rest hgrants => ?expired⟩
  case grantLength => exact hostRequest_refused (r := .grant .wrongLength) hfree rfl (by decide) (by decide)
  case withdrawLength => exact hostRequest_refused (r := .withdraw .wrongLength) hfree rfl (by decide) (by decide)
  case grantRange =>
    refine hostRequest_refused (r := .grant (.fields f)) hfree ((handleGrant_fields f a).trans (if_pos ?_)) (by decide) (by decide)
    rw [Bool.not_eq_true', ← Bool.not_eq_true, grantInRange_iff]
    omega
  case full =>
    refine hostRequest_refused (r := .grant (.fields f)) hfree ((handleGrant_fields f a).trans ?_) (by decide) (by decide)
    rw [grantInRange_iff.mpr ⟨⟨hc1, hc2⟩, hl1, hl2⟩, hdrn]
    exact if_pos (decide_eq_true hfull)
  case granted =>
    refine hostRequest_ok (r := .grant (.fields f)) hfree ((handleGrant_fields f a).trans ?_) rfl rfl
    have hnotFull : decide (8 ≤ s.drn.grants.length) = false := decide_eq_false (Nat.not_le.mpr hroom)
    rw [grantInRange_iff.mpr ⟨⟨hc1, hc2⟩, hl1, hl2⟩, hdrn, hnotFull]
    rw [applyGrant, hdrn, hpool, hsplit, insertGrant_append hfront hback]
    rfl
  case withdrawRange =>
    refine hostRequest_refused (r := .withdraw (.fields n)) hfree ((handleWithdraw_fields n a).trans (if_pos ?_)) (by decide) (by decide)
    rw [Bool.not_eq_true', ← Bool.not_eq_true, withdrawInRange_iff]
    omega
  case withdrawn =>
    intro taken
    have htaken : min (if n = 65535 then pool a else n) (pool a) = taken := by
      rw [hpool]
      simp only [taken]
      split
      · exact Nat.min_self _
      · rfl
    refine ⟨(withdrawn (if n = 65535 then pool a else n) a).2, ?_, fun front g back hsplit hle hlt => ?_, ?_⟩
    · rw [← hpool, ← htaken]
      exact withdrawn_sum _ a
    · have hless := pool_split (hdrn ▸ hsplit)
      have hasked : (if n = 65535 then pool a else n) = taken := by omega
      rw [hasked]
      exact withdrawn_left (hdrn ▸ hwf) (hdrn ▸ hsplit) hle hlt
    · refine hostRequest_ok (r := .withdraw (.fields n)) hfree ((handleWithdraw_fields n a).trans ?_) rfl rfl
      rw [withdrawInRange_iff.mpr (by omega), htaken, hpool, applyWithdraw, withdrawn_count, ← hpool, htaken, hdrn]
      rfl
  case expired =>
    have hlater : (reachSecond g.expiry a).drn = s.drn := by simp [a]
    have hreached : expiryReached a = expireGrant g rest (reachSecond g.expiry a) := by
      rw [expiryReached, hdrn, hgrants]
    refine (whileRunning_running m expiryReached s hrun).trans ?_
    rw [show arrive m s = a from rfl, hreached, expireGrant, hlater]
    rfl

end Sys2Proof.Machine

/-! PROOF. DRAIN (R122, R123, R124). -/

namespace Sys2Proof.Machine

/-- DRAIN of a bay is refused by the first check that applies, in the order of the manual (log entry 59). -/
theorem handleDrain_of_bay {b : Fin 8} {f : DrainFields} (h : f.bay = b.val) (s : State) : handleDrain (.fields f) s =
    if !inRange 0 255 f.lots then refuse .refusedRange s
    else if targetOutside s b f.target then refuse .refusedRange s
    else if !((s.bay b).enabled && (s.bay b).device.isSome) then refuse .refusedUnconfigured s
    else drainBay b f.lots (drainTarget s b f.target) s := by
  rw [handleDrain, onFields_fields, h, index?_val]
  simp only [unlessRefused_cons, unlessRefused_nil]

/-- The target lies outside the thresholds of an enabled bay (log entry 20). -/
theorem targetOutside_iff {s : State} {b : Fin 8} {target : Nat} : targetOutside s b target = true ↔
    (s.bay b).enabled = true ∧ target ≠ 0 ∧ (target < (s.bay b).empty ∨ (s.bay b).crest < target) := by
  have hrange : inRange (s.bay b).empty (s.bay b).crest target = false ↔ target < (s.bay b).empty ∨ (s.bay b).crest < target := by
    rw [← Bool.not_eq_true, inRange_iff]
    omega
  simp only [targetOutside, Bool.and_eq_true, bne_iff_ne, Bool.not_eq_true', hrange, and_assoc]

/-- The state of a waiting order, told by its hold causes one by one (R123). -/
theorem waitingState_eq (h : HoldCauses) : waitingState h = if h.worksStop || h.gauge || h.hand then .held else .queued := by
  rw [waitingState, HoldCauses.isEmpty]
  cases h.worksStop <;> cases h.gauge <;> cases h.hand <;> rfl

/-- A bay whose order waits, opens or runs has it updated (R124). -/
theorem drainBay_updates {b : Fin 8} {o : Order} {s : State} (ho : s.order b = some o) (hclosing : o.state ≠ .closing)
    (hsuspect : o.state ≠ .suspect) (lots target : Nat) : drainBay b lots target s
      = answerOk (drainBody b (updateOrder b o lots target s)) (afterOrderChange b (updateOrder b o lots target s)) := by
  simp only [drainBay, ho]
  cases hs : o.state with
  | closing => exact absurd hs hclosing
  | suspect => exact absurd hs hsuspect
  | queued => rfl
  | held => rfl
  | opening => rfl
  | running => rfl

/-- A bay whose order closes or is SUSPECT takes no DRAIN (R124). -/
theorem drainBay_refuses {b : Fin 8} {o : Order} {s : State} (ho : s.order b = some o) (h : o.state = .closing ∨ o.state = .suspect)
    (lots target : Nat) : drainBay b lots target s = refuse .refusedState s := by
  rcases h with h | h <;> simp only [drainBay, ho, h]

@[simp] theorem presentHolds_arrive (m : Moment) (s : State) (b : Fin 8) : presentHolds (arrive m s) b = presentHolds s b := by
  simp [presentHolds, deviceInHand]

/-- Settles O48: the checks in their order, and then the order of the bay, or none, decides. -/
theorem drainCreatesOrUpdatesAnOrder : Obligations.DrainCreatesOrUpdatesAnOrder := by
  intro m q f s hfree a
  refine ⟨fun hbay => ?outside, fun b hbay => ?_⟩
  case outside =>
    refine hostRequest_refused (r := .drain (.fields f)) hfree ?_ (by decide) (by decide)
    rw [show handleRequest (.drain (.fields f)) a = handleDrain (.fields f) a from rfl, handleDrain, onFields_fields, index?_of_le hbay]
  intro r outside target hold fresh body
  have hr : a.bay b = r := bay_arrive m s b
  have horder : a.order b = s.order b := order_arrive m s b
  have hdrain : handleRequest (.drain (.fields f)) a = _ := handleDrain_of_bay hbay a
  have houtside : targetOutside a b f.target = true ↔ r.enabled = true ∧ outside := by rw [targetOutside_iff, hr]
  have hlots : (!inRange 0 255 f.lots) = true ↔ 255 < f.lots := by
    rw [Bool.not_eq_true', ← Bool.not_eq_true, inRange_iff]
    omega
  refine ⟨fun hrefused => ?range, fun hle hoff => ?unconfigured, fun hle henabled hdevice hinside => ?taken⟩
  case range =>
    refine hostRequest_refused (r := .drain (.fields f)) hfree ?_ (by decide) (by decide)
    rw [hdrain]
    rcases hrefused with hmany | hout
    · rw [if_pos (hlots.mpr hmany)]
    · rw [if_pos (houtside.mpr hout), ite_self]
  case unconfigured =>
    refine hostRequest_refused (r := .drain (.fields f)) hfree ?_ (by decide) (by decide)
    have hin : ¬ targetOutside a b f.target = true := by
      rw [houtside]
      rintro ⟨hon, hout⟩
      rcases hoff with hoff | ⟨-, hinside⟩
      · simp [hon] at hoff
      · exact hinside hout
    have hunusable : (!(r.enabled && r.device.isSome)) = true := by rcases hoff with hoff | ⟨hnone, -⟩ <;> simp [*]
    rw [hdrain, if_neg (by rw [hlots]; omega), if_neg hin, hr, if_pos hunusable]
  case taken =>
    have hbayDrain : handleRequest (.drain (.fields f)) a = drainBay b f.lots target a := by
      have htarget : drainTarget a b f.target = target := by rw [drainTarget, hr]
      rw [hdrain, if_neg (by rw [hlots]; omega), if_neg (by rw [houtside]; exact fun h => hinside h.2), hr, if_neg (by simp [henabled, hdevice]),
        htarget]
    refine ⟨fun hnone => ?created, fun o ho => ⟨fun hstate => ?refused, fun hclosing hsuspect => ?updated⟩⟩
    case created =>
      intro created u
      have hfresh : newOrder a b .host f.lots target = fresh := by
        simp only [newOrder, fresh, hold, a, presentHolds_arrive, waitingState_eq]
      refine hostRequest_accepted (r := .drain (.fields f)) hfree ?_ rfl rfl
      rw [hbayDrain, drainBay, horder, hnone]
      simp only [createOrder, hfresh]
      rfl
    case refused =>
      refine hostRequest_refused (r := .drain (.fields f)) hfree ?_ (by decide) (by decide)
      exact hbayDrain.trans (drainBay_refuses (horder.trans ho) hstate f.lots target)
    case updated =>
      intro updated u
      refine hostRequest_ok (r := .drain (.fields f)) hfree ?_ rfl rfl
      exact hbayDrain.trans (drainBay_updates (horder.trans ho) hclosing hsuspect f.lots target)

end Sys2Proof.Machine

/-! PROOF. RESHUT, CLEAR_DEVICE and POLL_DEVICE, and commands put to a busy line (R142, R161, R162, R171 to R173). -/

namespace Sys2Proof.Machine

/-! ### A busy line (R161, R162) -/

/-- A busy line takes no entry. -/
theorem lineTake_busy {s : State} (h : s.act.current.isSome = true) : lineTake s = s := by
  obtain ⟨x, hx⟩ := Option.isSome_iff_exists.mp h
  rw [lineTake, hx]

/-- Without an element that meets a condition nothing is filtered out. -/
theorem filter_not_of_find?_none {α : Type} {p : α → Bool} {l : List α} (h : l.find? p = none) : l.filter (fun x => !p x) = l :=
  List.filter_eq_self.mpr fun x hx => by simpa using List.find?_eq_none.mp h x hx

/-- The one element that meets a condition is erased. -/
theorem erase_eq_filter_of_find? {α : Type} [DecidableEq α] {p : α → Bool} {l : List α} {w : α} (h : l.find? p = some w)
    (hone : l.countP p ≤ 1) : l.erase w = l.filter fun x => !p x := by
  induction l with
  | nil => simp at h
  | cons x t ih =>
    cases hx : p x with
    | true =>
      obtain rfl : x = w := by simpa [hx] using h
      have hnone : t.find? p = none := by
        rw [List.countP_cons_of_pos hx] at hone
        exact List.find?_eq_none.mpr (List.countP_eq_zero.mp (by omega))
      rw [List.erase_cons_head, List.filter_cons_of_neg (by simp [hx]), filter_not_of_find?_none hnone]
    | false =>
      have hrest : t.find? p = some w := by simpa [hx] using h
      have hxw : x ≠ w := by
        rintro rfl
        simp [List.find?_some hrest] at hx
      rw [List.countP_cons_of_neg (by simp [hx])] at hone
      rw [List.erase_cons_tail (by simpa using hxw), List.filter_cons_of_pos (by simp [hx]), ih hrest hone]

/-- What the supersession of a waiting entry leaves of the actuator line: an outcome, where the entry waited out a back-off (log entry 23). -/
theorem act_supersede_eq (w : LineEntry) (s : State) : (supersede w s).act = { s.act with
    lasts := if w.notBefore.isSome then s.act.lasts.put w.device (some
      { command := w.command, orig := w.orig, outcome := .superseded, time := s.now }) else s.act.lasts } := by
  have hact : (tellSuperseded w.orig w.command s).act = s.act := by simp
  have hnow : (tellSuperseded w.orig w.command s).now = s.now := now_of_kept (by simp)
  unfold supersede
  dsimp only
  split
  · rw [recordOutcome, State.setLast, hact, hnow]
    rfl
  · exact hact

/-- A drive command that is put to a busy line waits in place of the drive entry of its device. -/
theorem act_putDrive_busy {s : State} (hwf : lineQueueWf s.act.queue) (hbusy : s.act.current.isSome = true) (d : Fin 16) (c : LineCommand)
    (orig : Originator) : (putDrive d c orig s).act = { s.act with
      queue := joinLine { device := d, command := c, orig := orig, notBefore := none } (s.act.queue.filter fun e => !e.isDriveOf d)
      lasts := match waitingDrive s d with
        | some w => if w.notBefore.isSome then s.act.lasts.put d (some
            { command := w.command, orig := w.orig, outcome := .superseded, time := s.now }) else s.act.lasts
        | none => s.act.lasts } := by
  unfold putDrive
  cases hw : waitingDrive s d with
  | none =>
    dsimp only
    rw [lineTake_busy (by exact hbusy), filter_not_of_find?_none hw]
    rfl
  | some w =>
    obtain ⟨-, hdevice, -⟩ := waitingDrive_mem hw
    dsimp only
    rw [lineTake_busy (by rw [State.withAct, act_supersede_eq]; exact hbusy), State.withAct, act_supersede_eq, hdevice,
      ← erase_eq_filter_of_find? hw (hwf d).1]
    rfl

/-- A query that is put to a busy line waits, where none of its device does. -/
theorem putQuery_busy {s : State} {d : Fin 16} (hbusy : s.act.current.isSome = true) (hnone : waitingQuery s d = none) (orig : Originator) :
    putQuery d orig s
      = s.withAct { s.act with queue := joinLine { device := d, command := .query, orig := orig, notBefore := none } s.act.queue } := by
  rw [putQuery, hnone]
  exact lineTake_busy (by exact hbusy)

theorem putQuery_waiting {s : State} {d : Fin 16} (h : (waitingQuery s d).isSome = true) (orig : Originator) : putQuery d orig s = s := by
  obtain ⟨x, hx⟩ := Option.isSome_iff_exists.mp h
  rw [putQuery, hx]

/-! ### The requests -/

/-- RESHUT of an enabled bay whose order is not SUSPECT, or waits for one already (R142). -/
theorem handleReshut_refused {b : Fin 8} {s : State} (hon : (s.bay b).enabled = true)
    (h : ∀ o, s.order b = some o → o.state ≠ .suspect ∨ o.reshut = true) : handleReshut (.fields b.val) s = refuse .refusedState s := by
  rw [handleReshut, onFields_fields, onBay_enabled hon]
  cases ho : s.order b with
  | none => rfl
  | some o =>
    refine if_neg ?_
    rcases h o ho with hs | hr
    · exact fun hgo => hs hgo.1
    · simp [hr]

theorem handleReshut_accepted {b : Fin 8} {d : Fin 16} {o : Order} {s : State} (hon : (s.bay b).enabled = true) (ho : s.order b = some o)
    (hs : o.state = .suspect) (hr : o.reshut = false) (hd : (s.bay b).device = some d) : handleReshut (.fields b.val) s
      = answerAccepted .empty (putDrive d .reset (.order b) (s.setOrder b (some { o with reshut := true }))) := by
  rw [handleReshut, onFields_fields, onBay_enabled hon, ho]
  refine (if_pos ⟨hs, hr⟩).trans ?_
  rw [putForOrder, State.bay_setOrder, hd]

theorem onDevice_outside {n : Nat} (h : 16 ≤ n) (s : State) (f : Fin 16 → Answer) : onDevice n s f = refuse .refusedRange s := by
  rw [onDevice, index?_of_le h]

theorem onDevice_unconfigured {d : Fin 16} {s : State} (h : s.image.devices.at_ d = none) (f : Fin 16 → Answer) :
    onDevice d.val s f = refuse .refusedUnconfigured s := by
  simp [onDevice, h]

theorem onDevice_configured {d : Fin 16} {s : State} (h : (s.image.devices.at_ d).isSome = true) (f : Fin 16 → Answer) :
    onDevice d.val s f = f d := by
  simp [onDevice, h]

@[simp] theorem waitingDrive_arrive (m : Moment) (s : State) (d : Fin 16) : waitingDrive (arrive m s) d = waitingDrive s d := by
  simp [waitingDrive]

@[simp] theorem waitingQuery_arrive (m : Moment) (s : State) (d : Fin 16) : waitingQuery (arrive m s) d = waitingQuery s d := by
  simp [waitingQuery]

@[simp] theorem deviceInUse_arrive (m : Moment) (s : State) (d : Fin 16) : deviceInUse (arrive m s) d = deviceInUse s d := by
  simp [deviceInUse, bayOfDevice]

/-- Settles O51: each request is refused by the first check that applies, and otherwise puts its command; a busy line lets it wait. -/
theorem deviceCommandsArePut : Obligations.DeviceCommandsArePut := by
  refine ⟨fun m q s hfree => ?requests, fun d c orig s hwf hbusy => ⟨fun _ => act_putDrive_busy hwf hbusy d c orig,
    fun hnone => putQuery_busy hbusy hnone orig, fun hsome => putQuery_waiting hsome orig⟩⟩
  intro a
  have hbay (b : Fin 8) : a.bay b = s.bay b := bay_arrive m s b
  have horder (b : Fin 8) : a.order b = s.order b := order_arrive m s b
  have himage : a.image = s.image := by simp [a]
  have hact : a.act = s.act := by simp [a]
  refine ⟨fun n hn => ?reshutRange, fun b => ⟨fun hoff => ?reshutDisabled, fun hon hnot => ?reshutState, fun o d hon ho hs hr hd => ?reshut⟩,
    fun n hn => ⟨?clearRange, ?pollRange⟩, fun d => ⟨fun hnone => ⟨?clearUnconfigured, ?pollUnconfigured⟩, fun hsome =>
      ⟨fun huse => ?clearState, fun huse => ?clear, ?poll⟩⟩⟩
  case reshutRange => exact hostRequest_refused (r := .reshut (.fields n)) hfree (onBay_outside hn a _) (by decide) (by decide)
  case reshutDisabled =>
    exact hostRequest_refused (r := .reshut (.fields b.val)) hfree (onBay_disabled (by rwa [hbay]) _) (by decide) (by decide)
  case reshutState =>
    refine hostRequest_refused (r := .reshut (.fields b.val)) hfree (handleReshut_refused (by rwa [hbay]) ?_) (by decide) (by decide)
    rwa [horder]
  case reshut =>
    exact hostRequest_accepted (r := .reshut (.fields b.val)) hfree
      (handleReshut_accepted (by rwa [hbay]) (by rwa [horder]) hs hr (by rwa [hbay])) rfl rfl
  case clearRange => exact hostRequest_refused (r := .clearDevice (.fields n)) hfree (onDevice_outside hn a _) (by decide) (by decide)
  case pollRange => exact hostRequest_refused (r := .pollDevice (.fields n)) hfree (onDevice_outside hn a _) (by decide) (by decide)
  case clearUnconfigured =>
    exact hostRequest_refused (r := .clearDevice (.fields d.val)) hfree (onDevice_unconfigured (by rwa [himage]) _) (by decide) (by decide)
  case pollUnconfigured =>
    exact hostRequest_refused (r := .pollDevice (.fields d.val)) hfree (onDevice_unconfigured (by rwa [himage]) _) (by decide) (by decide)
  case clearState =>
    refine hostRequest_refused (r := .clearDevice (.fields d.val)) hfree ((onDevice_configured (by rwa [himage]) _).trans ?_)
      (by decide) (by decide)
    rw [deviceInUse_arrive, huse]
    rfl
  case clear =>
    refine hostRequest_accepted (r := .clearDevice (.fields d.val)) hfree ((onDevice_configured (by rwa [himage]) _).trans ?_) rfl rfl
    rw [deviceInUse_arrive, huse, waitingDrive_arrive]
    rfl
  case poll =>
    refine hostRequest_accepted (r := .pollDevice (.fields d.val)) hfree ((onDevice_configured (by rwa [himage]) _).trans ?_) rfl rfl
    rw [waitingQuery_arrive]

end Sys2Proof.Machine

/-! PROOF. What the overtaking of a lot leaves of the order, the credits and the rest (R133, R134). -/

namespace Sys2Proof.Machine

/-- What the overtaking of its lot makes of an order: it closes, without lot and credit, with what the lot has drained (R133, R134; log
entry 67). -/
def Order.lotOvertaken (o : Order) (holds : HoldCauses) (cause : ClosingCause) (failure : Option Failure) : Order :=
  { o with
    holds := holds, state := .closing, closing := some cause, failure := failure, credit := false, lot := none
    total := match o.lot with
      | some l => if o.credit then min 4294967295 (o.total + l.drained.toNat) else o.total
      | none => o.total }

/-- The credit counters after the lot of an order has been overtaken (R133). -/
def countersOvertaken (o : Order) (c : CreditCounters) : CreditCounters :=
  if o.credit then { c with forfeited := min 4294967295 (c.forfeited + 1) } else c

theorem forfeited_countersOvertaken (o : Order) (c : CreditCounters) : (countersOvertaken o c).forfeited
    = if o.credit then min 4294967295 (c.forfeited + 1) else c.forfeited := by
  unfold countersOvertaken
  split <;> rfl

/-- The lot's credit is forfeited in the order as it is to become, whatever order is written. -/
@[simp] theorem creditForfeited_setOrder (b : Fin 8) (o x : Order) (y : Option Order) (s : State) :
    creditForfeited b o x (s.setOrder b y) = creditForfeited b o x s := by
  simp [creditForfeited, State.withCounters, State.setOrder, State.withDrn]

@[simp] theorem kept_creditForfeited (b : Fin 8) (o x : Order) (s : State) : kept (creditForfeited b o x s) = kept s := by
  simp [creditForfeited]

@[simp] theorem kept_leftRunning (b : Fin 8) (o : Order) (s : State) : kept (leftRunning b o s) = kept s := by
  unfold leftRunning
  split <;> simp

section
variable (b : Fin 8) (o : Order) (holds : HoldCauses) (cause : ClosingCause) (failure : Option Failure) (s : State)

@[simp] theorem kept_overtaken : kept (overtaken b o holds cause failure s) = kept s := by simp [overtaken]

theorem bay_overtaken (c : Fin 8) : (overtaken b o holds cause failure s).bay c = s.bay c :=
  congrArg (fun k => k.image.bays.at_ c) (kept_overtaken b o holds cause failure s)

/-- The order that is overtaken may stand in the state or not. -/
@[simp] theorem overtaken_setOrder (y : Option Order) : overtaken b o holds cause failure (s.setOrder b y)
    = overtaken b o holds cause failure s := by
  simp only [overtaken, creditForfeited_setOrder]

theorem order_overtaken_self : (overtaken b o holds cause failure s).order b = some (o.lotOvertaken holds cause failure) := by
  rw [overtaken, order_leftRunning]
  refine order_putForOrder_of_not_suspect ?_ (by simp [Order.lotOvertaken]) b .release
  exact (State.order_setOrder ..).trans (if_pos rfl)

theorem purse_overtaken : purse (overtaken b o holds cause failure s)
    = (s.drn.grants, countersOvertaken o s.drn.counters, s.drn.armed) := by
  rw [overtaken, purse_leftRunning, purse_putForOrder]
  rfl

theorem counters_overtaken : (overtaken b o holds cause failure s).drn.counters = countersOvertaken o s.drn.counters := by
  have hpurse := purse_overtaken b o holds cause failure s
  simp only [purse, Prod.mk.injEq] at hpurse
  exact hpurse.2.1

theorem grants_overtaken : (overtaken b o holds cause failure s).drn.grants = s.drn.grants := by
  have hpurse := purse_overtaken b o holds cause failure s
  simp only [purse, Prod.mk.injEq] at hpurse
  exact hpurse.1

end

end Sys2Proof.Machine

/-! PROOF. STOP_DRAIN (R125, R133, R134, R141, R150). -/

namespace Sys2Proof.Machine

/-- STOP_DRAIN of an enabled bay without an order that it could cancel. -/
theorem handleStopDrain_refused {b : Fin 8} {s : State} (hon : (s.bay b).enabled = true)
    (h : s.order b = none ∨ ∃ o, s.order b = some o ∧ o.state = .suspect) : handleStopDrain (.fields b.val) s = refuse .refusedState s := by
  rw [handleStopDrain, onFields_fields, onBay_enabled hon]
  rcases h with hnone | ⟨o, ho, hs⟩
  · rw [hnone]
  · rw [ho]
    exact if_pos hs

/-- STOP_DRAIN of an order sets the flag, cancels the order, and hands the setting to the planner (log entry 28). -/
theorem handleStopDrain_taken {b : Fin 8} {o : Order} {s : State} (hon : (s.bay b).enabled = true) (ho : s.order b = some o)
    (hs : o.state ≠ .suspect) : handleStopDrain (.fields b.val) s
      = { state := plannerTake (cancel b .host (raiseInhibit b .stopDrain s)), result := stopResult o.state, body := .empty } := by
  rw [handleStopDrain, onFields_fields, onBay_enabled hon, ho]
  exact if_neg hs

/-- The state at the moment of a STOP_DRAIN, with the auto-inhibit flag set. -/
def stopFlagged (m : Moment) (s : State) (b : Fin 8) : State := (arrive m s).withInhibit (s.inhibit.put b (some .stopDrain))

theorem exec_stopDrain_taken {m : Moment} {q : Byte} {b : Fin 8} {o : Order} {s : State} (hfree : PortFree s)
    (hon : (s.bay b).enabled = true) (ho : s.order b = some o) (hs : o.state ≠ .suspect) : exec (.stopDrain m q (.fields b.val)) s
      = .next (answered q 0xB3#8 (stopResult o.state) .empty (plannerTake (cancel b .host (stopFlagged m s b)))) := by
  have hflagged : raiseInhibit b .stopDrain (arrive m s) = stopFlagged m s b := by
    have hinhibit : (arrive m s).inhibit = s.inhibit := by simp
    rw [raiseInhibit, hinhibit, stopFlagged]
  have htaken : handleRequest (.stopDrain (.fields b.val)) (arrive m s) = _ :=
    handleStopDrain_taken (by simpa using hon) (by simpa using ho) hs
  refine (hostRequest_answered m q (.stopDrain (.fields b.val)) s hfree rfl rfl).trans ?_
  rw [htaken, hflagged]
  rfl

/-- The answer to a STOP_DRAIN keeps what the reactions to the cancellation keep. -/
theorem stopDrain_keeps {m : Moment} {s u : State} {b : Fin 8} (h : kept u = kept (stopFlagged m s b)) (q : Byte) (res : Result) :
    (answered q 0xB3#8 res .empty u).inhibit = s.inhibit.put b (some .stopDrain) ∧ (answered q 0xB3#8 res .empty u).image = s.image
      ∧ (answered q 0xB3#8 res .empty u).ret = (arrive m s).ret ∧ (answered q 0xB3#8 res .empty u).lvl = s.lvl := by
  obtain ⟨himage, hret, -, -, hlvl, -, -, -, hinhibit, -⟩ := answered_fields q 0xB3#8 res .empty u
  have himage' : (stopFlagged m s b).image = s.image := by simp [stopFlagged]
  have hlvl' : (stopFlagged m s b).lvl = s.lvl := by simp [stopFlagged]
  exact ⟨hinhibit.trans (congrArg Kept.inhibit h), himage.trans ((congrArg Kept.image h).trans himage'), hret.trans (congrArg Kept.ret h),
    hlvl.trans ((congrArg Kept.lvl h).trans hlvl')⟩

/-! ### An order that waits -/

/-- The order has left with its notice. -/
def stopDropped (m : Moment) (s : State) (b : Fin 8) (o : Order) : State :=
  post b.val (.drainCancelled { lots := o.done, total := o.total, cause := .host, failure := none, closing := none })
    ((stopFlagged m s b).setOrder b none)

theorem cancel_stopFlagged_waiting {m : Moment} {s : State} {b : Fin 8} {o : Order} (ho : s.order b = some o)
    (h : o.state = .queued ∨ o.state = .held) : cancel b .host (stopFlagged m s b) = sitePlanner (stopDropped m s b o) := by
  have hflagged : (stopFlagged m s b).order b = some o := by simpa [stopFlagged] using ho
  have hslot : o.state.holdsSlot = false := by rcases h with h | h <;> rw [h] <;> rfl
  rw [cancel_waiting hflagged h, retireCancelled, retire, hflagged]
  exact if_neg (by simp [hslot])

/-- Neither the retirement nor the setting of the flag makes a new order for the bay, which is inhibited. -/
theorem order_stopDropped_none (m : Moment) (s : State) (b : Fin 8) (o : Order) :
    (plannerTake (sitePlanner (stopDropped m s b o))).order b = none := by
  have hnone : (stopDropped m s b o).order b = none := (State.order_setOrder (stopFlagged m s b) b b none).trans (if_pos rfl)
  have hinhibit : (stopDropped m s b o).inhibit = s.inhibit.put b (some .stopDrain) :=
    congrArg Kept.inhibit (show kept (stopDropped m s b o) = kept (stopFlagged m s b) by simp [stopDropped])
  have hover : PassedOver (stopDropped m s b o) b := ⟨by simp [hnone], fun _ => by simp [hinhibit]⟩
  have hlike := (undisturbed_plannerTake hover (undisturbed_sitePlanner hover (.refl b _))).order
  rw [hnone] at hlike
  exact Option.isNone_iff_eq_none.mp (by simpa using hlike.isSome)

/-! ### An order that opens or runs -/

/-- The order is overtaken with the closing cause CANCEL. -/
def stopOvertaken (m : Moment) (s : State) (b : Fin 8) (o : Order) : State :=
  overtaken b { o with cancelCause := some .host } o.holds .cancel o.failure (stopFlagged m s b)

theorem cancel_stopFlagged_draining {m : Moment} {s : State} {b : Fin 8} {o : Order} (ho : s.order b = some o)
    (h : o.state = .opening ∨ o.state = .running) : cancel b .host (stopFlagged m s b) = stopOvertaken m s b o := by
  have hflagged : (stopFlagged m s b).order b = some o := by simpa [stopFlagged] using ho
  have hcaused : ((stopFlagged m s b).setOrder b (some { o with cancelCause := some .host })).order b
      = some { o with cancelCause := some .host } := (State.order_setOrder ..).trans (if_pos rfl)
  rw [cancel_draining hflagged h, overtake_eq_overtaken hcaused, overtaken_setOrder]
  rfl

/-- The planner passes over the bay of an order that closes. -/
theorem undisturbed_plannerTake_closing {s : State} {b : Fin 8} {o : Order} (ho : s.order b = some o) (h : o.state = .closing) :
    Undisturbed b s (plannerTake s) ∧ (plannerTake s).order b = some o := by
  have hover : PassedOver s b := by
    constructor
    · intro x hx
      obtain rfl := Option.some.inj (ho.symm.trans hx)
      simp [h]
    · intro hnone
      rw [ho] at hnone
      cases hnone
  have hundisturbed := undisturbed_plannerTake hover (.refl b s)
  have hlike := hundisturbed.order
  rw [ho] at hlike
  exact ⟨hundisturbed, hlike.of_not_suspect (by simp [h])⟩

/-! ### An order that closes -/

/-- An order that closes to wait again is to be cancelled (R141). -/
theorem cancel_closing {s : State} {b : Fin 8} {o : Order} (ho : s.order b = some o) (h : o.state = .closing) (k : CancelCause) :
    cancel b k s = if o.closing = some .gap ∨ o.closing = some .worksStop ∨ o.closing = some .gauge
      then s.setOrder b (some { o with closing := some .cancel, cancelCause := some k }) else s := by
  simp only [cancel, ho, h]
  rcases o.closing with - | c
  · rfl
  · cases c <;> rfl

/-- A STOP_DRAIN leaves an order that closes where it is; it is to be cancelled where it was to wait again. -/
theorem order_stopDrain_closing {m : Moment} {s : State} {b : Fin 8} {o : Order} (ho : s.order b = some o) (h : o.state = .closing) :
    (plannerTake (cancel b .host (stopFlagged m s b))).order b
      = some (if o.closing = some .gap ∨ o.closing = some .worksStop ∨ o.closing = some .gauge
        then { o with closing := some .cancel, cancelCause := some .host } else o) := by
  have hflagged : (stopFlagged m s b).order b = some o := by simpa [stopFlagged] using ho
  rw [cancel_closing hflagged h]
  split
  · have hcaused : ((stopFlagged m s b).setOrder b (some { o with closing := some .cancel, cancelCause := some .host })).order b
        = some { o with closing := some .cancel, cancelCause := some .host } := by rw [State.order_setOrder, if_pos rfl]
    exact (undisturbed_plannerTake_closing hcaused h).2
  · exact (undisturbed_plannerTake_closing hflagged h).2

/-- Settles O49: the checks in their order, and then the state of the order decides; the planner, which takes the setting of the flag last,
passes the bay over. -/
theorem stopDrainCancels : Obligations.StopDrainCancels := by
  intro m q s hfree a
  have hbay (b : Fin 8) : a.bay b = s.bay b := bay_arrive m s b
  have horder (b : Fin 8) : a.order b = s.order b := order_arrive m s b
  refine ⟨fun n hn => ?range, fun b => ⟨fun hoff => ?disabled, fun hon hnone => ?state, fun o hon ho => ?_⟩⟩
  case range => exact hostRequest_refused (r := .stopDrain (.fields n)) hfree (onBay_outside hn a _) (by decide) (by decide)
  case disabled =>
    exact hostRequest_refused (r := .stopDrain (.fields b.val)) hfree (onBay_disabled (by rwa [hbay]) _) (by decide) (by decide)
  case state =>
    refine hostRequest_refused (r := .stopDrain (.fields b.val)) hfree (handleStopDrain_refused (by rwa [hbay]) ?_) (by decide) (by decide)
    rwa [horder]
  intro flagged
  have hexec (hs : o.state ≠ .suspect) := exec_stopDrain_taken (m := m) (q := q) hfree hon ho hs
  refine ⟨fun hwaits => ?waits, fun hdrains => ?drains, fun hcloses => ?closes⟩
  case waits =>
    have htaken := hexec (by rcases hwaits with h | h <;> simp [h])
    have hresult : stopResult o.state = .ok := by rcases hwaits with h | h <;> rw [h] <;> rfl
    rw [cancel_stopFlagged_waiting ho hwaits, hresult] at htaken
    have hkept : kept (plannerTake (sitePlanner (stopDropped m s b o))) = kept (stopFlagged m s b) := by simp [stopDropped]
    obtain ⟨hinhibit, himage, hret, hlvl⟩ := stopDrain_keeps hkept q .ok
    exact ⟨_, htaken, replies_answered .., (order_answered ..).trans (order_stopDropped_none m s b o), hinhibit, himage, hret, hlvl, rfl⟩
  case drains =>
    have htaken := hexec (by rcases hdrains with h | h <;> simp [h])
    have hresult : stopResult o.state = .accepted := by rcases hdrains with h | h <;> rw [h] <;> rfl
    rw [cancel_stopFlagged_draining ho hdrains, hresult] at htaken
    have hkept : kept (plannerTake (stopOvertaken m s b o)) = kept (stopFlagged m s b) := by simp [stopOvertaken]
    obtain ⟨hinhibit, himage, hret, hlvl⟩ := stopDrain_keeps hkept q .accepted
    have hclosed : (stopOvertaken m s b o).order b = _ := order_overtaken_self ..
    obtain ⟨hundisturbed, hstays⟩ := undisturbed_plannerTake_closing hclosed rfl
    have hbays (y : Fin 8) : (stopFlagged m s b).bay y = s.bay y := hbay y
    have hdrn : (stopFlagged m s b).drn = s.drn := by simp [stopFlagged]
    refine ⟨_, _, htaken, replies_answered .., (order_answered ..).trans hstays, rfl, rfl, rfl, rfl, rfl, ?_, hinhibit, himage, hret, hlvl,
      rfl, fun d hd hother => ?_⟩
    · refine hundisturbed.forfeited.trans ?_
      rw [stopOvertaken, counters_overtaken, forfeited_countersOvertaken, hdrn]
    · refine CommandStands.congr (hundisturbed.stands (fun y hy => ?_) (commandStands_overtaken ?_ ..)) rfl rfl
      · rw [stopOvertaken, bay_overtaken, hbays]
        exact hother y hy
      · rw [hbays]
        exact hd
  case closes =>
    intro x
    have htaken := hexec (by simp [hcloses])
    have hresult : stopResult o.state = .accepted := by rw [hcloses]; rfl
    have hflagged : flagged.order b = some o := (horder b).trans ho
    have hcancelled := cancel_closing hflagged hcloses .host
    have hkept : kept (plannerTake (cancel b .host flagged)) = kept (stopFlagged m s b) := by simp; rfl
    obtain ⟨hinhibit, himage, hret, hlvl⟩ := stopDrain_keeps hkept q .accepted
    rw [hresult] at htaken
    refine ⟨_, htaken, replies_answered .., (order_answered ..).trans (order_stopDrain_closing ho hcloses), ?_, hinhibit, himage, hret, hlvl⟩
    exact congrArg (fun u => answered q 0xB3#8 .accepted .empty (plannerTake u)) hcancelled

end Sys2Proof.Machine

/-! PROOF. Lots: their deadline, their volume, and the boundary between two of them (R39, R130 to R134). -/

namespace Sys2Proof.Machine

/-! ### The deadline (R132) -/

/-- A lot deadline of a bay without a RUNNING order changes nothing. -/
theorem lotDeadlineReached_other {s : State} {b : Fin 8} (h : ∀ o, s.order b = some o → o.state ≠ .running) : lotDeadlineReached b s = s := by
  unfold lotDeadlineReached
  cases ho : s.order b with
  | none => rfl
  | some o =>
    have hnot := h o ho
    dsimp only
    split
    · rename_i hs _
      exact absurd hs hnot
    · rfl

/-- The lot of a RUNNING order has stalled at its deadline. -/
theorem lotDeadlineReached_running {s : State} {b : Fin 8} {o : Order} {l : Lot} (ho : s.order b = some o) (hs : o.state = .running)
    (hl : o.lot = some l) : lotDeadlineReached b s = overtaken b o o.holds .stalled o.failure (reachSecond l.deadline s) := by
  have hlater : (reachSecond l.deadline s).order b = some o := (order_reachSecond ..).trans ho
  rw [← overtake_eq_overtaken hlater]
  simp only [lotDeadlineReached, ho, hs, hl]

/-! ### A lot that ends with its order's drain (R131, R134) -/

/-- An order of a bay that ran has closed, its RELEASE has been put, and the sounding interval follows. -/
def lotClosed (b : Fin 8) (x : Order) (s : State) : State := intervalChanged b (putForOrder b .release (s.setOrder b (some x)))

theorem order_lotClosed {x : Order} (h : x.state = .closing) (b : Fin 8) (s : State) : (lotClosed b x s).order b = some x := by
  rw [lotClosed, State.order, drn_intervalChanged]
  exact order_putForOrder_of_not_suspect (by rw [State.order_setOrder, if_pos rfl]) (by simp [h]) b .release

/-- A close costs no credit of the pool and forfeits none. -/
theorem drn_lotClosed (b : Fin 8) (x : Order) (s : State) :
    (lotClosed b x s).drn.counters = s.drn.counters ∧ (lotClosed b x s).drn.grants = s.drn.grants := by
  have hpurse := purse_putForOrder b .release (s.setOrder b (some x))
  simp only [purse, Prod.mk.injEq] at hpurse
  obtain ⟨hgrants, hcounters, -⟩ := hpurse
  rw [lotClosed, drn_intervalChanged]
  exact ⟨hcounters, hgrants⟩

theorem commandStands_lotClosed {s : State} {b : Fin 8} {d : Fin 16} (hd : (s.bay b).device = some d) (x : Order) :
    CommandStands (lotClosed b x s) d .release (.order b) :=
  (commandStands_putForOrder (s := s.setOrder b (some x)) hd .release).congr (by rw [lotClosed, act_intervalChanged])
    (by rw [lotClosed, act_intervalChanged])

/-- A RUNNING order that enters CLOSING. -/
theorem enterClosing_running {y : Order} (h : y.state = .running) (b : Fin 8) (cause : ClosingCause) (s : State) :
    enterClosing b cause (s.setOrder b (some y))
      = lotClosed b { y with state := .closing, closing := some cause, lot := none } s := by
  have hy : (s.setOrder b (some y)).order b = some y := by rw [State.order_setOrder, if_pos rfl]
  rw [enterClosing_of_order hy, leftRunning, if_pos h, State.setOrder_setOrder]
  rfl

/-! ### An acceptance measures the lot (R130) -/

/-- An order whose lot has been measured. -/
def Order.measured (o : Order) (l : Lot) (drained : Int) : Order := { o with lot := some { l with drained := drained } }

/-- An order whose lot has ended: what it has drained counts, and its credit is used up (R130; log entry 67). -/
def Order.lotEnded (o : Order) (l : Lot) (drained : Int) (done : Nat) : Order :=
  { o with lot := some { l with drained := drained }, total := min 4294967295 (o.total + drained.toNat), credit := false, done := done }

section
variable {b : Fin 8} {value volume : Nat} {s : State} {o : Order} {l : Lot}

/-- A lot that is not complete is measured, and ends only with the target. -/
theorem lotProgress_incomplete (ho : s.order b = some o) (hl : o.lot = some l)
    (h : ¬ (s.image.drain.lotVolume : Int) ≤ (l.startVolume : Int) - (volume : Int)) : lotProgress b value volume s
      = if value ≤ o.target then enterClosing b .done (s.setOrder b (some (o.lotEnded l (l.startVolume - volume) o.done)))
        else s.setOrder b (some (o.measured l (l.startVolume - volume))) := by
  simp only [lotProgress, ho, hl, decide_eq_false h]
  rfl

/-- A complete lot counts; the order closes as DONE at its target or with its last lot, and comes to a boundary otherwise. -/
theorem lotProgress_complete (ho : s.order b = some o) (hl : o.lot = some l)
    (h : (s.image.drain.lotVolume : Int) ≤ (l.startVolume : Int) - (volume : Int)) : lotProgress b value volume s
      = if value ≤ o.target ∨ o.lots ≠ 0 ∧ o.lots ≤ min 65535 (o.done + 1)
        then enterClosing b .done (s.setOrder b (some (o.lotEnded l (l.startVolume - volume) (min 65535 (o.done + 1)))))
        else lotBoundary b volume (s.setOrder b (some (o.lotEnded l (l.startVolume - volume) (min 65535 (o.done + 1))))) := by
  simp only [lotProgress, ho, hl, decide_eq_true h, if_true]
  by_cases hv : value ≤ o.target
  · rw [if_pos hv, if_pos (.inl hv)]
    rfl
  · rw [if_neg hv]
    by_cases hlast : o.lots ≠ 0 ∧ o.lots ≤ min 65535 (o.done + 1)
    · exact (if_pos hlast).trans (if_pos (.inr hlast)).symm
    · exact (if_neg hlast).trans (if_neg (not_or.mpr ⟨hv, hlast⟩)).symm

end

/-! ### The boundary between two lots (R131) -/

/-- An order that goes on holding its slot changes neither the free slots nor the eligible orders. -/
theorem slots_setOrder_running {s : State} {b : Fin 8} {o y : Order} (ho : s.order b = some o) (hs : o.state = .running)
    (hy : y.state = .running) :
    freeSlots (s.setOrder b (some y)) = freeSlots s ∧ ∀ x, eligible (s.setOrder b (some y)) x = eligible s x := by
  have hother {x : Fin 8} (hx : b ≠ x) : (s.setOrder b (some y)).order x = s.order x := by rw [State.order_setOrder, if_neg hx]
  have hself : (s.setOrder b (some y)).order b = some y := by rw [State.order_setOrder, if_pos rfl]
  constructor
  · have hholders : slotHolders (s.setOrder b (some y)) = slotHolders s := by
      rw [slotHolders_eq, slotHolders_eq]
      refine List.filter_congr fun x _ => ?_
      by_cases hx : b = x
      · subst hx
        rw [hself, ho]
        simp only [holds, hs, hy]
      · rw [hother hx]
    rw [freeSlots, freeSlots, hholders]
    rfl
  · intro x
    by_cases hx : b = x
    · subst hx
      simp [eligible, hself, ho, firstUnmet, hs, hy]
    · exact eligible_congr (kept_setOrder s b (some y)) (.inl (hother hx))

/-- The next lot may begin: a credit is left, and no better ranked eligible order waits while every slot is held. -/
theorem mayContinue_iff {s : State} {b : Fin 8} : mayContinue s b = true ↔
    0 < pool s ∧ (0 < freeSlots s ∨ ∀ x, eligible s x = true → (s.bay b).rank ≤ (s.bay x).rank) := by
  rw [mayContinue, Bool.and_eq_true, decide_eq_true_eq]
  refine and_congr_right fun _ => ?_
  rw [Bool.not_eq_true', Bool.and_eq_false_iff, decide_eq_false_iff_not, List.any_eq_false]
  simp only [mem_eligibleBays, decide_eq_true_eq, Nat.not_lt, Nat.pos_iff_ne_zero, ne_eq]

/-! ### The obligation -/

/-- Settles O50: a deadline overtakes the lot; an acceptance measures it, and what is complete, the target and the lots ordered decide. -/
theorem lotsEndByVolumeTargetOrTime : Obligations.LotsEndByVolumeTargetOrTime := by
  refine ⟨fun m b s hrun => ⟨fun hother => ?stays, fun o l ho hs hl => ?stalled⟩, fun b value volume s o l ho hs hl => ?_⟩
  case stays =>
    refine (whileRunning_running m (lotDeadlineReached b) s hrun).trans ?_
    rw [lotDeadlineReached_other (by simpa using hother)]
  case stalled =>
    have hstalled := lotDeadlineReached_running (s := arrive m s) ((order_arrive ..).trans ho) hs hl
    have hdrn : (reachSecond l.deadline (arrive m s)).drn = s.drn := by simp
    have himage : (reachSecond l.deadline (arrive m s)).image = s.image := by simp
    have hlvl : (reachSecond l.deadline (arrive m s)).lvl = s.lvl := by simp
    have hkept := kept_overtaken b o o.holds .stalled o.failure (reachSecond l.deadline (arrive m s))
    have hexec : exec (.lotDeadline m b) s = _ := whileRunning_running m (lotDeadlineReached b) s hrun
    rw [hstalled] at hexec
    refine ⟨_, hexec, ?_, ?_, ?_,
      (congrArg Kept.image hkept).trans himage, congrArg Kept.ret hkept, (congrArg Kept.lvl hkept).trans hlvl, fun d hd => ?_, rfl⟩
    · refine (order_overtaken_self ..).trans ?_
      rw [Order.lotOvertaken, hl]
    · refine (congrArg CreditCounters.forfeited (counters_overtaken ..)).trans ?_
      rw [forfeited_countersOvertaken, hdrn]
    · exact (grants_overtaken ..).trans (congrArg Drain.grants hdrn)
    · refine commandStands_refreshAlarms (commandStands_overtaken ?_ ..)
      rwa [bay_reachSecond, bay_arrive]
  intro drained complete total done goesOn next t closes
  have hruns (n : Nat) : (o.lotEnded l drained n).state = .running := hs
  have hcloses {cause : ClosingCause} {n : Nat} (ht : t = enterClosing b cause (s.setOrder b (some (o.lotEnded l drained n)))) :
      closes cause n := by
    rw [enterClosing_running (hruns n)] at ht
    simp only [closes, ht]
    exact ⟨order_lotClosed rfl b s, (drn_lotClosed ..).1, (drn_lotClosed ..).2, fun d hd => commandStands_lotClosed hd _, rfl⟩
  refine ⟨fun hc hv => ?measured, fun hc hv => hcloses ?target, fun hc hend => hcloses ?last, fun hc hv hlots => ?boundary⟩
  case measured => exact (lotProgress_incomplete ho hl hc).trans (if_neg (Nat.not_le.mpr hv))
  case target => exact (lotProgress_incomplete ho hl hc).trans (if_pos hv)
  case last => exact (lotProgress_complete ho hl hc).trans (if_pos hend)
  case boundary =>
    have hgoes : t = lotBoundary b volume (s.setOrder b (some (o.lotEnded l drained done))) :=
      (lotProgress_complete ho hl hc).trans (if_neg (by omega))
    have hmay : mayContinue (s.setOrder b (some (o.lotEnded l drained done))) b = true ↔ goesOn := by
      obtain ⟨hfree, heligible⟩ := slots_setOrder_running ho hs (hruns done)
      rw [mayContinue_iff, hfree]
      simp only [heligible]
      rfl
    refine ⟨fun hnot => hcloses (hgoes.trans (if_neg (by rwa [hmay]))), fun hgo => ?_⟩
    have hself : (consume (s.setOrder b (some (o.lotEnded l drained done)))).order b = some (o.lotEnded l drained done) :=
      (State.order_setOrder ..).trans (if_pos rfl)
    rw [hgoes, lotBoundary, if_pos (hmay.mpr hgo)]
    dsimp only
    rw [hself]
    exact ⟨(State.order_setOrder ..).trans (if_pos rfl), rfl, rfl, rfl⟩

end Sys2Proof.Machine

/-! PROOF. What reaches a drain order: outcomes of its commands, changes of its device, and the loss of its gauge (R123, R125, R128, R129, R134,
R135, R138 to R140, R142). -/

namespace Sys2Proof.Machine

/-! ### Hold causes and waiting (R123) -/

theorem waitingState_eq_queued_iff (h : HoldCauses) : waitingState h = if h = ⟨false, false, false⟩ then .queued else .held := by
  obtain ⟨_ | _, _ | _, _ | _⟩ := h <;> rfl

/-- An order with other hold causes, told by whether it waits. -/
theorem withHolds_eq (o : Order) (h : HoldCauses) : o.withHolds h = { o with
    holds := h
    state := if o.state = .queued ∨ o.state = .held then if h = ⟨false, false, false⟩ then .queued else .held else o.state } := by
  unfold Order.withHolds
  cases hs : o.state <;> simp [waitingState_eq_queued_iff]

/-- An order that holds a slot keeps its state with other hold causes. -/
theorem withHolds_slot {o : Order} (hs : o.state.holdsSlot = true) (h : HoldCauses) : o.withHolds h = { o with holds := h } := by
  cases hstate : o.state <;> simp_all [Order.withHolds, OrderState.holdsSlot]

/-- An order that waits is HELD with a hold cause. -/
theorem withHolds_held {o : Order} (hs : o.state = .queued ∨ o.state = .held) {h : HoldCauses} (hcause : h.isEmpty = false) :
    o.withHolds h = { o with holds := h, state := .held } := by
  rcases hs with hs | hs <;> simp [Order.withHolds, hs, waitingState, hcause]

theorem changeHolds_of_order {s : State} {b : Fin 8} {o : Order} (ho : s.order b = some o) (f : HoldCauses → HoldCauses) :
    changeHolds b f s = s.setOrder b (some (o.withHolds (f o.holds))) := by
  rw [changeHolds, ho]

theorem changeHolds_of_none {s : State} {b : Fin 8} (ho : s.order b = none) (f : HoldCauses → HoldCauses) : changeHolds b f s = s := by
  rw [changeHolds, ho]

/-! ### Retirement (R125) -/

theorem sitePlanner_cases (s : State) :
    (sitePlanner s = plannerTake (evaluateMode (dropChoice s)) ∨ sitePlanner s = evaluateMode (plannerTake (dropChoice s)))
      ∧ (s.free.schedule = [] → sitePlanner s = plannerTake (evaluateMode (dropChoice s))) := by
  refine ⟨?_, fun hempty => if_pos (by simp [choice, hempty])⟩
  unfold sitePlanner
  split
  · exact .inl rfl
  · exact .inr rfl

/-- An order that holds a slot is retired. -/
theorem retired_retire {s : State} {b : Fin 8} {o : Order} (ho : s.order b = some o) (hs : o.state.holdsSlot = true)
    (notice : DrainDetail → NoticeDetail) (cause : DrainCause) (failure : Option Failure) :
    Retired s (retire b notice cause failure s) b (notice (drainDetail o cause failure none)) := by
  have hretire : retire b notice cause failure s = slotGrant (sitePlanner (dropOrder b o notice cause failure s)) := by
    rw [retire, ho]
    exact if_pos hs
  obtain ⟨horders, hdefault⟩ := sitePlanner_cases (dropOrder b o notice cause failure s)
  rw [hretire]
  exact ⟨horders.imp (congrArg slotGrant) (congrArg slotGrant), fun hempty => congrArg slotGrant (hdefault hempty)⟩

/-- A QUEUED order is done: its level has come down to the target, or its last lot is done (R123, R124). -/
def OrderDone (s : State) (b : Fin 8) (o : Order) : Prop :=
  o.state = .queued ∧ (((s.level b).quality = .good ∧ ∃ v, (s.level b).value = some v ∧ v ≤ o.target) ∨ o.lots ≠ 0 ∧ o.lots ≤ o.done)

theorem testRetires_iff {s : State} {b : Fin 8} {o : Order} (ho : s.order b = some o) : testRetires s b = true ↔ OrderDone s b o := by
  simp only [testRetires, ho, targetReached, OrderDone, Bool.and_eq_true, Bool.or_eq_true, beq_iff_eq, bne_iff_ne, decide_eq_true_eq]
  cases (s.level b).value <;> simp

theorem testQueued_undone {s : State} {b : Fin 8} {o : Order} (ho : s.order b = some o) (h : ¬ OrderDone s b o) : testQueued b s = s :=
  if_neg fun hretires => h ((testRetires_iff ho).mp hretires)

/-- A QUEUED order that is done leaves with its notice, and holds no slot that would become free. -/
theorem testQueued_done {s : State} {b : Fin 8} {o : Order} (ho : s.order b = some o) (h : OrderDone s b o) : testQueued b s
    = sitePlanner (post b.val (.drainDone (drainDetail o .done none none)) (s.setOrder b none)) := by
  have hslot : ¬ o.state.holdsSlot = true := by simp [h.1, OrderState.holdsSlot]
  rw [testQueued, if_pos ((testRetires_iff ho).mpr h), retireDone, retire, ho]
  exact if_neg hslot

theorem testQueued_of_none {s : State} {b : Fin 8} (ho : s.order b = none) : testQueued b s = s := by
  simp [testQueued, testRetires, ho]

/-! ### An order is overtaken by a failure or the loss of its gauge (R128, R138, R140) -/

/-- An order with a failure is overtaken with it. -/
theorem overtake_setFailure {s : State} {b : Fin 8} {o : Order} (ho : s.order b = some o) (f : Failure) (cause : ClosingCause) :
    overtake b cause (setFailure b f s) = overtaken b o o.holds cause (some f) s := by
  have hset : (s.setOrder b (some { o with failure := some f })).order b = some { o with failure := some f } := by
    rw [State.order_setOrder, if_pos rfl]
  rw [setFailure, ho]
  dsimp only
  rw [overtake_eq_overtaken hset, overtaken_setOrder]
  rfl

theorem gaugeLoss_eq {s : State} {b : Fin 8} {o : Order} (ho : s.order b = some o) : gaugeLoss b s = match o.state with
    | .opening | .running => overtaken b o { o.holds with gauge := true } .gauge o.failure s
    | .queued | .held => s.setOrder b (some { o with holds := { o.holds with gauge := true }, state := .held })
    | .closing | .suspect => s.setOrder b (some { o with holds := { o.holds with gauge := true } }) := by
  have hchanged := changeHolds_of_order ho fun h => { h with gauge := true }
  have hset (y : Order) : (s.setOrder b (some y)).order b = some y := by rw [State.order_setOrder, if_pos rfl]
  have drains (hs : o.drains = true) : gaugeLoss b s = overtaken b o { o.holds with gauge := true } .gauge o.failure s := by
    have hslot : o.state.holdsSlot = true := by rcases drains_iff.mp hs with h | h <;> rw [h] <;> rfl
    rw [withHolds_slot hslot] at hchanged
    have hloss : gaugeLoss b s = overtake b .gauge (s.setOrder b (some { o with holds := { o.holds with gauge := true } })) := by
      simp only [gaugeLoss, hchanged, hset]
      rcases drains_iff.mp hs with h | h <;> simp only [h]
    rw [hloss, overtake_eq_overtaken (hset _), overtaken_setOrder]
    exact overtaken_holds ..
  have waits (hs : o.state = .queued ∨ o.state = .held) :
      gaugeLoss b s = s.setOrder b (some { o with holds := { o.holds with gauge := true }, state := .held }) := by
    rw [withHolds_held hs (by simp [HoldCauses.isEmpty])] at hchanged
    simp only [gaugeLoss, hchanged, hset]
  have ends (hs : o.state = .closing ∨ o.state = .suspect) :
      gaugeLoss b s = s.setOrder b (some { o with holds := { o.holds with gauge := true } }) := by
    rw [withHolds_slot (by rcases hs with h | h <;> rw [h] <;> rfl)] at hchanged
    simp only [gaugeLoss, hchanged, hset]
    rcases hs with h | h <;> simp only [h]
  cases hs : o.state with
  | queued => exact waits (.inl hs)
  | held => exact waits (.inr hs)
  | opening => exact drains (drains_iff.mpr (.inl hs))
  | running => exact drains (drains_iff.mpr (.inr hs))
  | closing => exact (ends (.inl hs)).trans (by rw [hs])
  | suspect => exact (ends (.inr hs)).trans (by rw [hs])

/-! ### LOCAL (R139) -/

/-- An order that opens or runs is put on hold without closing, its credit is forfeited, and its waiting ENGAGE is withdrawn. -/
theorem handOvertakes_eq {s : State} {b : Fin 8} {o : Order} (ho : s.order b = some o) : handOvertakes b s
    = slotGrant (leftRunning b o (match (s.bay b).device with
      | some d => (creditForfeited b o { o with state := .held } s).withAct { s.act with
          queue := s.act.queue.filter fun e => !(e.device == d && e.command == .engage && e.orig == .order b) }
      | none => creditForfeited b o { o with state := .held } s)) := by
  have hforfeited : ∃ x, (forfeit b s).order b = some x ∧ x.state = o.state
      ∧ (forfeit b s).setOrder b (some { x with state := .held, lot := none }) = creditForfeited b o { o with state := .held } s := by
    unfold forfeit creditForfeited Order.creditDrained addHeld
    rcases hc : o.credit <;> rcases hl : o.lot <;> simp_all [Config.max32] <;> rfl
  obtain ⟨x, hx, hstate, hheld⟩ := hforfeited
  have hbay : (s.bay b).device = ((creditForfeited b o { o with state := .held } s).bay b).device := rfl
  simp only [handOvertakes, hx, hheld, hstate, leftRunning]
  cases hd : (s.bay b).device <;> rfl

/-- A bay's order learns that its drain device is LOCAL. -/
theorem takesHand_handReported {s : State} {b : Fin 8} {o : Order} (ho : s.order b = some o) : TakesHand s (handReported b s) b o := by
  have hchanged := changeHolds_of_order ho fun h => { h with hand := true }
  have hset (y : Order) : (s.setOrder b (some y)).order b = some y := by rw [State.order_setOrder, if_pos rfl]
  have drains (hs : o.drains = true) :
      handReported b s = handOvertakes b (s.setOrder b (some { o with holds := { o.holds with hand := true } })) := by
    have hslot : o.state.holdsSlot = true := by rcases drains_iff.mp hs with h | h <;> rw [h] <;> rfl
    rw [withHolds_slot hslot] at hchanged
    simp only [handReported, hchanged, hset]
    rcases drains_iff.mp hs with h | h <;> simp only [h]
  have waits (hs : o.state = .queued ∨ o.state = .held) :
      handReported b s = s.setOrder b (some { o with holds := { o.holds with hand := true }, state := .held }) := by
    rw [withHolds_held hs (by simp [HoldCauses.isEmpty])] at hchanged
    simp only [handReported, hchanged, hset]
  have ends (hs : o.state = .closing ∨ o.state = .suspect) :
      handReported b s = s.setOrder b (some { o with holds := { o.holds with hand := true } }) := by
    rw [withHolds_slot (by rcases hs with h | h <;> rw [h] <;> rfl)] at hchanged
    simp only [handReported, hchanged, hset]
    rcases hs with h | h <;> simp only [h]
  unfold TakesHand
  cases hs : o.state with
  | queued => exact waits (.inl hs)
  | held => exact waits (.inr hs)
  | closing => exact (ends (.inl hs)).trans (by rw [hs])
  | suspect => exact (ends (.inr hs)).trans (by rw [hs])
  | opening =>
    refine (drains (drains_iff.mpr (.inl hs))).trans ((handOvertakes_eq (hset _)).trans ?_)
    simp only [creditForfeited_setOrder]
    rfl
  | running =>
    refine (drains (drains_iff.mpr (.inr hs))).trans ((handOvertakes_eq (hset _)).trans ?_)
    simp only [creditForfeited_setOrder]
    rfl

end Sys2Proof.Machine

/-! PROOF. Outcomes told to drain orders, and changes of their device (R128, R129, R134, R135, R139, R140, R142). -/

namespace Sys2Proof.Machine

/-! ### Outcomes that are told (R128, R171) -/

section
variable {s : State} {b : Fin 8} {o : Order}

/-- An order disregards an outcome that it does not wait for. -/
theorem tell_disregarded (ho : s.order b = some o) {c : LineCommand} (hengage : c = .engage → o.state ≠ .opening)
    (hrelease : c = .release → o.state ≠ .closing) (hreset : c = .reset → o.state ≠ .suspect ∨ o.reshut = false) (oc : LineOutcome) :
    tell (.order b) c oc s = s := by
  simp only [tell, ho]
  split
  · rename_i hs
    exact absurd hs (hengage rfl)
  · rename_i hs
    exact absurd hs (hrelease rfl)
  · rename_i hs
    have hwaits : o.reshut = false := (hreset rfl).resolve_left (by simp [hs])
    simp [hwaits]
  · rfl

theorem tell_engage (ho : s.order b = some o) (hs : o.state = .opening) (oc : LineOutcome) :
    tell (.order b) .engage oc s = engageOutcome b oc s := by
  simp only [tell, ho, hs]

theorem tell_release (ho : s.order b = some o) (hs : o.state = .closing) (oc : LineOutcome) :
    tell (.order b) .release oc s = releaseOutcome b oc s := by
  simp only [tell, ho, hs]

theorem tell_reset (ho : s.order b = some o) (hs : o.state = .suspect) (hr : o.reshut = true) (oc : LineOutcome) :
    tell (.order b) .reset oc s = reshutOutcome b oc s := by
  simp only [tell, ho, hs, hr, if_true]

/-- An order whose ENGAGE is DONE begins its first lot at the volume of its level (R129). -/
theorem enterRunning_eq (ho : s.order b = some o) {v : Nat} (hv : (s.level b).value = some v) : enterRunning b s
    = intervalChanged b (s.setOrder b (some { o with
      state := .running
      lot := some { startVolume := volumeAt (s.bay b).stage v, startTime := s.now, deadline := s.now + s.image.drain.lotTime, drained := 0 } })) := by
  have hvolume : volumeOf s b = some (volumeAt (s.bay b).stage v) := by rw [volumeOf, hv, Option.map_some]
  rw [enterRunning, ho, hvolume]
  rfl

/-- An order whose close has failed posts its notice, is SUSPECT, and has its bay inhibited; the planner takes the setting (R135; log
entry 28). -/
theorem enterSuspect_eq (ho : s.order b = some o) (f : Failure) : enterSuspect b f s
    = plannerTake ((post b.val (.drainFault (drainDetail o .shutFailed (some f) o.closing))
      (s.setOrder b (some { o with state := .suspect, failure := some f }))).withInhibit (s.inhibit.put b (some .shutFailed))) := by
  have hposted (n : Nat) (d : NoticeDetail) (u : State) : (post n d u).inhibit = u.inhibit := congrArg Kept.inhibit (kept_post n d u)
  simp only [enterSuspect, ho, setInhibit, raiseInhibit, hposted, State.setOrder_fields]

/-- A close that was to wait again does so (R134). -/
theorem confirmClose_waits (ho : s.order b = some o)
    (hc : o.closing = some .gap ∨ o.closing = some .worksStop ∨ o.closing = some .gauge) : confirmClose b s
      = slotGrant (testQueued b (s.setOrder b (some { o with
        closing := none, state := if o.holds = ⟨false, false, false⟩ then .queued else .held }))) := by
  rw [← waitingState_eq_queued_iff]
  rcases hc with hc | hc | hc <;> simp only [confirmClose, ho, hc]

/-- A close that ends the order retires it by its closing cause (R134). -/
theorem confirmClose_retires (ho : s.order b = some o) (hs : o.state = .closing) :
    (o.closing = some .done → Retired s (confirmClose b s) b (.drainDone (drainDetail o .done none none)))
    ∧ (o.closing = some .cancel → Retired s (confirmClose b s) b
      (.drainCancelled (drainDetail o (if o.cancelCause = some .planner then .planner else .host) none none)))
    ∧ (o.closing = some .openFailed → Retired s (confirmClose b s) b (.drainFault (drainDetail o .openFailed o.failure none)))
    ∧ (o.closing = some .deviceFailed → Retired s (confirmClose b s) b (.drainFault (drainDetail o .deviceFailed o.failure none))) := by
  have hslot : o.state.holdsSlot = true := by rw [hs]; rfl
  have hcause : (match o.cancelCause.getD .host with
      | .host => DrainCause.host
      | .planner => .planner) = if o.cancelCause = some .planner then .planner else .host := by
    rcases o.cancelCause with - | c
    · rfl
    · cases c <;> rfl
  refine ⟨fun hc => ?_, fun hc => ?_, fun hc => ?_, fun hc => ?_⟩
  all_goals simp only [confirmClose, ho, hc]
  · exact retired_retire ho hslot _ _ _
  · rw [← hcause]
    exact retired_retire ho hslot _ _ _
  · exact retired_retire ho hslot _ _ _
  · exact retired_retire ho hslot _ _ _

/-- A stalled order is retired with its bay inhibited, and the planner takes the setting last (log entry 28). -/
theorem confirmClose_stalled (ho : s.order b = some o) (hs : o.state = .closing) (hc : o.closing = some .stalled) :
    ∃ t, Retired (s.withInhibit (s.inhibit.put b (some .stalled))) t b (.drainFault (drainDetail o .stalled none none))
      ∧ confirmClose b s = plannerTake t := by
  refine ⟨_, retired_retire (s := raiseInhibit b .stalled s) ho (by rw [hs]; rfl) .drainFault .stalled none, ?_⟩
  simp only [confirmClose, ho, hc]

/-- A RESHUT's RESET that fails leaves the order SUSPECT, with its notice (R142). -/
theorem reshutFailed_eq (ho : s.order b = some o) (f : Failure) : reshutFailed b f s
    = post b.val (.drainFault (drainDetail o .reshutFailed (some f) none)) (s.setOrder b (some { o with reshut := false })) := by
  rw [reshutFailed, ho]

theorem tellSuperseded_reset (ho : s.order b = some o) (hs : o.state = .suspect) (hr : o.reshut = true) :
    tellSuperseded (.order b) .reset s = reshutFailed b .superseded s := by
  rw [tellSuperseded, ho]
  exact if_pos ⟨hs, hr, rfl⟩

end

/-! ### Changes of device state (R126, R139, R140) -/

/-- What a bay's order makes of the state that its drain device has taken. -/
def deviceTaken (b : Fin 8) (new : DeviceState) (s : State) : State :=
  match new with
  | .hand => handReported b s
  | .faulted _ => deviceFailedRunning b .faulted s
  | .lost _ => deviceFailedRunning b .lost s
  | .unknown | .closed | .opened | .moving => s

/-- LOCAL is the one state with its name. -/
theorem name_eq_hand {x : DeviceState} : x.name = .hand ↔ x = .hand := by cases x <;> simp [DeviceState.name]

theorem deviceChanged_same {old new : DeviceState} (h : old.name = new.name) (b : Fin 8) (s : State) : deviceChanged b old new s = s :=
  if_pos h

/-- A device that was not LOCAL. -/
theorem deviceChanged_eq {old new : DeviceState} (hold : old ≠ .hand) (h : old.name ≠ new.name) (b : Fin 8) (s : State) :
    deviceChanged b old new s = slotGrant (deviceTaken b new s) := by
  have hname : old.name ≠ .hand := fun hn => hold (name_eq_hand.mp hn)
  rw [deviceChanged, if_neg h]
  simp only [if_neg hname]
  rfl

/-- A device that was LOCAL frees the order first (R123). -/
theorem deviceChanged_fromHand {new : DeviceState} (h : new ≠ .hand) (b : Fin 8) (s : State) :
    deviceChanged b .hand new s = slotGrant (deviceTaken b new (handLeft b s)) := by
  have hname : DeviceState.hand.name ≠ new.name := fun hn => h (name_eq_hand.mp hn.symm)
  rw [deviceChanged, if_neg hname]
  rfl

/-- A state that asks nothing of the order. -/
theorem deviceTaken_plain {new : DeviceState} (h : new = .unknown ∨ new = .closed ∨ new = .opened ∨ new = .moving) (b : Fin 8) (s : State) :
    deviceTaken b new s = s := by
  rcases h with rfl | rfl | rfl | rfl <;> rfl

/-- A device that has failed, with the failure that is recorded (R140). -/
theorem deviceTaken_failed {new : DeviceState} {f : Failure}
    (h : ((∃ c, new = .faulted c) ∧ f = Failure.faulted) ∨ ((∃ c, new = .lost c) ∧ f = .lost)) (b : Fin 8) (s : State) :
    deviceTaken b new s = deviceFailedRunning b f s := by
  rcases h with ⟨⟨c, rfl⟩, rfl⟩ | ⟨⟨c, rfl⟩, rfl⟩ <;> rfl

theorem deviceFailedRunning_of_not_running {s : State} {b : Fin 8} (h : bayRunning s b = false) (f : Failure) :
    deviceFailedRunning b f s = s := by
  simp [deviceFailedRunning, h]

/-- A device that fails closes a RUNNING order (R140). -/
theorem deviceFailedRunning_eq {s : State} {b : Fin 8} {o : Order} (ho : s.order b = some o) (f : Failure) : deviceFailedRunning b f s
    = if o.state = .running then overtaken b o o.holds .deviceFailed (some f) s else s := by
  have hrunning : bayRunning s b = (o.state == .running) := by rw [bayRunning, ho]
  rw [deviceFailedRunning, hrunning, overtake_setFailure ho]
  simp only [beq_iff_eq]

/-- A bay without an order makes nothing of its device's state. -/
theorem deviceChanged_without_order {old new : DeviceState} {s : State} {b : Fin 8} (h : old.name ≠ new.name) (ho : s.order b = none) :
    deviceChanged b old new s = slotGrant s := by
  have htaken : deviceTaken b new s = s := by
    have hidle : bayRunning s b = false := by simp [bayRunning, ho]
    have hreported : handReported b s = s := by simp only [handReported, changeHolds_of_none ho, ho]
    cases new with
    | hand => exact hreported
    | faulted c => exact deviceFailedRunning_of_not_running hidle _
    | lost c => exact deviceFailedRunning_of_not_running hidle _
    | unknown => rfl
    | closed => rfl
    | opened => rfl
    | moving => rfl
  by_cases hold : old = .hand
  · subst hold
    have hleft : handLeft b s = s := by rw [handLeft, changeHolds_of_none ho, testQueued_of_none ho]
    rw [deviceChanged_fromHand (fun hn => h (by rw [hn])), hleft, htaken]
  · rw [deviceChanged_eq hold h, htaken]

end Sys2Proof.Machine

/-! PROOF. The ends of transactions and movements: what is told, recorded and handed on (R164, R170, R171). -/

namespace Sys2Proof.Machine

/-! ### The devices -/

theorem devices_of_kept {s t : State} (h : kept t = kept s) : t.act.devices = s.act.devices := congrArg Kept.devices h

theorem devices_confirmClose (b : Fin 8) (s : State) : (confirmClose b s).act.devices = s.act.devices := by
  have hinhibited : (plannerTake (retire b .drainFault .stalled none (raiseInhibit b .stalled s))).act.devices
      = (raiseInhibit b .stalled s).act.devices := devices_of_kept (by simp)
  have hwaits (x : Order) : (slotGrant (testQueued b (s.setOrder b (some x)))).act.devices = s.act.devices := devices_of_kept (by simp)
  cases ho : s.order b with
  | none => simp only [confirmClose, ho]
  | some o =>
    simp only [confirmClose, ho]
    cases o.closing with
    | none => exact hwaits _
    | some cause =>
      cases cause with
      | stalled => exact hinhibited
      | gap => exact hwaits _
      | worksStop => exact hwaits _
      | gauge => exact hwaits _
      | done => exact devices_of_kept (by simp)
      | cancel => exact devices_of_kept (by simp)
      | openFailed => exact devices_of_kept (by simp)
      | deviceFailed => exact devices_of_kept (by simp)

theorem devices_tell (orig : Originator) (c : LineCommand) (oc : LineOutcome) (s : State) :
    (tell orig c oc s).act.devices = s.act.devices := by
  have hrelease (b : Fin 8) : (releaseOutcome b oc s).act.devices = s.act.devices := by
    have hsuspect (f : Failure) : (enterSuspect b f s).act.devices = s.act.devices := by
      cases ho : s.order b with
      | none => simp only [enterSuspect, ho]
      | some o =>
        rw [enterSuspect_eq ho, devices_of_kept (kept_plannerTake _)]
        exact congrArg Actuator.devices (act_post b.val (.drainFault (drainDetail o .shutFailed (some f) o.closing)) _)
    cases oc with
    | done => exact devices_confirmClose b s
    | lost => exact hsuspect _
    | faulted => exact hsuspect _
    | hand => exact hsuspect _
    | superseded => rfl
  unfold tell
  repeat' split
  all_goals first
    | rfl
    | exact hrelease _
    | exact devices_of_kept (by simp)

theorem devices_concludeEvent (d : Fin 16) (old : DeviceState) (watch entry : Option EntryEnd) (c : LineCommand) (s : State) :
    (concludeEvent d old watch entry c s).act.devices = s.act.devices := by
  have htell (e : Option EntryEnd) (u : State) : (tellEnd e u).act.devices = u.act.devices := by
    cases e with
    | none => rfl
    | some x => exact devices_tell ..
  have hrecord (u : State) : (recordEnd d entry watch u).act.devices = u.act.devices := by
    unfold recordEnd
    split <;> rfl
  unfold concludeEvent
  dsimp only
  rw [act_announce, devices_of_kept (kept_handChange ..), hrecord, htell, htell]

/-! ### The last outcomes (R156, R171; log entry 23) -/

/-- The last outcome that an event records, at a second, where `before` was the last one: the entry's, else the watch's. -/
def recorded (entry watch : Option EntryEnd) (time : Nat) (before : Option LastOutcome) : Option LastOutcome :=
  match entry, watch with
  | some x, _ => some { command := x.command, orig := x.orig, outcome := x.outcome, time := time }
  | none, some x => some { command := x.command, orig := x.orig, outcome := x.outcome, time := time }
  | none, none => before

theorem recordEnd_eq (d : Fin 16) (entry watch : Option EntryEnd) (s : State) :
    (recordEnd d entry watch s).now = s.now ∧ (recordEnd d entry watch s).act.queue = s.act.queue
      ∧ ∀ y, (recordEnd d entry watch s).last y = if y = d then recorded entry watch s.now (s.last d) else s.last y := by
  have hlast (x : Option LastOutcome) (y : Fin 16) : (s.setLast d x).last y = if y = d then x else s.last y := by
    rw [State.last_setLast]
    simp only [eq_comm]
  cases entry with
  | some x => exact ⟨rfl, rfl, hlast _⟩
  | none =>
    cases watch with
    | some x => exact ⟨rfl, rfl, hlast _⟩
    | none => exact ⟨rfl, rfl, fun y => by split <;> simp_all [recordEnd, recorded]⟩

theorem follows_tellEnd {r s : State} (h : Follows r s) (e : Option EntryEnd) : Follows r (tellEnd e s) := by
  cases e with
  | none => exact h
  | some x => exact follows_tell h ..

/-- What follows an outcome at one moment. -/
theorem LastFollows.trans {s u t : State} {d : Fin 16} {given : Option LastOutcome} (h : LastFollows s u d given)
    (hqueue : ∀ e ∈ u.act.queue, e.notBefore.isSome = true → e ∈ s.act.queue) (g : Follows u t) : LastFollows s t d given := by
  rcases g.last d with hsame | ⟨e, he, hd, hc, hn, hlast⟩
  · rcases h with hgiven | ⟨e, he, hd, hc, hn, hlast⟩
    · exact .inl (hsame.trans hgiven)
    · exact .inr ⟨e, he, hd, hc, hn, by rw [hsame, hlast, g.now]⟩
  · exact .inr ⟨e, hqueue e he hn, hd, hc, hn, hlast⟩

/-- An event records its outcome with its device, and changes no other device's last outcome but by a supersession on the way. -/
theorem lastFollows_concludeEvent {d : Fin 16} {old : DeviceState} {watch entry : Option EntryEnd} {c : LineCommand} {s t : State}
    (h : Follows (concludeEvent d old watch entry c s) t) : (∀ y, y ≠ d → LastFollows s t y (s.last y))
      ∧ LastFollows s t d (recorded entry watch s.now (s.last d)) := by
  have htold : Follows s (tellEnd entry (tellEnd watch s)) := follows_tellEnd (follows_tellEnd (.refl s) watch) entry
  obtain ⟨hnow, hqueue, hlast⟩ := recordEnd_eq d entry watch (tellEnd entry (tellEnd watch s))
  have hrest : Follows (recordEnd d entry watch (tellEnd entry (tellEnd watch s))) t :=
    (follows_announce (follows_handChange (.refl _) ..) ..).trans h
  have hqueued : ∀ e ∈ (recordEnd d entry watch (tellEnd entry (tellEnd watch s))).act.queue, e.notBefore.isSome = true → e ∈ s.act.queue := by
    rw [hqueue]
    exact htold.queue
  refine ⟨fun y hy => LastFollows.trans ?_ hqueued hrest, LastFollows.trans ?_ hqueued hrest⟩
  · have hsame := hlast y
    rw [if_neg hy] at hsame
    unfold LastFollows
    rw [hsame, hnow]
    exact htold.last y
  · have hd := hlast d
    rw [if_pos rfl, htold.now] at hd
    cases entry with
    | some x => exact .inl hd
    | none =>
      cases watch with
      | some x => exact .inl hd
      | none => exact htold.last d

end Sys2Proof.Machine

/-! PROOF. The actuator line's deadlines: timeouts, back-offs, polls and movement deadlines (R163, R164, R169 to R171). -/

namespace Sys2Proof.Machine

/-! ### The line takes an entry (R159, R163) -/

theorem LineEntry.ready_iff {s : State} {e : LineEntry} : e.ready s = true ↔ ∀ k, e.notBefore = some k → k ≤ s.clock.fast := by
  unfold LineEntry.ready
  cases e.notBefore <;> simp

theorem lineTake_noneReady {s : State} (h : ∀ e ∈ s.act.queue, ¬ e.ready s = true) : lineTake s = s := by
  rw [lineTake, List.find?_eq_none.mpr h]
  cases s.act.current <;> rfl

/-- A drive command to a device that is not in step is opened by a RESET (R159). -/
theorem firstExchange_eq (v : DeviceVol) (c : LineCommand) :
    firstExchange v c = if c = .query then .query else if v.inStep then c else .reset := by
  cases c <;> simp [firstExchange]

/-- The idle line takes the first entry that is ready. -/
theorem lineTake_ready {s : State} {front back : List LineEntry} {e : LineEntry} (hidle : s.act.current = none)
    (hq : s.act.queue = front ++ e :: back) (hfront : ∀ x ∈ front, ¬ x.ready s = true) (he : e.ready s = true) :
    lineTake s = s.withAct { s.act with
      queue := front ++ back, current := some (sendFrame s e.device e.command e.orig (firstExchange (s.device e.device) e.command)) } := by
  have hfind : s.act.queue.find? (LineEntry.ready s) = some e := by
    rw [hq, List.find?_append, List.find?_eq_none.mpr hfront, List.find?_cons_of_pos he]
    rfl
  have hwaits : e ∉ front := fun hmem => hfront e hmem he
  have herase : s.act.queue.erase e = front ++ back := by
    rw [hq, List.erase_append_right _ hwaits, List.erase_cons_head]
  rw [lineTake, hidle, hfind]
  simp only [herase]

@[simp] theorem deviceNotBefore_arrive (m : Moment) (s : State) (d : Fin 16) : deviceNotBefore (arrive m s) d = deviceNotBefore s d := by
  simp [deviceNotBefore]

/-! ### A device leaves service (R156, R164, R170) -/

/-- A device that is FAULTED or LOST has no deadline, no watch and no poll. -/
theorem DeviceVol.enter_unwatched {st : DeviceState} (h : st.name.watched = false) (v : DeviceVol) (now poll : Nat) :
    v.enter st now poll = { v with state := st, deadline := none, watch := none, nextPoll := none } := by
  have hmoving : st ≠ .moving := by
    rintro rfl
    exact absurd h (by decide)
  simp [DeviceVol.enter, h, hmoving]

/-- What the steps of R171 leave of the devices and of the last outcomes, where a device enters a state that takes it out of service. -/
theorem outOfService {s u x : State} {d : Fin 16} {st old : DeviceState} {watch entry : Option EntryEnd} {c : LineCommand}
    (hst : st.name.watched = false) (hqueue : u.act.queue = s.act.queue) (hlasts : u.act.lasts = s.act.lasts)
    (hfollows : Follows (concludeEvent d old watch entry c (enterState d st u)) x)
    (hdevices : x.act.devices = (concludeEvent d old watch entry c (enterState d st u)).act.devices) :
    (refreshAlarms x).act.devices = u.act.devices.put d { u.device d with state := st, deadline := none, watch := none, nextPoll := none }
      ∧ (∀ y, y ≠ d → LastFollows s (refreshAlarms x) y (s.last y))
      ∧ LastFollows s (refreshAlarms x) d (recorded entry watch u.now (s.last d)) := by
  have hlast (y : Fin 16) : (enterState d st u).last y = s.last y := congrArg (·.at_ y) hlasts
  have hwaits : (enterState d st u).act.queue = s.act.queue := hqueue
  obtain ⟨hothers, hself⟩ := lastFollows_concludeEvent (follows_refreshAlarms hfollows)
  refine ⟨?_, fun y hy => ?_, ?_⟩
  · refine hdevices.trans ?_
    rw [devices_concludeEvent, ← DeviceVol.enter_unwatched hst]
    rfl
  · exact (lastFollows_congr hwaits).mp (hlast y ▸ hothers y hy)
  · exact (lastFollows_congr hwaits).mp (hlast d ▸ hself)

/-- The device of the current transaction after the attempts of a command have failed: a drive command has lost its step (R158, R164). -/
def stepLost (t : Transaction) (s : State) : State :=
  if t.command = .query then s else s.setDevice t.device { s.device t.device with inStep := false }

theorem stepLost_fields (t : Transaction) (s : State) : (stepLost t s).act.queue = s.act.queue ∧ (stepLost t s).act.lasts = s.act.lasts
    ∧ (stepLost t s).now = s.now := by
  unfold stepLost
  split <;> exact ⟨rfl, rfl, rfl⟩

/-- The attempts are exhausted: the device is LOST, and its watch and a drive entry are told so (R164). -/
theorem attemptFailed_exhausted {t : Transaction} {s : State} (h : t.retries ≤ t.resends) (cause : LostCause) : attemptFailed t cause s
    = lineIdle (concludeEvent t.device (s.device t.device).state
      ((s.device t.device).watch.map fun w => { command := w.command, orig := w.orig, outcome := .lost })
      (if t.command = .query then none else some { command := t.command, orig := t.orig, outcome := .lost }) t.command
      (enterState t.device (.lost cause) (stepLost t s))) := by
  rw [attemptFailed, if_neg (Nat.not_lt.mpr h), endInFault, stepLost]
  by_cases hc : t.command = .query
  · simp [hc, entryEnd, LineCommand.isDrive, watchEnd]
  · have hdrive : t.command.isDrive = true := by simpa [isDrive_eq] using hc
    have hself (v : DeviceVol) : (s.setDevice t.device v).device t.device = v := by rw [State.device_setDevice, if_pos rfl]
    simp only [if_pos hdrive, if_neg hc, entryEnd, watchEnd, loseStep, hself]

theorem resend_eq {s u : State} (h : LaterOf s u) (t : Transaction) : resend t u = u.withAct { s.act with current := some { t with
    resends := t.resends + 1, timeout := s.image.actuator.timeout, retries := s.image.actuator.retries, sentAt := u.clock.fast } } := by
  rw [resend, h.act, h.image]

/-- A device that has failed its attempts: it is LOST, out of service, and out of step after a drive command (R158, R164). -/
theorem devices_put_stepLost {s u : State} (h : LaterOf s u) (t : Transaction) (st : DeviceState) :
    (stepLost t u).act.devices.put t.device
        { (stepLost t u).device t.device with state := st, deadline := none, watch := none, nextPoll := none }
      = s.act.devices.put t.device { s.device t.device with
        state := st, deadline := none, watch := none, nextPoll := none
        inStep := if t.command = .query then (s.device t.device).inStep else false } := by
  have hdevice : u.device t.device = s.device t.device := congrArg (·.devices.at_ t.device) h.act
  unfold stepLost
  by_cases hc : t.command = .query
  · simp only [if_pos hc, hdevice, h.act]
  · simp only [if_neg hc, State.device_setDevice, if_true, hdevice]
    exact (Tab.put_put ..).trans (by rw [h.act])

/-- What is recorded of a transaction whose attempts are exhausted. -/
theorem recorded_lost (t : Transaction) (watch : Option Watch) (time : Nat) (before : Option LastOutcome) :
    recorded (if t.command = .query then none else some { command := t.command, orig := t.orig, outcome := .lost })
        (watch.map fun w => { command := w.command, orig := w.orig, outcome := .lost }) time before
      = match t.command, watch with
        | .query, none => before
        | .query, some w => some { command := w.command, orig := w.orig, outcome := .lost, time := time }
        | c, _ => some { command := c, orig := t.orig, outcome := .lost, time := time } := by
  cases hc : t.command <;> cases watch <;> rfl

/-- What is left of the devices and of the last outcomes after a transaction whose attempts are exhausted (R164, R171). -/
theorem lost_afterAttempts {s u : State} (h : LaterOf s u) (t : Transaction) :
    let v := s.device t.device
    let ended := concludeEvent t.device v.state
      (v.watch.map fun w => { command := w.command, orig := w.orig, outcome := .lost })
      (if t.command = .query then none else some { command := t.command, orig := t.orig, outcome := .lost }) t.command
      (enterState t.device (.lost .timeout) (stepLost t u))
    let x := refreshAlarms (lineIdle ended)
    x.act.devices = s.act.devices.put t.device { v with
        state := .lost .timeout, deadline := none, watch := none, nextPoll := none
        inStep := if t.command = .query then v.inStep else false }
      ∧ (∀ y, y ≠ t.device → LastFollows s x y (s.last y))
      ∧ LastFollows s x t.device (match t.command, v.watch with
        | .query, none => s.last t.device
        | .query, some w => some { command := w.command, orig := w.orig, outcome := .lost, time := u.now }
        | c, _ => some { command := c, orig := t.orig, outcome := .lost, time := u.now }) := by
  intro v ended x
  obtain ⟨hqueue, hlasts, hnow⟩ := stepLost_fields t u
  obtain ⟨hdevices, hothers, hself⟩ := outOfService (s := s) (u := stepLost t u) (x := lineIdle ended) (st := .lost .timeout) rfl
    (hqueue.trans (congrArg Actuator.queue h.act)) (hlasts.trans (congrArg Actuator.lasts h.act))
    (follows_lineIdle (.refl _)) (devices_of_kept (kept_lineIdle _))
  rw [devices_put_stepLost h] at hdevices
  rw [recorded_lost, hnow] at hself
  exact ⟨hdevices, hothers, hself⟩

end Sys2Proof.Machine

/-! PROOF. The deadlines of the actuator line take effect (R128, R134, R135, R139, R140, R142, R163, R164, R169 to R171). -/

namespace Sys2Proof.Machine

/-- ACTUATOR_RESPONSE_TIMEOUT (R164). -/
theorem responseTimeout_takesEffect (m : Moment) (s : State) (hrun : s.run = .running) :
    let a := arrive m s
    (s.act.current = none → exec (.actuatorResponseTimeout m) s = .next (refreshAlarms a))
    ∧ (∀ t, s.act.current = some t →
      let u := reachFast (t.sentAt + 3125 + t.timeout * 1000) a
      let v := s.device t.device
      (t.resends < t.retries → exec (.actuatorResponseTimeout m) s = .next (refreshAlarms (u.withAct { s.act with current := some { t with
        resends := t.resends + 1, timeout := s.image.actuator.timeout, retries := s.image.actuator.retries, sentAt := u.clock.fast } })))
      ∧ (t.retries ≤ t.resends → ∃ x, exec (.actuatorResponseTimeout m) s = .next x
        ∧ x.act.devices = s.act.devices.put t.device { v with
          state := .lost .timeout, deadline := none, watch := none, nextPoll := none
          inStep := if t.command = .query then v.inStep else false }
        ∧ (∀ y, y ≠ t.device → LastFollows s x y (s.last y))
        ∧ LastFollows s x t.device (match t.command, v.watch with
          | .query, none => s.last t.device
          | .query, some w => some { command := w.command, orig := w.orig, outcome := .lost, time := u.now }
          | c, _ => some { command := c, orig := t.orig, outcome := .lost, time := u.now })
        ∧ x = refreshAlarms (lineIdle (concludeEvent t.device v.state
          (v.watch.map fun w => { command := w.command, orig := w.orig, outcome := .lost })
          (if t.command = .query then none else some { command := t.command, orig := t.orig, outcome := .lost }) t.command
          (enterState t.device (.lost .timeout) (if t.command = .query then u else u.setDevice t.device { v with inStep := false })))))) := by
  intro a
  have hexec : exec (.actuatorResponseTimeout m) s = .next (refreshAlarms (responseTimesOut a)) := whileRunning_running m responseTimesOut s hrun
  have hact : a.act = s.act := (laterOf_arrive m s).act
  refine ⟨fun hidle => ?_, fun t ht => ?_⟩
  · rw [hexec, responseTimesOut, hact, hidle]
  intro u v
  have hlater : LaterOf s u := laterOf_reachFast _ m s
  have hfailed : exec (.actuatorResponseTimeout m) s = .next (refreshAlarms (attemptFailed t .timeout u)) := by
    rw [hexec, responseTimesOut, hact, ht]
    rfl
  refine ⟨fun hmore => ?_, fun hexhausted => ?_⟩
  · rw [hfailed, attemptFailed, if_pos hmore, resend_eq hlater]
  have hdevice : u.device t.device = v := congrArg (·.devices.at_ t.device) hlater.act
  have hended := attemptFailed_exhausted (s := u) hexhausted .timeout
  have hstep : stepLost t u = if t.command = .query then u else u.setDevice t.device { v with inStep := false } := by
    rw [stepLost, hdevice]
  rw [hdevice] at hended
  obtain ⟨hdevices, hothers, hself⟩ := lost_afterAttempts hlater t
  exact ⟨_, hfailed.trans (congrArg (fun w => Host.Outcome.next (refreshAlarms w)) hended), hdevices, hothers, hself, by rw [hstep]⟩

/-- ACTUATOR_NAK_BACKOFF_PASSED (R163). -/
theorem nakBackoff_takesEffect (m : Moment) (d : Fin 16) (s : State) (hrun : s.run = .running) :
    (deviceNotBefore s d = none → exec (.actuatorNakBackoffPassed m d) s = .next (refreshAlarms (arrive m s)))
    ∧ ∀ n, deviceNotBefore s d = some n →
      let u := reachFast n (arrive m s)
      let ready (x : LineEntry) : Prop := ∀ k, x.notBefore = some k → k ≤ u.clock.fast
      (s.act.current.isSome = true ∨ (∀ x ∈ s.act.queue, ¬ ready x) →
        exec (.actuatorNakBackoffPassed m d) s = .next (refreshAlarms u))
      ∧ ∀ front e back, s.act.current = none → s.act.queue = front ++ e :: back → (∀ x ∈ front, ¬ ready x) → ready e →
        let first : LineCommand := if e.command = .query then .query else if (s.device e.device).inStep then e.command else .reset
        exec (.actuatorNakBackoffPassed m d) s = .next (refreshAlarms (u.withAct { s.act with
          queue := front ++ back, current := some (sendFrame u e.device e.command e.orig first) })) := by
  have hexec : exec (.actuatorNakBackoffPassed m d) s = .next (refreshAlarms (nakBackoffPassed d (arrive m s))) :=
    whileRunning_running m (nakBackoffPassed d) s hrun
  refine ⟨fun hnone => ?_, fun n hn => ?_⟩
  · rw [hexec, nakBackoffPassed, deviceNotBefore_arrive, hnone]
  intro u ready
  have hact : u.act = s.act := (laterOf_reachFast n m s).act
  have hpassed : exec (.actuatorNakBackoffPassed m d) s = .next (refreshAlarms (lineTake u)) := by
    rw [hexec, nakBackoffPassed, deviceNotBefore_arrive, hn]
  refine ⟨fun hstays => ?_, fun front e back hidle hq hfront he => ?_⟩
  · rcases hstays with hbusy | hnone
    · rw [hpassed, lineTake_busy (hact ▸ hbusy)]
    · have hwaits : ∀ e ∈ u.act.queue, ¬ e.ready u = true := by
        rw [hact]
        exact fun e he hready => hnone e he (LineEntry.ready_iff.mp hready)
      rw [hpassed, lineTake_noneReady hwaits]
  · have hdevice : u.device e.device = s.device e.device := congrArg (·.devices.at_ e.device) hact
    have htaken := lineTake_ready (s := u) (hact ▸ hidle) (hact ▸ hq) (fun x hx hready => hfront x hx (LineEntry.ready_iff.mp hready))
      (LineEntry.ready_iff.mpr he)
    rw [hpassed, htaken, firstExchange_eq, hdevice, hact]

/-- DEVICE_POLL_DUE (R169). -/
theorem pollDue_takesEffect (m : Moment) (d : Fin 16) (s : State) (hrun : s.run = .running) :
    ((s.device d).nextPoll = none → exec (.devicePollDue m d) s = .next (refreshAlarms (arrive m s)))
    ∧ ∀ n, (s.device d).nextPoll = some n → exec (.devicePollDue m d) s = .next (refreshAlarms (putQuery d .watch
      ((reachSecond n (arrive m s)).setDevice d { s.device d with nextPoll := some (n + s.image.actuator.poll) }))) := by
  have hexec : exec (.devicePollDue m d) s = .next (refreshAlarms (pollReached d (arrive m s))) :=
    whileRunning_running m (pollReached d) s hrun
  refine ⟨fun hnone => ?_, fun n hn => ?_⟩
  · rw [hexec, pollReached, device_arrive, hnone]
  · have hlater : LaterOf s (reachSecond n (arrive m s)) := laterOf_reachSecond n m s
    rw [hexec, pollReached, device_arrive, hn]
    dsimp only
    rw [pollDue, device_reachSecond, device_arrive, hlater.image]

/-- MOVEMENT_DEADLINE (R170). -/
theorem movementDeadline_takesEffect (m : Moment) (d : Fin 16) (s : State) (hrun : s.run = .running) :
    ((s.device d).deadline = none → exec (.movementDeadline m d) s = .next (refreshAlarms (arrive m s)))
    ∧ ∀ n, (s.device d).deadline = some n → ∃ x, exec (.movementDeadline m d) s = .next x
      ∧ x.act.devices = s.act.devices.put d { s.device d with
        state := .faulted .moveTimeout, deadline := none, watch := none, nextPoll := none }
      ∧ (∀ y, y ≠ d → LastFollows s x y (s.last y))
      ∧ LastFollows s x d (match (s.device d).watch with
        | some w => some { command := w.command, orig := w.orig, outcome := .faulted, time := (reachSecond n.due (arrive m s)).now }
        | none => s.last d)
      ∧ x = refreshAlarms (concludeEvent d (s.device d).state
        ((s.device d).watch.map fun w => { command := w.command, orig := w.orig, outcome := .faulted }) none n.command
        (enterState d (.faulted .moveTimeout) (reachSecond n.due (arrive m s)))) := by
  have hexec : exec (.movementDeadline m d) s = .next (refreshAlarms (movementDeadlineReached d (arrive m s))) :=
    whileRunning_running m (movementDeadlineReached d) s hrun
  refine ⟨fun hnone => ?_, fun n hn => ?_⟩
  · rw [hexec, movementDeadlineReached, device_arrive, hnone]
  have hlater : LaterOf s (reachSecond n.due (arrive m s)) := laterOf_reachSecond n.due m s
  rw [movementDeadlineReached, device_arrive, hn] at hexec
  dsimp only at hexec
  rw [movementTimesOut, watchEnd, device_reachSecond, device_arrive] at hexec
  obtain ⟨hdevices, hothers, hself⟩ := outOfService (s := s) (st := .faulted .moveTimeout) rfl (congrArg Actuator.queue hlater.act)
    (congrArg Actuator.lasts hlater.act)
    (.refl (concludeEvent d (s.device d).state ((s.device d).watch.map fun w => { command := w.command, orig := w.orig, outcome := .faulted })
      none n.command (enterState d (.faulted .moveTimeout) (reachSecond n.due (arrive m s))))) rfl
  rw [hlater.act, device_reachSecond, device_arrive] at hdevices
  refine ⟨_, hexec, hdevices, hothers, ?_, rfl⟩
  cases hw : (s.device d).watch <;> rw [hw] at hself <;> exact hself

end Sys2Proof.Machine

/-! PROOF. A drain order takes the outcomes and the device states that reach it (R128, R134, R135, R139, R140, R142). -/

namespace Sys2Proof.Machine

section
variable {s : State} {b : Fin 8} {o : Order}

/-- An order in OPENING takes the outcome of its ENGAGE (R128, R129). -/
theorem opening_told (ho : s.order b = some o) (hs : o.state = .opening) :
    tell (.order b) .engage .superseded s = s
    ∧ TakesHand s (tell (.order b) .engage .hand s) b o
    ∧ tell (.order b) .engage .lost s = overtaken b o o.holds .openFailed (some .lost) s
    ∧ tell (.order b) .engage .faulted s = overtaken b o o.holds .openFailed (some .faulted) s
    ∧ ∀ v, (s.level b).value = some v → tell (.order b) .engage .done s = intervalChanged b (s.setOrder b (some { o with
        state := .running
        lot := some { startVolume := volumeAt (s.bay b).stage v, startTime := s.now, deadline := s.now + s.image.drain.lotTime, drained := 0 } })) := by
  have htold := tell_engage ho hs
  refine ⟨htold _, ?_, (htold _).trans (overtake_setFailure ho _ _), (htold _).trans (overtake_setFailure ho _ _), fun v hv => ?_⟩
  · rw [htold]
    exact takesHand_handReported ho
  · exact (htold _).trans (enterRunning_eq ho hv)

/-- An order in CLOSING takes the outcome of its RELEASE (R134, R135). -/
theorem closing_told (ho : s.order b = some o) (hs : o.state = .closing) :
    tell (.order b) .release .superseded s = s
    ∧ (∀ oc f, (oc, f) ∈ [(LineOutcome.lost, Failure.lost), (.faulted, .faulted), (.hand, .hand)] → tell (.order b) .release oc s
      = plannerTake ((post b.val (.drainFault (drainDetail o .shutFailed (some f) o.closing))
        (s.setOrder b (some { o with state := .suspect, failure := some f }))).withInhibit (s.inhibit.put b (some .shutFailed))))
    ∧ tell (.order b) .release .done s = confirmClose b s := by
  have htold := tell_release ho hs
  refine ⟨htold _, fun oc f hmem => ?_, htold _⟩
  have hsuspect : releaseOutcome b oc s = enterSuspect b f s := by
    simp only [List.mem_cons, List.not_mem_nil, or_false, Prod.mk.injEq] at hmem
    rcases hmem with ⟨rfl, rfl⟩ | ⟨rfl, rfl⟩ | ⟨rfl, rfl⟩ <;> rfl
  rw [htold, hsuspect]
  exact enterSuspect_eq ho f

/-- A SUSPECT order takes the outcome of its RESHUT's RESET (R142). -/
theorem suspect_told (ho : s.order b = some o) (hs : o.state = .suspect) (hr : o.reshut = true) :
    Retired s (tell (.order b) .reset .done s) b (.drainFault (drainDetail o .shutRecovered none none))
    ∧ tellSuperseded (.order b) .reset s = tell (.order b) .reset .superseded s
    ∧ ∀ oc f, (oc, f) ∈ [(LineOutcome.lost, Failure.lost), (.faulted, .faulted), (.hand, .hand), (.superseded, .superseded)] →
      tell (.order b) .reset oc s
        = post b.val (.drainFault (drainDetail o .reshutFailed (some f) none)) (s.setOrder b (some { o with reshut := false })) := by
  have htold := tell_reset ho hs hr
  refine ⟨?_, (tellSuperseded_reset ho hs hr).trans (htold .superseded).symm, fun oc f hmem => ?_⟩
  · rw [htold]
    exact retired_retire ho (by rw [hs]; rfl) .drainFault .shutRecovered none
  have hfailed : reshutOutcome b oc s = reshutFailed b f s := by
    simp only [List.mem_cons, List.not_mem_nil, or_false, Prod.mk.injEq] at hmem
    rcases hmem with ⟨rfl, rfl⟩ | ⟨rfl, rfl⟩ | ⟨rfl, rfl⟩ | ⟨rfl, rfl⟩ <;> rfl
  rw [htold, hfailed]
  exact reshutFailed_eq ho f

/-- A QUEUED order is tested: undone it stays; done it leaves, and the site model and the planner take that in a free order (R123, R125). -/
theorem testQueued_eq (ho : s.order b = some o) :
    let left := dropChoice (post b.val (.drainDone (drainDetail o .done none none)) (s.setOrder b none))
    (¬ OrderDone s b o → testQueued b s = s)
    ∧ (OrderDone s b o → testQueued b s = plannerTake (evaluateMode left) ∨ testQueued b s = evaluateMode (plannerTake left)) := by
  refine ⟨testQueued_undone ho, fun hdone => ?_⟩
  rw [testQueued_done ho hdone]
  exact (sitePlanner_cases _).1

/-- A device that leaves LOCAL frees the order before it is looked at again (R123, R139). -/
theorem deviceChanged_freed (b : Fin 8) (s : State) :
    let freed := testQueued b (changeHolds b (fun h => { h with hand := false }) s)
    (∀ new, new = .unknown ∨ new = .closed ∨ new = .opened ∨ new = .moving → deviceChanged b .hand new s = slotGrant freed)
    ∧ ∀ new, (∃ c, new = .faulted c) ∨ (∃ c, new = .lost c) → bayRunning freed b = false → deviceChanged b .hand new s = slotGrant freed := by
  refine ⟨fun new hnew => ?_, fun new hnew hidle => ?_⟩
  · rw [deviceChanged_fromHand (by rcases hnew with rfl | rfl | rfl | rfl <;> simp), deviceTaken_plain hnew]
    rfl
  · have hleaves : new ≠ .hand := by rcases hnew with ⟨c, rfl⟩ | ⟨c, rfl⟩ <;> simp
    have hfailed : ∃ f, ((∃ c, new = .faulted c) ∧ f = Failure.faulted) ∨ ((∃ c, new = .lost c) ∧ f = .lost) := by
      rcases hnew with h | h
      · exact ⟨_, .inl ⟨h, rfl⟩⟩
      · exact ⟨_, .inr ⟨h, rfl⟩⟩
    obtain ⟨f, hf⟩ := hfailed
    rw [deviceChanged_fromHand hleaves, deviceTaken_failed hf, handLeft, deviceFailedRunning_of_not_running hidle]

/-- The last steps of R171, and to whom a change of device state is handed. -/
theorem handChange_cases (d : Fin 16) (old new : DeviceState) (s : State) :
    (bayOfDevice s d = none → handChange d old new s = s)
    ∧ ∀ b, bayOfDevice s d = some b → handChange d old new s = deviceChanged b old new s := by
  refine ⟨fun h => ?_, fun b h => ?_⟩ <;> rw [handChange, h]

/-- Only a drain order acts on an outcome that is told (R171). -/
theorem tell_not_order {orig : Originator} (h : ∀ b, orig ≠ .order b) (c : LineCommand) (oc : LineOutcome) (s : State) : tell orig c oc s = s := by
  cases orig with
  | order b => exact absurd rfl (h b)
  | sweep => rfl
  | host => rfl
  | watch => rfl

end

/-! ### The obligation -/

/-- Settles O59: each deadline brings its event, whose end is told, recorded and handed on, and the order of the bay acts on it. -/
theorem actuatorDeadlinesTakeEffect : Obligations.ActuatorDeadlinesTakeEffect := by
  refine ⟨fun m s hrun => ?line, fun d old watch entry c s => ?steps, fun orig c oc s h => tell_not_order h c oc s, fun b o s ho => ?order⟩
  case line =>
    obtain ⟨hidle, hcurrent⟩ := responseTimeout_takesEffect m s hrun
    refine ⟨hidle, hcurrent, fun d => ?_⟩
    obtain ⟨hnone, hpassed⟩ := nakBackoff_takesEffect m d s hrun
    obtain ⟨hunpolled, hpoll⟩ := pollDue_takesEffect m d s hrun
    exact ⟨hnone, hpassed, hunpolled, hpoll, movementDeadline_takesEffect m d s hrun⟩
  case steps =>
    refine ⟨rfl, fun e => rfl, rfl, fun new h => (handChange_cases d old new s).1 h, fun new b h => ⟨(handChange_cases d old new s).2 b h, ?_, ?_⟩⟩
    · exact fun hsame => deviceChanged_same hsame b s
    · exact fun hname ho => deviceChanged_without_order hname ho
  case order =>
    intro told fault plain
    refine ⟨fun c oc hengage hrelease hreset => tell_disregarded ho hengage hrelease hreset oc, fun hs => opening_told ho hs, fun hs => ?closing,
      fun hs hr => suspect_told ho hs hr, gaugeLoss_eq ho, fun old hold => ?hand, fun old new f hold hname hf => ?failed,
      fun old new hold hname hnew => ?plain, fun f => (changeHolds_of_order ho f).trans (congrArg _ (congrArg _ (withHolds_eq o _))),
      testQueued_eq ho, deviceChanged_freed b s⟩
    case closing =>
      obtain ⟨hsuperseded, hfails, hconfirmed⟩ := closing_told ho hs
      obtain ⟨hdone, hcancel, hopenFailed, hdeviceFailed⟩ := confirmClose_retires ho hs
      rw [← hconfirmed] at hdone hcancel hopenFailed hdeviceFailed
      refine ⟨hsuperseded, hfails, hdone, hcancel, fun hc => ?_, hopenFailed, hdeviceFailed, fun hc => hconfirmed.trans (confirmClose_waits ho hc)⟩
      obtain ⟨t, hretired, hplanned⟩ := confirmClose_stalled ho hs hc
      exact ⟨t, hretired, hconfirmed.trans hplanned⟩
    case hand =>
      have hname : old.name ≠ DeviceState.hand.name := fun h => hold (name_eq_hand.mp h)
      exact ⟨handReported b s, takesHand_handReported ho, deviceChanged_eq hold hname b s⟩
    case failed => rw [deviceChanged_eq hold hname, deviceTaken_failed hf, deviceFailedRunning_eq ho]
    case plain => rw [deviceChanged_eq hold hname, deviceTaken_plain hnew]

end Sys2Proof.Machine

/-! PROOF. What an evaluation of the planner leaves, and INHIBIT_AUTO (R147, R150, R151). -/

namespace Sys2Proof.Machine

/-! ### What slot grant leaves of an order -/

/-- The source, the lots and the target of a bay's order, which stay while the order stands. -/
def orderAim (s : State) (b : Fin 8) : Option (Source × Nat × Nat) := (s.order b).map fun o => (o.source, o.lots, o.target)

theorem orderAim_isSome (s : State) (b : Fin 8) : (orderAim s b).isSome = (s.order b).isSome := Option.isSome_map ..

theorem order_of_orderAim {s : State} {b : Fin 8} {x : Source × Nat × Nat} (h : orderAim s b = some x) :
    ∃ o, s.order b = some o ∧ o.source = x.1 ∧ o.lots = x.2.1 ∧ o.target = x.2.2 := by
  obtain ⟨o, ho, rfl⟩ := Option.map_eq_some_iff.mp h
  exact ⟨o, ho, rfl, rfl, rfl⟩

/-- The end of a RESHUT leaves the aim of an order alone. -/
theorem orderAim_of_reshutLike {s t : State} {b : Fin 8} (h : ReshutLike (s.order b) (t.order b)) : orderAim t b = orderAim s b := by
  rcases h with hsame | ⟨o, ho, -, hends⟩
  · rw [orderAim, hsame, orderAim]
  · rw [orderAim, hends, orderAim, ho]
    rfl

@[simp] theorem orderAim_enterOpening (c : Fin 8) (s : State) (b : Fin 8) : orderAim (enterOpening c s) b = orderAim s b := by
  by_cases hcb : c = b
  · subst hcb
    cases ho : s.order c with
    | none => simp only [enterOpening, ho]
    | some o =>
      rw [orderAim, order_enterOpening_self ho, orderAim, ho]
      rfl
  · exact orderAim_of_reshutLike (order_enterOpening_other hcb s)

@[simp] theorem orderAim_creditsWanted (s : State) (b : Fin 8) : orderAim (creditsWanted s) b = orderAim s b := by
  unfold creditsWanted
  repeat' split
  all_goals rfl

@[simp] theorem orderAim_slotGrant (s : State) (b : Fin 8) : orderAim (slotGrant s) b = orderAim s b := by
  have hrounds (n : Nat) (s : State) : orderAim (slotGrantRounds n s) b = orderAim s b := by
    induction n generalizing s with
    | zero => exact orderAim_creditsWanted s b
    | succ n ih =>
      unfold slotGrantRounds
      repeat' split
      · rw [ih, orderAim_enterOpening]
      · rfl
      · exact orderAim_creditsWanted s b
  exact hrounds 8 s

/-! ### Candidates (R147) -/

/-- The level that the planner drains a bay to, by the mode and the alert level as they stand. -/
def plannedLevel (s : State) (b : Fin 8) : Option Nat := targetLevel s b (plannerTarget s)

/-- The planned level is read from the mode and from what the reactions of the blocks keep. -/
theorem plannedLevel_congr {s t : State} (hk : kept t = kept s) (hm : t.mode = s.mode) (b : Fin 8) : plannedLevel t b = plannedLevel s b := by
  have hbay : t.bay b = s.bay b := congrArg (fun k => k.image.bays.at_ b) hk
  have hrain : t.rain = s.rain := congrArg Kept.rain hk
  have htarget : plannerTarget t = plannerTarget s := by simp only [plannerTarget, hm, hrain]
  rw [plannedLevel, plannedLevel, htarget]
  cases plannerTarget s <;> simp only [targetLevel, hbay]

/-- Whether a bay is a candidate is read from the mode, from whether it has an order, and from what the reactions of the blocks keep. -/
theorem candidateUnmet_congr {s t : State} (hk : kept t = kept s) (hm : t.mode = s.mode) {b : Fin 8} (ho : orderAim t b = orderAim s b) :
    candidateUnmet t b = candidateUnmet s b := by
  have hbay : t.bay b = s.bay b := congrArg (fun k => k.image.bays.at_ b) hk
  have hlevel : t.level b = s.level b := congrArg (fun k => k.lvl.records.at_ b) hk
  have hinhibit : t.inhibit = s.inhibit := congrArg Kept.inhibit hk
  have himage : t.image = s.image := congrArg Kept.image hk
  have horder : (t.order b).isSome = (s.order b).isSome := by rw [← orderAim_isSome, ← orderAim_isSome, ho]
  have hplanned : targetLevel t b (plannerTarget t) = targetLevel s b (plannerTarget s) := plannedLevel_congr hk hm b
  have hcalled : calledFor t b = calledFor s b := by simp only [calledFor, hplanned, aboveTarget, hlevel, himage]
  simp only [candidateUnmet, hbay, hinhibit, horder, hlevel, hcalled]

/-- A bay with an order is no candidate. -/
theorem not_candidate_of_order {s : State} {b : Fin 8} (h : (s.order b).isSome = true) : (candidateUnmet s b).isSome = true := by
  unfold candidateUnmet
  rw [if_pos h]
  repeat' split
  all_goals rfl

/-- The planner drains a candidate to a level. -/
theorem plannedLevel_of_candidate {s : State} {b : Fin 8} (h : candidateUnmet s b = none) : ∃ n, plannedLevel s b = some n := by
  have hcalled : calledFor s b = true := by
    by_contra hnot
    rw [Bool.not_eq_true] at hnot
    unfold candidateUnmet at h
    rw [if_pos hnot] at h
    repeat' split at h
    all_goals contradiction
  unfold calledFor at hcalled
  split at hcalled
  · rename_i n hn
    exact ⟨n, hn⟩
  · contradiction

theorem anyCandidate_eq_false {s : State} : anyCandidate s = false ↔ ∀ b, (candidateUnmet s b).isSome = true := by
  simp [anyCandidate, mem_allBays, Option.isSome_iff_ne_none]

/-! ### The planner reaches a bay (R147) -/

/-- The order that the planner creates for a candidate, before slot grant. -/
theorem plannerBay_candidate {s : State} {b : Fin 8} (h : candidateUnmet s b = none) {n : Nat} (hn : plannedLevel s b = some n) :
    plannerBay s b = slotGrant (s.setOrder b (some (newOrder s b .auto 0 n))) := by
  rw [plannedLevel] at hn
  simp only [plannerBay, h, hn]

/-- The planner leaves a bay that is no candidate as it is. -/
theorem plannerBay_passed {s : State} {b : Fin 8} (h : (candidateUnmet s b).isSome = true) : plannerBay s b = s := by
  obtain ⟨c, hc⟩ := Option.isSome_iff_exists.mp h
  simp only [plannerBay, hc]

/-- A candidate that the planner reaches has an order of source AUTO. -/
theorem orderAim_plannerBay_candidate {s : State} {b : Fin 8} (h : candidateUnmet s b = none) :
    orderAim (plannerBay s b) b = (plannedLevel s b).map fun n => (.auto, 0, n) := by
  obtain ⟨n, hn⟩ := plannedLevel_of_candidate h
  rw [plannerBay_candidate h hn, orderAim_slotGrant, orderAim, State.order_setOrder, if_pos rfl, hn]
  rfl

/-- Reaching one bay leaves the aims of the others' orders. -/
theorem orderAim_plannerBay_other {b c : Fin 8} (h : c ≠ b) (s : State) : orderAim (plannerBay s c) b = orderAim s b := by
  cases hc : candidateUnmet s c with
  | none =>
    obtain ⟨n, hn⟩ := plannedLevel_of_candidate hc
    rw [plannerBay_candidate hc hn, orderAim_slotGrant, orderAim, State.order_setOrder, if_neg h, orderAim]
  | some x => rw [plannerBay_passed (by rw [hc]; rfl)]

theorem candidateUnmet_plannerBay_other {b c : Fin 8} (h : c ≠ b) (s : State) : candidateUnmet (plannerBay s c) b = candidateUnmet s b :=
  candidateUnmet_congr (kept_plannerBay s c) (mode_snd_plannerBay s c).1 (orderAim_plannerBay_other h s)

/-- The bay that the planner has reached is no candidate. -/
theorem not_candidate_plannerBay (s : State) (b : Fin 8) : (candidateUnmet (plannerBay s b) b).isSome = true := by
  cases hb : candidateUnmet s b with
  | none =>
    obtain ⟨n, hn⟩ := plannedLevel_of_candidate hb
    refine not_candidate_of_order ?_
    rw [← orderAim_isSome, orderAim_plannerBay_candidate hb, hn]
    rfl
  | some x => rw [plannerBay_passed (by rw [hb]; rfl), hb]; rfl

/-! ### The planner passes over the bays (R147) -/

/-- A bay that is no candidate is left out, and is none afterwards, whichever bays the planner reaches. -/
theorem foldl_plannerBay_passed {b : Fin 8} (l : List (Fin 8)) {s : State} (h : (candidateUnmet s b).isSome = true) :
    orderAim (l.foldl plannerBay s) b = orderAim s b ∧ (candidateUnmet (l.foldl plannerBay s) b).isSome = true := by
  induction l generalizing s with
  | nil => exact ⟨rfl, h⟩
  | cons c t ih =>
    rw [List.foldl_cons]
    by_cases hcb : c = b
    · subst hcb
      rw [plannerBay_passed h]
      exact ih h
    · rw [← orderAim_plannerBay_other hcb s]
      exact ih (by rwa [candidateUnmet_plannerBay_other hcb])

/-- A candidate receives its order when the planner reaches it, whatever stands before and after it. -/
theorem foldl_plannerBay_candidate {b : Fin 8} {l : List (Fin 8)} (hb : b ∈ l) {s : State} (h : candidateUnmet s b = none) :
    orderAim (l.foldl plannerBay s) b = (plannedLevel s b).map (fun n => (.auto, 0, n))
      ∧ (candidateUnmet (l.foldl plannerBay s) b).isSome = true := by
  induction l generalizing s with
  | nil => contradiction
  | cons c t ih =>
    rw [List.foldl_cons]
    by_cases hcb : c = b
    · subst hcb
      rw [← orderAim_plannerBay_candidate h]
      exact foldl_plannerBay_passed t (not_candidate_plannerBay s c)
    · rw [← plannedLevel_congr (kept_plannerBay s c) (mode_snd_plannerBay s c).1 b]
      exact ih ((List.mem_cons.mp hb).resolve_left (Ne.symm hcb)) (by rwa [candidateUnmet_plannerBay_other hcb])

/-- After an evaluation no bay is a candidate. -/
theorem anyCandidate_plannerEvaluation (s : State) : anyCandidate (plannerEvaluation s) = false := by
  refine anyCandidate_eq_false.mpr fun b => ?_
  cases hb : candidateUnmet s b with
  | none => exact (foldl_plannerBay_candidate (mem_allBays b) hb).2
  | some x => exact (foldl_plannerBay_passed allBays (by rw [hb]; rfl)).2

/-- An evaluation that finds no candidate changes nothing. -/
theorem plannerEvaluation_of_no_candidate {s : State} (h : anyCandidate s = false) : plannerEvaluation s = s :=
  List.foldl_fixed' (fun b => plannerBay_passed (anyCandidate_eq_false.mp h b)) allBays

/-- A candidate has, after an evaluation, an order of source AUTO that drains to its planned level. -/
theorem order_plannerEvaluation_candidate {s : State} {b : Fin 8} (h : candidateUnmet s b = none) :
    ∃ o, (plannerEvaluation s).order b = some o ∧ o.source = .auto ∧ o.lots = 0 ∧ some o.target = plannedLevel s b := by
  obtain ⟨n, hn⟩ := plannedLevel_of_candidate h
  have haim : orderAim (plannerEvaluation s) b = some (.auto, 0, n) := by
    rw [plannerEvaluation, (foldl_plannerBay_candidate (mem_allBays b) h).1, hn]
    rfl
  obtain ⟨o, ho, hsource, hlots, htarget⟩ := order_of_orderAim haim
  exact ⟨o, ho, hsource, hlots, by rw [htarget, hn]⟩

/-- A bay without an order that is no candidate has none after an evaluation. -/
theorem order_plannerEvaluation_none {s : State} {b : Fin 8} (h : (candidateUnmet s b).isSome = true) (ho : s.order b = none) :
    (plannerEvaluation s).order b = none := by
  have haim : orderAim (plannerEvaluation s) b = none := by
    rw [plannerEvaluation, (foldl_plannerBay_passed allBays h).1, orderAim, ho]
    rfl
  exact Option.map_eq_none_iff.mp haim

/-! ### INHIBIT_AUTO (R150, R151) -/

/-- What the planner takes leaves the auto-inhibit flags. -/
theorem inhibit_plannerTake (s : State) : (plannerTake s).inhibit = s.inhibit := congrArg Kept.inhibit (kept_plannerTake s)

/-- The planner, and the mode after it, make no order for a bay that is inhibited. -/
theorem order_plannerTake_inhibited {s : State} {b : Fin 8} (h : (s.inhibit.at_ b).isSome = true) (ho : s.order b = none) :
    (plannerTake s).order b = none := by
  have hover : PassedOver s b := ⟨by simp [ho], fun _ => h⟩
  have hsome := (undisturbed_plannerTake hover (.refl b s)).order.isSome
  rw [ho] at hsome
  exact Option.isNone_iff_eq_none.mp (by simpa using hsome)

/-- INHIBIT_AUTO with a value that is listed looks at its bay. -/
theorem handleInhibit_listed {v : Nat} (hv : v ≤ 1) (n : Nat) (s : State) :
    handleInhibit (.fields { bay := n, value := v }) s = onBay n s fun b => inhibitBay b (v == 1) s :=
  if_pos hv

/-- INHIBIT_AUTO ON of an enabled bay: the planner evaluates with the flag set, so no order is created for the bay. -/
theorem handleInhibit_on {s : State} {b : Fin 8} (h : (s.bay b).enabled = true) :
    let u := plannerTake (s.withInhibit (s.inhibit.put b (some .host)))
    handleInhibit (.fields { bay := b.val, value := 1 }) s = answerOk (.inhibit (some .host) false) u := by
  intro u
  have hset : (s.withInhibit (s.inhibit.put b (some .host))).inhibit.at_ b = some .host := by simp
  have hflag : u.inhibit.at_ b = some .host := by rw [inhibit_plannerTake, hset]
  have hcreated : ((s.order b).isNone && (u.order b).isSome) = false := by
    cases ho : s.order b with
    | none =>
      have hnone : u.order b = none := order_plannerTake_inhibited (by rw [hset]; rfl) ho
      rw [hnone]
      rfl
    | some o => rfl
  rw [handleInhibit_listed (Nat.le_refl 1), onBay_enabled h]
  show inhibitAnswer b s u = _
  rw [inhibitAnswer, hflag, hcreated]

/-- INHIBIT_AUTO OFF of an enabled bay: the planner evaluates with the flag clear, and may create an order for the bay. -/
theorem handleInhibit_off {s : State} {b : Fin 8} (h : (s.bay b).enabled = true) :
    let u := plannerTake (s.withInhibit (s.inhibit.put b none))
    handleInhibit (.fields { bay := b.val, value := 0 }) s
      = answerOk (.inhibit none ((s.order b).isNone && (u.order b).isSome)) u := by
  intro u
  have hflag : u.inhibit.at_ b = none := by rw [inhibit_plannerTake]; simp
  rw [handleInhibit_listed (Nat.zero_le 1), onBay_enabled h]
  show inhibitAnswer b s u = _
  rw [inhibitAnswer, hflag]

/-- INHIBIT_AUTO of a bay that is out of range, or that is not enabled, is refused, whether it is ON or OFF (log entry 59). -/
theorem inhibitAuto_refused {m : Moment} {q : Byte} {s : State} (hfree : PortFree s) {v : Nat} (hv : v ≤ 1) :
    (∀ n, 8 ≤ n → hostRequest m q (.inhibitAuto (.fields { bay := n, value := v })) s
      = .next (answered q 0xB8#8 .refusedRange .empty (arrive m s)))
    ∧ ∀ b : Fin 8, (s.bay b).enabled = false → hostRequest m q (.inhibitAuto (.fields { bay := b.val, value := v })) s
      = .next (answered q 0xB8#8 .refusedUnconfigured .empty (arrive m s)) := by
  refine ⟨fun n hn => ?_, fun b hb => ?_⟩
  · exact hostRequest_refused hfree (handleInhibit_outside (.inl hn) _) (by decide) (by decide)
  · have hdisabled : ((arrive m s).bay b).enabled = false := by rwa [bay_arrive]
    exact hostRequest_refused hfree ((handleInhibit_listed hv _ _).trans (onBay_disabled hdisabled _)) (by decide) (by decide)

/-- Settles O52: INHIBIT_AUTO sets or clears the flag before the planner evaluates, and an evaluation gives every candidate its order when it
reaches the bay, and reaches every bay. -/
theorem inhibitAutoAndThePlanner : Obligations.InhibitAutoAndThePlanner := by
  refine ⟨fun m q s hfree => ?requests, fun s => ?evaluation⟩
  case requests =>
    intro a
    obtain ⟨honRange, honDisabled⟩ := inhibitAuto_refused (m := m) (q := q) hfree (Nat.le_refl 1)
    obtain ⟨hoffRange, hoffDisabled⟩ := inhibitAuto_refused (m := m) (q := q) hfree (Nat.zero_le 1)
    refine ⟨fun n hn => ⟨honRange n hn, hoffRange n hn⟩, fun b => ⟨fun hb => ⟨honDisabled b hb, hoffDisabled b hb⟩, fun hb => ?_⟩⟩
    have henabled : (a.bay b).enabled = true := by rwa [bay_arrive]
    have hinhibit : a.inhibit = s.inhibit := by simp [a]
    have horder : a.order b = s.order b := order_arrive m s b
    rw [← hinhibit, ← horder]
    exact ⟨hostRequest_ok hfree (handleInhibit_on henabled) rfl rfl, hostRequest_ok hfree (handleInhibit_off henabled) rfl rfl⟩
  case evaluation =>
    exact ⟨anyCandidate_plannerEvaluation s, fun b => order_plannerEvaluation_candidate, fun b => order_plannerEvaluation_none,
      plannerEvaluation_of_no_candidate⟩

end Sys2Proof.Machine

/-! PROOF. What the ends of transactions and movements leave of the state, and SET_DEVICE (R154, R155, R171). -/

namespace Sys2Proof.Machine

/-! ### What outcomes that are told leave alone (R171) -/

/-- What the outcomes that drain orders are told never touch: what every reaction keeps, but for the auto-inhibit flags. -/
def steady (s : State) : Kept := { kept s with inhibit := Tab.all 8 none }

theorem steady_of_kept {s t : State} (h : kept t = kept s) : steady t = steady s := by
  rw [steady, h, steady]

theorem steady_confirmClose (b : Fin 8) (s : State) : steady (confirmClose b s) = steady s := by
  have hinhibited : steady (plannerTake (retire b .drainFault .stalled none (raiseInhibit b .stalled s))) = steady (raiseInhibit b .stalled s) :=
    steady_of_kept (by simp)
  cases ho : s.order b with
  | none => simp only [confirmClose, ho]
  | some o =>
    simp only [confirmClose, ho]
    cases o.closing with
    | none => exact steady_of_kept (by simp)
    | some cause =>
      cases cause with
      | stalled => exact hinhibited
      | _ => exact steady_of_kept (by simp)

theorem steady_enterSuspect (b : Fin 8) (f : Failure) (s : State) : steady (enterSuspect b f s) = steady s := by
  cases ho : s.order b with
  | none => simp only [enterSuspect, ho]
  | some o =>
    let suspect := post b.val (.drainFault (drainDetail o .shutFailed (some f) o.closing))
      (s.setOrder b (some { o with state := .suspect, failure := some f }))
    have hflag : steady (raiseInhibit b .shutFailed suspect) = steady suspect := rfl
    simp only [enterSuspect, ho]
    exact (steady_of_kept (kept_plannerTake _)).trans (hflag.trans (steady_of_kept (by simp [suspect])))

theorem steady_tell (orig : Originator) (c : LineCommand) (oc : LineOutcome) (s : State) : steady (tell orig c oc s) = steady s := by
  have hrelease (b : Fin 8) : steady (releaseOutcome b oc s) = steady s := by
    cases oc with
    | done => exact steady_confirmClose b s
    | lost => exact steady_enterSuspect b _ s
    | faulted => exact steady_enterSuspect b _ s
    | hand => exact steady_enterSuspect b _ s
    | superseded => rfl
  unfold tell
  repeat' split
  all_goals first
    | rfl
    | exact hrelease _
    | exact steady_of_kept (by simp)

theorem steady_tellEnd (e : Option EntryEnd) (s : State) : steady (tellEnd e s) = steady s := by
  cases e with
  | none => rfl
  | some x => exact steady_tell ..

theorem steady_concludeEvent (d : Fin 16) (old : DeviceState) (watch entry : Option EntryEnd) (c : LineCommand) (s : State) :
    steady (concludeEvent d old watch entry c s) = steady s := by
  have hrecord (u : State) : steady (recordEnd d entry watch u) = steady u := by
    unfold recordEnd
    split <;> rfl
  unfold concludeEvent
  dsimp only
  rw [steady_of_kept (kept_announce ..), steady_of_kept (kept_handChange ..), hrecord, steady_tellEnd, steady_tellEnd]

/-! ### SET_DEVICE (R154, R155) -/

theorem handleSetDevice_outside {f : DeviceFields} (h : 16 ≤ f.device) (s : State) :
    handleSetDevice (.fields f) s = refuse .refusedRange s := by
  rw [handleSetDevice, onFields_fields, index?_of_le h]

/-- A device is removed, where its state does not forbid it. -/
theorem handleSetDevice_removes {f : DeviceFields} {d : Fin 16} (hd : f.device = d.val) (h0 : f.configured = 0) (s : State) :
    handleSetDevice (.fields f) s
      = if deviceStateFails s d 0 then refuse .refusedState s else answerOk .empty (applyDevice d none s) := by
  rw [handleSetDevice, onFields_fields, hd, index?_val]
  simp [h0]

/-- A record that is to be stored is tested first, then the device's state (R154). -/
theorem handleSetDevice_configures {f : DeviceFields} {d : Fin 16} (hd : f.device = d.val) (h0 : f.configured ≠ 0) (s : State) :
    handleSetDevice (.fields f) s = match deviceRecord? f with
      | none => refuse .refusedRange s
      | some r => if f.configured ≠ 1 ∨ addressHeld s d f.address = true then refuse .refusedRange s
        else if deviceStateFails s d 1 then refuse .refusedState s else answerOk .empty (applyDevice d (some r) s) := by
  rw [handleSetDevice, onFields_fields, hd, index?_val]
  cases deviceRecord? f with
  | none => simp [h0]
  | some r => by_cases h1 : f.configured = 1 <;> simp [h0, h1]

/-- The record is written, and the device's volatile state is that of a start, before the other blocks react. -/
def deviceStored (d : Fin 16) (r : Option DeviceRec) (s : State) : State :=
  ((writeImage { s.image with devices := s.image.devices.put d r } s).setDevice d DeviceVol.start).setLast d none

/-- The watch that has ended is told, and the change of state is handed on. -/
def deviceRestarted (d : Fin 16) (r : Option DeviceRec) (s : State) : State :=
  handChange d (s.device d).state .unknown (tellEnd (watchEnd s d .superseded) (deviceStored d r s))

theorem applyDevice_none (d : Fin 16) (s : State) : applyDevice d none s = deviceRestarted d none s := rfl

theorem applyDevice_some (d : Fin 16) (r : DeviceRec) (s : State) :
    applyDevice d (some r) s = putDrive d .reset .sweep (deviceRestarted d (some r) s) := rfl

/-- The reactions leave the stored record and the restarted device as they are. -/
theorem applyDevice_reacts (d : Fin 16) (r : Option DeviceRec) (s : State) :
    steady (applyDevice d r s) = steady (deviceStored d r s) ∧ Follows (deviceStored d r s) (applyDevice d r s) := by
  have hsteady : steady (deviceRestarted d r s) = steady (deviceStored d r s) :=
    (steady_of_kept (kept_handChange ..)).trans (steady_tellEnd ..)
  have hfollows : Follows (deviceStored d r s) (deviceRestarted d r s) := follows_handChange (follows_tellEnd (.refl _) _) ..
  cases r with
  | none => exact ⟨hsteady, hfollows⟩
  | some r => exact ⟨(steady_of_kept (kept_putDrive ..)).trans hsteady, follows_putDrive hfollows ..⟩

/-- No entry of a device waits with the line where its state lets SET_DEVICE pass (R154). -/
theorem device_ne_of_stateFails {s : State} {d : Fin 16} {n : Nat} (h : deviceStateFails s d n = false) : ∀ e ∈ s.act.queue, e.device ≠ d := by
  simp only [deviceStateFails, deviceOnLine, Bool.or_eq_false_iff] at h
  simpa using h.1.1.1

/-- An accepted SET_DEVICE, told from the state before the moment. -/
theorem applyDevice_takesEffect {s a : State} {d : Fin 16} {n : Nat} (hlater : LaterOf s a) (hpasses : deviceStateFails s d n = false)
    (r : Option DeviceRec) (q : Byte) :
    let t := answered q 0xC0#8 .ok .empty (applyDevice d r a)
    t.image = { s.image with devices := s.image.devices.put d r } ∧ t.ret.cold = false ∧ t.device d = DeviceVol.start ∧ t.last d = none
      ∧ ∀ x : Fin 16, x ≠ d → t.device x = s.device x ∧ LastFollows s t x (s.last x) := by
  intro t
  obtain ⟨hsteady, hreacts⟩ := applyDevice_reacts d r a
  have hfollows : Follows (deviceStored d r a) t := hreacts.same rfl rfl
  have hdevice (x : Fin 16) : t.device x = if d = x then DeviceVol.start else s.device x := by
    have hdevices : t.act.devices = a.act.devices.put d DeviceVol.start := congrArg Kept.devices hsteady
    rw [State.device, hdevices, Tab.at_put, hlater.act, State.device]
  have hlast (x : Fin 16) : (deviceStored d r a).last x = if d = x then none else s.last x := by
    have hlasts : (deviceStored d r a).act.lasts = a.act.lasts.put d none := rfl
    rw [State.last, hlasts, Tab.at_put, hlater.act, State.last]
  have hqueue : (deviceStored d r a).act.queue = s.act.queue := (rfl : _ = a.act.queue).trans (congrArg Actuator.queue hlater.act)
  refine ⟨?image, ?cold, by rw [hdevice, if_pos rfl], ?last, fun x hx => ⟨by rw [hdevice, if_neg hx.symm], ?others⟩⟩
  case image => exact (congrArg Kept.image hsteady).trans (by rw [← hlater.image]; rfl)
  case cold => exact congrArg (fun k => k.ret.cold) hsteady
  case last =>
    rcases hfollows.last d with hnone | ⟨e, he, hed, -⟩
    · rwa [hlast, if_pos rfl] at hnone
    · exact absurd hed (device_ne_of_stateFails hpasses e (hqueue ▸ he))
  case others =>
    have hother := hfollows.last x
    rw [hlast, if_neg hx.symm] at hother
    exact (lastFollows_congr hqueue).mp hother

/-- Settles O33: the checks in their order, and what the reactions leave of the stored record and of the restarted device. -/
theorem setDeviceTakesTheRecord : Obligations.SetDeviceTakesTheRecord := by
  intro m q f s hfree a
  have hlater : LaterOf s a := laterOf_arrive m s
  have hheld (d : Fin 16) : addressHeld a d f.address = addressHeld s d f.address := by
    simp only [addressHeld, hlater.image]
  have hfails (d : Fin 16) (n : Nat) : deviceStateFails a d n = deviceStateFails s d n := by
    simp only [deviceStateFails, deviceOnLine, deviceHasOrder, bayOfDevice, State.bay, State.order, hlater.image, hlater.act, hlater.drn]
  have hrefused {res : Result} (hr : handleSetDevice (.fields f) a = refuse res a) (hok : res ≠ .ok) (hacc : res ≠ .accepted) :
      exec (.setDevice m q (.fields f)) s = .next (answered q 0xC0#8 res .empty a) :=
    hostRequest_refused (r := .setDevice (.fields f)) hfree hr hok hacc
  have haccepted {t : State} (hr : handleSetDevice (.fields f) a = answerOk .empty t) :
      exec (.setDevice m q (.fields f)) s = .next (answered q 0xC0#8 .ok .empty t) :=
    hostRequest_ok (r := .setDevice (.fields f)) hfree hr rfl rfl
  refine ⟨fun hout => hrefused (handleSetDevice_outside hout a) (by decide) (by decide), fun d hd =>
    ⟨fun h0 hfail => ?keptInUse, fun h0 hpass => ?removed, fun h0 hbad => ?outOfRange, fun r h1 hr hfree =>
      ⟨fun hfail => ?inUse, fun hpass => ?stored⟩⟩⟩
  case keptInUse =>
    refine hrefused ((handleSetDevice_removes hd h0 a).trans ?_) (by decide) (by decide)
    rw [hfails, if_pos hfail]
  case removed =>
    have hhandle := handleSetDevice_removes hd h0 a
    rw [hfails, hpass] at hhandle
    exact ⟨_, haccepted hhandle, replies_answered .., applyDevice_takesEffect hlater hpass none q⟩
  case outOfRange =>
    refine hrefused ((handleSetDevice_configures hd h0 a).trans ?_) (by decide) (by decide)
    cases hr : deviceRecord? f with
    | none => rfl
    | some r => exact if_pos (by rw [hheld]; simpa [hr] using hbad)
  all_goals
    have hhandle := handleSetDevice_configures hd (by omega) a
    rw [hr] at hhandle
    simp only [h1, hheld, hfree, hfails, ne_eq, not_true_eq_false, Bool.false_eq_true, or_self, if_false] at hhandle
  case inUse => exact hrefused (hhandle.trans (if_pos hfail)) (by decide) (by decide)
  case stored =>
    rw [hpass] at hhandle
    obtain ⟨himage, hcold, hdevice, hlast, hothers⟩ := applyDevice_takesEffect hlater hpass (some r) q
    have hput : CommandStands (applyDevice d (some r) a) d .reset .sweep := by
      rw [applyDevice_some]
      exact commandStands_putDrive ..
    exact ⟨_, haccepted hhandle, replies_answered .., himage, hcold, hdevice, hlast, hothers, hput.congr (by simp) (by simp)⟩

end Sys2Proof.Machine

/-! PROOF. A reply of a field device is judged, and what an event of its device leaves (R164, R171, R215). -/

namespace Sys2Proof.Machine

/-! ### Frames (R164, R215) -/

/-- The part runs, and at a moment an attempt of a transaction waits for the reply of its device (R164; log entry 51). -/
structure Awaits (m : Moment) (s : State) (t : Transaction) (r : DeviceRec) : Prop where
  running : s.run = .running
  current : s.act.current = some t
  record : s.image.devices.at_ t.device = some r
  address : r.address ≤ 31
  sent : t.sentAt + 3125 ≤ (arrive m s).clock.fast

/-- The covered bytes of a reply to a transaction's frame, with a status and a position. -/
def replyCovered (r : DeviceRec) (t : Transaction) (st po : Byte) : List Byte :=
  [byteOf r.address, byteOf r.kind.code, byteOf t.exchange.code, if t.toggle then 1#8 else 0#8, st, po]

/-- Such a reply comes, with the check over these bytes. -/
def replyOf (m : Moment) (r : DeviceRec) (t : Transaction) (st po : Byte) : Instr :=
  .actuatorReply m (0x3C#8 :: replyCovered r t st po ++ checkBytes (replyCovered r t st po))

theorem judgeReply_wrongCheck {r : DeviceRec} {t : Transaction} {st po c1 c2 : Byte} (h : [c1, c2] ≠ checkBytes (replyCovered r t st po)) :
    judgeReply r.address r.kind t.exchange t.toggle (0x3C#8 :: (replyCovered r t st po ++ [c1, c2])) = none :=
  if_neg fun hvalid => h hvalid.1.symm

theorem judgeReply_valid {r : DeviceRec} (haddr : r.address ≤ 31) (t : Transaction) {st po : Byte} {x : LineStatus} {p : LinePosition}
    (hst : LineStatus.ofCode? st.toNat = some x) (hpo : LinePosition.ofCode? po.toNat = some p) :
    judgeReply r.address r.kind t.exchange t.toggle (0x3C#8 :: replyCovered r t st po ++ checkBytes (replyCovered r t st po))
      = some (x, p) := by
  have haddress : (byteOf r.address).toNat = r.address := by
    rw [byteOf, BitVec.toNat_ofNat]
    omega
  have hkind : (byteOf r.kind.code).toNat = r.kind.code := by cases r.kind <;> rfl
  have hcommand : (byteOf t.exchange.code).toNat = t.exchange.code := by cases t.exchange <;> rfl
  have htoggle : (if t.toggle then 1#8 else 0#8 : Byte).toNat = if t.toggle then 1 else 0 := by cases t.toggle <;> rfl
  refine (if_pos ⟨rfl, haddress, hkind, hcommand, fun _ => htoggle⟩).trans ?_
  rw [hst, hpo]

theorem exec_actuatorReply {m : Moment} {s : State} (hrun : s.run = .running) (bytes : List Byte) :
    exec (.actuatorReply m bytes) s = .next (refreshAlarms (frameArrives bytes (arrive m s))) :=
  whileRunning_running m (frameArrives bytes) s hrun

/-- Without a transaction a frame has no effect. -/
theorem frameArrives_idle {s : State} (h : s.act.current = none) (bytes : List Byte) : frameArrives bytes s = s := by
  simp only [frameArrives, h]

/-- A frame that comes before the request frame has ended has no effect. -/
theorem frameArrives_early {s : State} {t : Transaction} (h : s.act.current = some t) (hearly : s.clock.fast < t.sentAt + 3125)
    (bytes : List Byte) : frameArrives bytes s = s := by
  rw [frameArrives, h]
  cases replyFrame bytes with
  | none => rfl
  | some frame => exact if_pos hearly

/-- Nine bytes from the start byte on are judged (R164). -/
theorem exec_frame {m : Moment} {s : State} {t : Transaction} {r : DeviceRec} (h : Awaits m s t r) {got : List Byte} (hlen : got.length = 8) :
    exec (.actuatorReply m (0x3C#8 :: got)) s = .next (refreshAlarms (judgeFrame t r (0x3C#8 :: got) (arrive m s))) := by
  have hframe : replyFrame (0x3C#8 :: got) = some (0x3C#8 :: got) := by simp [replyFrame, hlen]
  have hact : (arrive m s).act.current = some t := by simp [h.current]
  have hrecord : (arrive m s).image.devices.at_ t.device = some r := by simp [h.record]
  have hwaits : ¬ (arrive m s).clock.fast < waitBegins t := Nat.not_lt.mpr h.sent
  rw [exec_actuatorReply h.running, frameArrives, hact, hframe]
  simp only [if_neg hwaits, hrecord]

/-- A valid reply is taken with its status and its position (R165 to R168). -/
theorem exec_reply {m : Moment} {s : State} {t : Transaction} {r : DeviceRec} (h : Awaits m s t r) {st po : Byte} {x : LineStatus}
    {p : LinePosition} (hst : LineStatus.ofCode? st.toNat = some x) (hpo : LinePosition.ofCode? po.toNat = some p) :
    exec (replyOf m r t st po) s = .next (refreshAlarms (takeReply t x p (arrive m s))) := by
  have hjudged : judgeFrame t r (0x3C#8 :: replyCovered r t st po ++ checkBytes (replyCovered r t st po)) (arrive m s)
      = takeReply t x p (arrive m s) := by
    rw [judgeFrame, judgeReply_valid h.address t hst hpo]
  exact (exec_frame h rfl).trans (congrArg (fun u => Host.Outcome.next (refreshAlarms u)) hjudged)

/-- The position that a byte up to 2 names (R215). -/
def positionOf (po : Byte) : LinePosition := if po = 0#8 then .closed else if po = 1#8 then .opened else .moving

theorem positionOf_ne_fault (po : Byte) : positionOf po ≠ .fault := by
  unfold positionOf
  repeat' split
  all_goals decide

theorem ofCode?_positionOf {po : Byte} (h : po.toNat ≤ 2) : LinePosition.ofCode? po.toNat = some (positionOf po) := by
  have hcases : po = 0#8 ∨ po = 1#8 ∨ po = 2#8 := by bv_omega
  rcases hcases with rfl | rfl | rfl <;> rfl

theorem ofCode?_position_of_le {po : Byte} (h : po.toNat ≤ 3) : ∃ p, LinePosition.ofCode? po.toNat = some p := by
  rcases Nat.lt_or_ge po.toNat 3 with hlt | hge
  · exact ⟨_, ofCode?_positionOf (by omega)⟩
  · exact ⟨.fault, by rw [show po.toNat = 3 by omega]; rfl⟩

/-! ### What an event leaves (R171) -/

@[simp] theorem setDevice_setDevice (d : Fin 16) (v w : DeviceVol) (s : State) : (s.setDevice d v).setDevice d w = s.setDevice d w := by
  simp [State.setDevice, State.withAct]

theorem device_setDevice_self (d : Fin 16) (v : DeviceVol) (s : State) : (s.setDevice d v).device d = v := by
  rw [State.device_setDevice, if_pos rfl]

theorem enterState_setDevice (d : Fin 16) (st : DeviceState) (v : DeviceVol) (s : State) :
    enterState d st (s.setDevice d v) = s.setDevice d (v.enter st s.now s.image.actuator.poll) := by
  rw [enterState, device_setDevice_self, setDevice_setDevice]
  rfl

theorem setNaks_later {s a : State} (h : LaterOf s a) (d : Fin 16) (n : Nat) :
    setNaks d n a = a.setDevice d { s.device d with naks := n } := by
  rw [setNaks, State.device, h.act]
  rfl

/-- An event at the moment `a` after `s` has left `x`: a device as given, with its last outcome, and nothing else of the devices, the records,
the retained contents and the levels. -/
structure EventLeaves (s a x : State) (d : Fin 16) (v : DeviceVol) (given : Option LastOutcome) : Prop where
  device : x.device d = v
  others : ∀ y, y ≠ d → x.device y = s.device y ∧ LastFollows s x y (s.last y)
  image : x.image = s.image
  ret : x.ret = a.ret
  lvl : x.lvl = s.lvl
  last : LastFollows s x d given

/-- The steps of R171 leave the device as its event has set it, and what they record as its last outcome. -/
theorem eventLeaves {s a x : State} {d : Fin 16} {old : DeviceState} {watch entry : Option EntryEnd} {c : LineCommand} {v : DeviceVol}
    (hlater : LaterOf s a) (hsteady : steady x = steady (concludeEvent d old watch entry c (a.setDevice d v)))
    (hfollows : Follows (concludeEvent d old watch entry c (a.setDevice d v)) x) :
    EventLeaves s a (refreshAlarms x) d v (recorded entry watch a.now (s.last d)) := by
  have hkeeps : steady x = steady (a.setDevice d v) := hsteady.trans (steady_concludeEvent ..)
  have hdevice (y : Fin 16) : (refreshAlarms x).device y = if d = y then v else s.device y := by
    have hdevices : (refreshAlarms x).act.devices = a.act.devices.put d v := congrArg Kept.devices hkeeps
    rw [State.device, hdevices, Tab.at_put, hlater.act, State.device]
  have hqueue : (a.setDevice d v).act.queue = s.act.queue := (rfl : _ = a.act.queue).trans (congrArg Actuator.queue hlater.act)
  have hlast (y : Fin 16) : (a.setDevice d v).last y = s.last y := (rfl : _ = a.last y).trans (congrArg (·.lasts.at_ y) hlater.act)
  obtain ⟨hothers, hself⟩ := lastFollows_concludeEvent (follows_refreshAlarms hfollows)
  rw [hlast] at hself
  exact {
    device := by rw [hdevice, if_pos rfl]
    others := fun y hy => ⟨by rw [hdevice, if_neg hy.symm], (lastFollows_congr hqueue).mp (hlast y ▸ hothers y hy)⟩
    image := (congrArg Kept.image hkeeps).trans hlater.image
    ret := congrArg Kept.ret hkeeps
    lvl := (congrArg Kept.lvl hkeeps).trans hlater.lvl
    last := (lastFollows_congr hqueue).mp hself }

/-- An event that ends its transaction; the line takes its next entry after it (log entry 48). -/
theorem eventLeaves_lineIdle {s a : State} (hlater : LaterOf s a) (d : Fin 16) (old : DeviceState) (watch entry : Option EntryEnd)
    (c : LineCommand) (v : DeviceVol) :
    EventLeaves s a (refreshAlarms (lineIdle (concludeEvent d old watch entry c (a.setDevice d v)))) d v
      (recorded entry watch a.now (s.last d)) :=
  eventLeaves hlater (steady_of_kept (kept_lineIdle _)) (follows_lineIdle (.refl _))

/-! ### The ends that are told -/

/-- The end of the watch of a device, where it has one. -/
def watchTold (v : DeviceVol) (oc : LineOutcome) : Option EntryEnd :=
  v.watch.map fun w => { command := w.command, orig := w.orig, outcome := oc }

/-- The end of the drive entry of a transaction. -/
def entryTold (t : Transaction) (oc : LineOutcome) : Option EntryEnd :=
  if t.command = .query then none else some { command := t.command, orig := t.orig, outcome := oc }

theorem watchEnd_setDevice (s : State) (d : Fin 16) (v : DeviceVol) (oc : LineOutcome) : watchEnd (s.setDevice d v) d oc = watchTold v oc := by
  rw [watchEnd, device_setDevice_self, watchTold]

theorem entryEnd_eq (t : Transaction) (oc : LineOutcome) : entryEnd t oc = entryTold t oc := by
  cases hc : t.command <;> simp [entryEnd, entryTold, hc, LineCommand.isDrive]

end Sys2Proof.Machine

/-! PROOF. The replies that take a device out of service or return its entry (R157, R162, R164 to R166). -/

namespace Sys2Proof.Machine

/-! ### Out of service (R157, R164 to R166) -/

/-- The transaction ends with its device out of service: its watch and a drive entry are told so (R171). -/
theorem endInFault_setDevice (t : Transaction) (st : DeviceState) (oc : LineOutcome) (v : DeviceVol) (s : State) :
    endInFault t st oc (s.setDevice t.device v) = lineIdle (concludeEvent t.device v.state (watchTold v oc) (entryTold t oc) t.command
      (enterState t.device st (s.setDevice t.device v))) := by
  rw [endInFault, watchEnd_setDevice, device_setDevice_self, entryEnd_eq]

/-- A device that enters another state than MOVING has no watch and no deadline (R170). -/
theorem DeviceVol.enter_not_moving {st : DeviceState} (h : st ≠ .moving) (v : DeviceVol) (now poll : Nat) :
    (v.enter st now poll).watch = none ∧ (v.enter st now poll).deadline = none := by
  simp [DeviceVol.enter, h]

/-- Every reply but a NAK sets the NAK count to 0, and a NAK at the limit does so too (R165): the device leaves service with it. -/
theorem endInFault_leaves {s a : State} (hlater : LaterOf s a) (t : Transaction) (st : DeviceState) (oc : LineOutcome) :
    let v := s.device t.device
    let x := refreshAlarms (endInFault t st oc (setNaks t.device 0 a))
    EventLeaves s a x t.device ({ v with naks := 0 }.enter st a.now a.image.actuator.poll)
        (recorded (entryTold t oc) (watchTold v oc) a.now (s.last t.device))
      ∧ x = refreshAlarms (lineIdle (concludeEvent t.device v.state (watchTold v oc) (entryTold t oc) t.command
        (enterState t.device st (a.setDevice t.device { v with naks := 0 })))) := by
  intro v x
  have hx : x = refreshAlarms (lineIdle (concludeEvent t.device v.state (watchTold v oc) (entryTold t oc) t.command
      (enterState t.device st (a.setDevice t.device { v with naks := 0 })))) :=
    congrArg refreshAlarms ((congrArg (endInFault t st oc) (setNaks_later hlater t.device 0)).trans (endInFault_setDevice ..))
  refine ⟨?_, hx⟩
  rw [hx, enterState_setDevice]
  exact eventLeaves_lineIdle hlater ..

/-- A NAK that reaches the limit, or a lowered one, takes the device out of service (R165; log entry 62). -/
theorem takeNak_limit {s a : State} (hlater : LaterOf s a) {t : Transaction} (h : s.image.actuator.nakLimit ≤ (s.device t.device).naks + 1) :
    takeNak t a = endInFault t (.faulted .busy) .faulted (setNaks t.device 0 a) := by
  have hdevice : a.device t.device = s.device t.device := congrArg (·.devices.at_ t.device) hlater.act
  rw [takeNak, hdevice, hlater.image]
  exact if_neg (Nat.not_lt.mpr h)

/-! ### An entry returns (R162, R165) -/

/-- The entry of a transaction as it returns to the queue at a moment, with a not-before time. -/
def returned (t : Transaction) (s a : State) : LineEntry :=
  { device := t.device, command := t.command, orig := t.orig
    notBefore := some (a.clock.fast + s.image.actuator.nakBackoff * 1000) }

/-- The state with a NAK counted, before the entry returns. -/
def nakCounted (t : Transaction) (s a : State) : State :=
  a.setDevice t.device { s.device t.device with naks := (s.device t.device).naks + 1 }

theorem nakCounted_line {s a : State} (hlater : LaterOf s a) (t : Transaction) :
    (nakCounted t s a).act.queue = s.act.queue ∧ (nakCounted t s a).act.lasts = s.act.lasts := by
  rw [← hlater.act]
  exact ⟨rfl, rfl⟩

/-- A NAK below the limit is counted, and the entry returns. -/
theorem takeNak_below {s a : State} (hlater : LaterOf s a) {t : Transaction} (h : (s.device t.device).naks + 1 < s.image.actuator.nakLimit) :
    takeNak t a = lineIdle (returnEntry t.device t.command t.orig (a.clock.fast + s.image.actuator.nakBackoff * 1000) (nakCounted t s a)) := by
  have hdevice : a.device t.device = s.device t.device := congrArg (·.devices.at_ t.device) hlater.act
  rw [takeNak, hdevice, hlater.image, setNaks_later hlater]
  exact if_pos h

theorem devices_takeNak_below {s a : State} (hlater : LaterOf s a) {t : Transaction}
    (h : (s.device t.device).naks + 1 < s.image.actuator.nakLimit) : (takeNak t a).act.devices
      = s.act.devices.put t.device { s.device t.device with naks := (s.device t.device).naks + 1 } := by
  rw [takeNak_below hlater h, devices_of_kept (kept_lineIdle _), devices_of_kept (kept_returnEntry ..), ← hlater.act]
  rfl

theorem returnEntry_joins {d : Fin 16} {c : LineCommand} {s : State} (hdrive : c ≠ .query → waitingDrive s d = none)
    (hquery : c = .query → waitingQuery s d = none) (orig : Originator) (n : Nat) : returnEntry d c orig n s
      = s.withAct { s.act with queue := joinLine { device := d, command := c, orig := orig, notBefore := some n } s.act.queue } := by
  by_cases hc : c = .query
  · simp [returnEntry, isDrive_eq, hc, hquery hc]
  · simp [returnEntry, isDrive_eq, hc, hdrive hc]

theorem returnEntry_superseded {d : Fin 16} {c : LineCommand} {s : State} (hc : c ≠ .query) (h : (waitingDrive s d).isSome = true)
    (orig : Originator) (n : Nat) :
    returnEntry d c orig n s = supersede { device := d, command := c, orig := orig, notBefore := some n } s := by
  obtain ⟨w, hw⟩ := Option.isSome_iff_exists.mp h
  simp [returnEntry, isDrive_eq, hc, hw]

theorem returnEntry_dropped {d : Fin 16} {s : State} (h : (waitingQuery s d).isSome = true) (orig : Originator) (n : Nat) :
    returnEntry d .query orig n s = s := by
  obtain ⟨w, hw⟩ := Option.isSome_iff_exists.mp h
  simp [returnEntry, LineCommand.isDrive, hw]

/-- An entry that waits when the line becomes idle waits on, or the line takes it. -/
theorem mem_lineIdle {s : State} {e : LineEntry} (h : e ∈ s.act.queue) : e ∈ (lineIdle s).act.queue
    ∨ ∃ c, (lineIdle s).act.current = some c ∧ c.device = e.device ∧ c.command = e.command := by
  unfold lineIdle lineTake
  split
  · rename_i x _ _
    by_cases hx : e = x
    · exact .inr ⟨_, rfl, by rw [hx]; rfl, by rw [hx]; rfl⟩
    · exact .inl ((List.mem_erase_of_ne hx).mpr h)
  · exact .inl h

theorem lasts_lineIdle (s : State) : (lineIdle s).act.lasts = s.act.lasts := by
  unfold lineIdle lineTake
  split <;> rfl

/-- The entry of a NAK below the limit waits again, behind no newer one of its device (R165). -/
theorem nak_returns {s a : State} (hlater : LaterOf s a) {t : Transaction} (hbelow : (s.device t.device).naks + 1 < s.image.actuator.nakLimit)
    (hdrive : t.command ≠ .query → waitingDrive s t.device = none) (hquery : t.command = .query → waitingQuery s t.device = none) :
    (takeNak t a).act.lasts = s.act.lasts ∧ (returned t s a ∈ (takeNak t a).act.queue
      ∨ ∃ c, (takeNak t a).act.current = some c ∧ c.device = t.device ∧ c.command = t.command) := by
  obtain ⟨hqueue, hlasts⟩ := nakCounted_line hlater t
  have hjoins := returnEntry_joins (s := nakCounted t s a) (d := t.device) (c := t.command) (by rwa [waitingDrive, hqueue])
    (by rwa [waitingQuery, hqueue]) t.orig (a.clock.fast + s.image.actuator.nakBackoff * 1000)
  rw [takeNak_below hlater hbelow, hjoins]
  exact ⟨(lasts_lineIdle _).trans hlasts, mem_lineIdle (e := returned t s a) (mem_joinLine_iff.mpr (.inl rfl))⟩

/-- A drive entry that returns behind a newer one is superseded, which is its device's last outcome (R162; log entry 23). -/
theorem nak_superseded {s a : State} (hlater : LaterOf s a) {t : Transaction}
    (hbelow : (s.device t.device).naks + 1 < s.image.actuator.nakLimit) (hc : t.command ≠ .query)
    (hnewer : (waitingDrive s t.device).isSome = true) : (takeNak t a).act.lasts
      = s.act.lasts.put t.device (some { command := t.command, orig := t.orig, outcome := .superseded, time := a.now }) := by
  obtain ⟨hqueue, hlasts⟩ := nakCounted_line hlater t
  have hsuperseded := returnEntry_superseded (s := nakCounted t s a) (d := t.device) hc (by rwa [waitingDrive, hqueue]) t.orig
    (a.clock.fast + s.image.actuator.nakBackoff * 1000)
  rw [takeNak_below hlater hbelow, hsuperseded, lasts_lineIdle, act_supersede_eq, ← hlasts]
  rfl

/-- A query that returns behind a waiting one is dropped (R162). -/
theorem nak_dropped {s a : State} (hlater : LaterOf s a) {t : Transaction} (hbelow : (s.device t.device).naks + 1 < s.image.actuator.nakLimit)
    (hc : t.command = .query) (hwaits : (waitingQuery s t.device).isSome = true) :
    takeNak t a = lineIdle (nakCounted t s a) := by
  have hwaiting : (waitingQuery (nakCounted t s a) t.device).isSome = true := by
    rwa [waitingQuery, (nakCounted_line hlater t).1]
  rw [takeNak_below hlater hbelow, hc, returnEntry_dropped hwaiting]

end Sys2Proof.Machine

/-! PROOF. The replies that acknowledge a command (R158, R159, R167, R168). -/

namespace Sys2Proof.Machine

/-! ### Drive commands (R158, R167) -/

/-- A device whose drive command has been acknowledged in an exchange, before it takes its state (R158, R167). -/
def driveAcknowledged (exchange : LineCommand) (v : DeviceVol) : DeviceVol :=
  { v with
    naks := 0, watch := none, inStep := if exchange = .reset then true else v.inStep
    toggle := if exchange = .reset then true else if exchange = .query then v.toggle else !v.toggle }

theorem acknowledged_eq (exchange : LineCommand) (v : DeviceVol) :
    { DeviceVol.acknowledged exchange { v with naks := 0 } with watch := none } = driveAcknowledged exchange v := by
  cases exchange <;> rfl

theorem target_eq (c : LineCommand) : c.target = if c = .engage then .opened else .closed := by
  cases c <;> rfl

theorem target_state_eq (c : LineCommand) : c.target.state = if c = .engage then .opened else .closed := by
  cases c <;> rfl

theorem movementLimit_eq {s : State} {d : Fin 16} {r : DeviceRec} (h : s.image.devices.at_ d = some r) : movementLimit s d = r.limit := by
  rw [movementLimit, h]

/-- The movement of an acknowledged drive command is at its end on an ACK_ONLY device, or where the position is that of the target (R167). -/
theorem atTarget_iff {s : State} {d : Fin 16} {r : DeviceRec} (h : s.image.devices.at_ d = some r) (c : LineCommand) (po : Byte) :
    atTarget s d c.target (positionOf po) = true ↔ r.completion = .ackOnly ∨ po = if c = .engage then 1#8 else 0#8 := by
  have hopened : positionOf po = .opened ↔ po = 1#8 := by
    unfold positionOf
    split
    · simp_all
    · split <;> simp_all
  have hclosed : positionOf po = .closed ↔ po = 0#8 := by
    unfold positionOf
    split
    · simp_all
    · split <;> simp_all
  unfold atTarget
  rw [h, Bool.or_eq_true, beq_iff_eq, target_eq]
  refine or_congr_right ?_
  by_cases hc : c = .engage
  · rw [if_pos hc, if_pos hc, ← hopened]
    cases positionOf po <;> simp
  · rw [if_neg hc, if_neg hc, ← hclosed]
    cases positionOf po <;> simp

theorem takeAck_drive {t : Transaction} (hc : t.command ≠ .query) (he : t.command = .engage → t.exchange = .engage) (p : LinePosition)
    (s : State) : takeAck t p s = ackDrive t p s := by
  unfold takeAck
  split
  · exact absurd ‹_› hc
  · rename_i hengage hreset
    exact absurd ((he hengage).symm.trans hreset) (by decide)
  · rfl

theorem ackDrive_atTarget {s : State} {t : Transaction} {p : LinePosition} (hat : atTarget s t.device t.command.target p = true)
    (v : DeviceVol) : ackDrive t p (s.setDevice t.device v)
      = lineIdle (concludeEvent t.device v.state (watchTold v .superseded) (entryTold t .done) t.command
        (enterState t.device t.command.target.state (s.setDevice t.device { v.acknowledged t.exchange with watch := none }))) := by
  simp only [ackDrive, watchEnd_setDevice, device_setDevice_self, setDevice_setDevice, entryEnd_eq]
  exact if_pos hat

theorem ackDrive_elsewhere {s : State} {t : Transaction} {p : LinePosition} {r : DeviceRec} (hrecord : s.image.devices.at_ t.device = some r)
    (hat : atTarget s t.device t.command.target p = false) (v : DeviceVol) :
    let moving : State := enterState t.device .moving (s.setDevice t.device { v.acknowledged t.exchange with watch := none })
    ackDrive t p (s.setDevice t.device v) = lineIdle (concludeEvent t.device v.state (watchTold v .superseded) none t.command
      (moving.setDevice t.device { moving.device t.device with
        deadline := some { due := s.now + r.limit, command := t.command }
        watch := some { target := t.command.target, orig := t.orig, command := t.command } })) := by
  intro moving
  have hlimit : movementLimit moving t.device = r.limit := movementLimit_eq hrecord
  simp only [ackDrive, watchEnd_setDevice, device_setDevice_self, setDevice_setDevice, ← hlimit]
  exact if_neg (ne_true_of_eq_false hat)

/-- A drive command that is acknowledged at its end: it is DONE, and an older watch ends SUPERSEDED (R167). -/
theorem ackDrive_done {s a : State} (hlater : LaterOf s a) {t : Transaction} {p : LinePosition}
    (hat : atTarget a t.device t.command.target p = true) :
    let v := s.device t.device
    let x := refreshAlarms (ackDrive t p (setNaks t.device 0 a))
    EventLeaves s a x t.device ((driveAcknowledged t.exchange v).enter t.command.target.state a.now a.image.actuator.poll)
        (recorded (entryTold t .done) (watchTold v .superseded) a.now (s.last t.device))
      ∧ x = refreshAlarms (lineIdle (concludeEvent t.device v.state (watchTold v .superseded) (entryTold t .done) t.command
        (enterState t.device t.command.target.state (a.setDevice t.device (driveAcknowledged t.exchange v))))) := by
  intro v x
  have hx : x = refreshAlarms (lineIdle (concludeEvent t.device v.state (watchTold v .superseded) (entryTold t .done) t.command
      (enterState t.device t.command.target.state (a.setDevice t.device (driveAcknowledged t.exchange v))))) := by
    refine congrArg refreshAlarms ?_
    rw [setNaks_later hlater, ackDrive_atTarget hat, acknowledged_eq]
    rfl
  refine ⟨?_, hx⟩
  rw [hx, enterState_setDevice]
  exact eventLeaves_lineIdle hlater ..

/-- A drive command that is acknowledged before its end begins a watch and a movement deadline (R167). -/
theorem ackDrive_moves {s a : State} (hlater : LaterOf s a) {t : Transaction} {p : LinePosition} {r : DeviceRec}
    (hrecord : a.image.devices.at_ t.device = some r) (hat : atTarget a t.device t.command.target p = false) :
    let v := s.device t.device
    let moving : State := enterState t.device .moving (a.setDevice t.device (driveAcknowledged t.exchange v))
    let watched (w : DeviceVol) : DeviceVol := { w with
      deadline := some { due := a.now + r.limit, command := t.command }
      watch := some { target := if t.command = .engage then .opened else .closed, orig := t.orig, command := t.command } }
    let x := refreshAlarms (ackDrive t p (setNaks t.device 0 a))
    EventLeaves s a x t.device (watched ((driveAcknowledged t.exchange v).enter .moving a.now a.image.actuator.poll))
        (recorded none (watchTold v .superseded) a.now (s.last t.device))
      ∧ x = refreshAlarms (lineIdle (concludeEvent t.device v.state (watchTold v .superseded) none t.command
        (moving.setDevice t.device (watched (moving.device t.device))))) := by
  intro v moving watched x
  have hx : x = refreshAlarms (lineIdle (concludeEvent t.device v.state (watchTold v .superseded) none t.command
      (moving.setDevice t.device (watched (moving.device t.device))))) := by
    refine congrArg refreshAlarms ?_
    rw [setNaks_later hlater, ackDrive_elsewhere hrecord hat, acknowledged_eq]
    simp only [watched, ← target_eq]
    rfl
  refine ⟨?_, hx⟩
  rw [hx]
  simp only [moving, enterState_setDevice, device_setDevice_self, setDevice_setDevice]
  exact eventLeaves_lineIdle hlater ..

/-! ### Positions (R168) -/

/-- A device without a watch that has taken a position, which a command reports at a second (R168). -/
def DeviceVol.takes (v : DeviceVol) (c : LineCommand) (p : LinePosition) (now poll limit : Nat) : DeviceVol :=
  match positionState v.state p with
  | some .moving => { v.enter .moving now poll with deadline := some { due := now + limit, command := c }, watch := none }
  | some st => v.enter st now poll
  | none => v

theorem takePosition_setDevice {s : State} {d : Fin 16} {r : DeviceRec} (hrecord : s.image.devices.at_ d = some r) (c : LineCommand)
    (p : LinePosition) (v : DeviceVol) :
    takePosition d c p (s.setDevice d v) = s.setDevice d (v.takes c p s.now s.image.actuator.poll r.limit) := by
  have hlimit (w : DeviceVol) : movementLimit (s.setDevice d w) d = r.limit := movementLimit_eq hrecord
  rw [takePosition, device_setDevice_self, DeviceVol.takes]
  cases positionState v.state p with
  | none => rfl
  | some st =>
    cases st with
    | moving =>
      simp only [enterState_setDevice, device_setDevice_self, setDevice_setDevice, hlimit]
      rfl
    | _ => exact enterState_setDevice ..

/-- What taking a position leaves: the toggle, the step and the count, and no watch. -/
theorem DeviceVol.takes_leaves (v : DeviceVol) (c : LineCommand) (p : LinePosition) (now poll limit : Nat) :
    (v.takes c p now poll limit).toggle = v.toggle ∧ (v.takes c p now poll limit).inStep = v.inStep
      ∧ (v.takes c p now poll limit).naks = v.naks ∧ (v.watch = none → (v.takes c p now poll limit).watch = none) := by
  unfold DeviceVol.takes
  split
  · exact ⟨rfl, rfl, rfl, fun _ => rfl⟩
  · refine ⟨rfl, rfl, rfl, fun hwatch => ?_⟩
    simp [DeviceVol.enter, hwatch]
  · exact ⟨rfl, rfl, rfl, id⟩

/-- The state of a device that reports MOVING, and its deadline where it was not MOVING. -/
theorem DeviceVol.takes_moving (v : DeviceVol) (c : LineCommand) (now poll limit : Nat) :
    (v.takes c .moving now poll limit).state = .moving
      ∧ (v.state ≠ .moving → (v.takes c .moving now poll limit).deadline = some { due := now + limit, command := c }) := by
  by_cases h : v.state = .moving
  · exact ⟨by simp [DeviceVol.takes, positionState, h], fun hne => absurd h hne⟩
  · exact ⟨by simp [DeviceVol.takes, positionState, h, DeviceVol.enter], fun _ => by simp [DeviceVol.takes, positionState, h]⟩

/-! ### The RESET that opens an ENGAGE (R159) -/

/-- The acknowledged RESET that opens an ENGAGE: the device takes its position, an older watch ends SUPERSEDED, and the ENGAGE is sent
(log entries 25, 68). -/
theorem ackOpening_leaves {s a : State} (hlater : LaterOf s a) {t : Transaction} {r : DeviceRec}
    (hrecord : a.image.devices.at_ t.device = some r) (hc : t.command = .engage) (p : LinePosition) :
    let v := s.device t.device
    let opened : DeviceVol := { v with naks := 0, watch := none, toggle := true, inStep := true }
    let u := concludeEvent t.device v.state (watchTold v .superseded) none t.command
      (takePosition t.device .engage p (a.setDevice t.device opened))
    let x := refreshAlarms (ackOpening t p (setNaks t.device 0 a))
    EventLeaves s a x t.device (opened.takes .engage p a.now a.image.actuator.poll r.limit)
        (recorded none (watchTold v .superseded) a.now (s.last t.device))
      ∧ x = refreshAlarms (u.withAct { u.act with current := some (sendFrame u t.device .engage t.orig .engage) })
      ∧ (sendFrame u t.device .engage t.orig .engage).toggle = true
      ∧ (sendFrame u t.device .engage t.orig .engage).sentAt = a.clock.fast := by
  intro v opened u x
  have hx : x = refreshAlarms (u.withAct { u.act with current := some (sendFrame u t.device .engage t.orig .engage) }) := by
    refine congrArg refreshAlarms ?_
    rw [setNaks_later hlater, ackOpening]
    simp only [watchEnd_setDevice, device_setDevice_self, setDevice_setDevice, hc, DeviceVol.acknowledged]
    simp only [u, hc]
    rfl
  have hevent : u = concludeEvent t.device v.state (watchTold v .superseded) none t.command
      (a.setDevice t.device (opened.takes .engage p a.now a.image.actuator.poll r.limit)) := by
    simp only [u, takePosition_setDevice hrecord]
  have hsteady : steady u = steady (a.setDevice t.device (opened.takes .engage p a.now a.image.actuator.poll r.limit)) := by
    rw [hevent, steady_concludeEvent]
  have hdevice : u.device t.device = opened.takes .engage p a.now a.image.actuator.poll r.limit := by
    have hdevices : u.act.devices = a.act.devices.put t.device (opened.takes .engage p a.now a.image.actuator.poll r.limit) :=
      congrArg Kept.devices hsteady
    rw [State.device, hdevices, Tab.at_put, if_pos rfl]
  refine ⟨?_, hx, ?_, ?_⟩
  · rw [hx]
    refine eventLeaves hlater (old := v.state) (c := t.command) ?_ ?_
    · rw [← hevent]
      rfl
    · rw [← hevent]
      exact (Follows.refl u).queued rfl rfl fun _ he _ => he
  · exact (congrArg DeviceVol.toggle hdevice).trans (DeviceVol.takes_leaves ..).1
  · exact congrArg (fun k => k.clock.fast) hsteady

/-! ### Queries (R168) -/

/-- A query of a device without a watch: the device takes its position. -/
theorem ackQuery_unwatched {s a : State} (hlater : LaterOf s a) {t : Transaction} {r : DeviceRec}
    (hrecord : a.image.devices.at_ t.device = some r) (hwatch : (s.device t.device).watch = none) (p : LinePosition) :
    let v := s.device t.device
    let x := refreshAlarms (ackQuery t p (setNaks t.device 0 a))
    x = refreshAlarms (lineIdle (concludeEvent t.device v.state none none .query
        (takePosition t.device .query p (a.setDevice t.device { v with naks := 0 }))))
      ∧ x.device t.device = { v with naks := 0 }.takes .query p a.now a.image.actuator.poll r.limit := by
  intro v x
  have hx : x = refreshAlarms (lineIdle (concludeEvent t.device v.state none none .query
      (takePosition t.device .query p (a.setDevice t.device { v with naks := 0 })))) := by
    refine congrArg refreshAlarms ?_
    rw [setNaks_later hlater, ackQuery]
    simp only [device_setDevice_self, hwatch, v]
  refine ⟨hx, ?_⟩
  rw [hx, takePosition_setDevice hrecord]
  exact (eventLeaves_lineIdle hlater ..).device

/-- A position is the target of a watch. -/
theorem isTarget_iff (w : Watch) (po : Byte) : isTarget w (positionOf po) = true ↔ po = if w.target = .opened then 1#8 else 0#8 := by
  unfold isTarget positionOf
  cases w.target <;> by_cases h0 : po = 0#8 <;> by_cases h1 : po = 1#8 <;> simp_all

/-- A query that finds a watched device elsewhere changes nothing but the NAK count. -/
theorem ackQuery_elsewhere {s a : State} (hlater : LaterOf s a) {t : Transaction} {w : Watch} (hwatch : (s.device t.device).watch = some w)
    {p : LinePosition} (h : isTarget w p = false) :
    ackQuery t p (setNaks t.device 0 a) = lineIdle (a.setDevice t.device { s.device t.device with naks := 0 }) := by
  rw [setNaks_later hlater, ackQuery]
  simp only [device_setDevice_self, hwatch, h, Bool.false_eq_true, if_false]

theorem ackQuery_atTarget {s : State} {t : Transaction} {v : DeviceVol} {w : Watch} (hwatch : v.watch = some w) {p : LinePosition}
    (h : isTarget w p = true) : ackQuery t p (s.setDevice t.device v) = lineIdle (concludeEvent t.device v.state (watchTold v .done) none .query
      (enterState t.device w.target.state (s.setDevice t.device v))) := by
  simp only [ackQuery, watchEnd_setDevice, device_setDevice_self, hwatch, h, if_true]

/-- A query that finds a watched device at its target ends the watch DONE. -/
theorem ackQuery_reached {s a : State} (hlater : LaterOf s a) {t : Transaction} {w : Watch} (hwatch : (s.device t.device).watch = some w)
    {p : LinePosition} (h : isTarget w p = true) :
    let v := s.device t.device
    let x := refreshAlarms (ackQuery t p (setNaks t.device 0 a))
    EventLeaves s a x t.device ({ v with naks := 0 }.enter w.target.state a.now a.image.actuator.poll)
        (recorded none (watchTold v .done) a.now (s.last t.device))
      ∧ x = refreshAlarms (lineIdle (concludeEvent t.device v.state (watchTold v .done) none .query
        (enterState t.device w.target.state (a.setDevice t.device { v with naks := 0 })))) := by
  intro v x
  have hx : x = refreshAlarms (lineIdle (concludeEvent t.device v.state (watchTold v .done) none .query
      (enterState t.device w.target.state (a.setDevice t.device { v with naks := 0 })))) := by
    refine congrArg refreshAlarms ?_
    rw [setNaks_later hlater]
    exact ackQuery_atTarget (v := { v with naks := 0 }) hwatch h
  refine ⟨?_, hx⟩
  rw [hx, enterState_setDevice]
  exact eventLeaves_lineIdle hlater ..

end Sys2Proof.Machine

/-! PROOF. Replies of the field devices take effect (R158, R159, R162, R164 to R168, R171). -/

namespace Sys2Proof.Machine

/-! ### Attempts that fail (R158, R164) -/

theorem setDevice_same (d : Fin 16) (s : State) : s.setDevice d (s.device d) = s := by
  simp [State.setDevice, State.device, State.withAct]

/-- A drive command whose attempts have failed leaves its device out of step (R158). -/
theorem stepLost_later {s a : State} (hlater : LaterOf s a) (t : Transaction) : stepLost t a = a.setDevice t.device
    { s.device t.device with inStep := if t.command = .query then (s.device t.device).inStep else false } := by
  have hdevice : a.device t.device = s.device t.device := congrArg (·.devices.at_ t.device) hlater.act
  rw [stepLost, hdevice]
  by_cases hc : t.command = .query
  · simp only [if_pos hc]
    rw [← hdevice, setDevice_same]
  · simp only [if_neg hc]

/-- A bad reply to the last attempt: the device is LOST, and its watch and a drive entry are told so (R164). -/
theorem badReply_exhausted {s a : State} (hlater : LaterOf s a) {t : Transaction} (h : t.retries ≤ t.resends) :
    let v := s.device t.device
    let x := refreshAlarms (attemptFailed t .badReply a)
    EventLeaves s a x t.device
        ({ v with inStep := if t.command = LineCommand.query then v.inStep else false }.enter (.lost .badReply) a.now a.image.actuator.poll)
        (recorded (entryTold t .lost) (watchTold v .lost) a.now (s.last t.device))
      ∧ x = refreshAlarms (lineIdle (concludeEvent t.device v.state (watchTold v .lost) (entryTold t .lost) t.command
        (enterState t.device (.lost .badReply) (if t.command ≠ .query then a.setDevice t.device { v with inStep := false } else a)))) := by
  intro v x
  have hdevice : a.device t.device = v := congrArg (·.devices.at_ t.device) hlater.act
  have hx : x = refreshAlarms (lineIdle (concludeEvent t.device v.state (watchTold v .lost) (entryTold t .lost) t.command
      (enterState t.device (.lost .badReply) (stepLost t a)))) := by
    refine congrArg refreshAlarms ((attemptFailed_exhausted h .badReply).trans ?_)
    rw [hdevice]
    rfl
  constructor
  · rw [hx, stepLost_later hlater, enterState_setDevice]
    exact eventLeaves_lineIdle hlater ..
  · rw [hx, stepLost, ite_not, hdevice]

/-- Settles O58: a lemma for each kind of reply says what its event leaves; here the statement's words are matched with them. -/
theorem actuatorRepliesTakeEffect : Obligations.ActuatorRepliesTakeEffect := by
  intro m s hrun a
  have hlater : LaterOf s a := laterOf_arrive m s
  refine ⟨fun hidle bytes => ?idle, fun t ht hearly bytes => ?early, fun t r ht hrecord haddr hsent => ?awaits⟩
  case idle => rw [exec_actuatorReply hrun, frameArrives_idle (by rwa [hlater.act])]
  case early => rw [exec_actuatorReply hrun, frameArrives_early (by rwa [hlater.act]) hearly]
  intro d v drive ofWatch ofEntry othersStay watchTold' entryTold' concluded answering position covered reply outOfService
  have hawaits : Awaits m s t r := ⟨hrun, ht, hrecord, haddr, hsent⟩
  have harecord : a.image.devices.at_ t.device = some r := by rw [hlater.image, hrecord]
  have hwatched (oc : LineOutcome) : recorded none (watchTold v oc) a.now (s.last d) = ofWatch oc := by
    simp only [watchTold, ofWatch]
    cases v.watch <;> rfl
  have hdrive (hc : drive) (oc : LineOutcome) (watch : Option EntryEnd) : recorded (entryTold t oc) watch a.now (s.last d) = ofEntry oc := by
    simp only [entryTold, ofEntry, if_neg hc, recorded]
  have hentry (oc : LineOutcome) : recorded (entryTold t oc) (watchTold v oc) a.now (s.last d) = ofEntry oc := by
    by_cases hc : t.command = .query
    · simp only [entryTold, ofEntry, if_pos hc, hwatched]
    · exact hdrive hc oc _
  have hposition {po : Byte} (hpo : po.toNat ≤ 2) : LinePosition.ofCode? po.toNat = some (position po) := ofCode?_positionOf hpo
  have hack {po : Byte} (hpo : po.toNat ≤ 2) :
      exec (reply 0#8 po) s = .next (refreshAlarms (takeAck t (positionOf po) (setNaks t.device 0 a))) := by
    refine (exec_reply hawaits (x := .ack) rfl (hposition hpo)).trans ?_
    exact congrArg (fun u => Host.Outcome.next (refreshAlarms u)) (if_neg (positionOf_ne_fault po))
  have hnak {po : Byte} (hpo : po.toNat ≤ 2) : exec (reply 1#8 po) s = .next (refreshAlarms (takeNak t a)) := by
    refine (exec_reply hawaits (x := .nak) rfl (hposition hpo)).trans ?_
    exact congrArg (fun u => Host.Outcome.next (refreshAlarms u)) (if_neg (positionOf_ne_fault po))
  have hleaves {c : Instr} {st : DeviceState} {oc : LineOutcome} (hst : st ≠ .moving)
      (hexec : exec c s = .next (refreshAlarms (endInFault t st oc (setNaks t.device 0 a)))) : outOfService c st oc := by
    obtain ⟨hleft, hx⟩ := endInFault_leaves hlater t st oc
    obtain ⟨hwatch, hdeadline⟩ := DeviceVol.enter_not_moving hst { v with naks := 0 } a.now a.image.actuator.poll
    rw [hentry] at hleft
    exact ⟨_, hexec, by rw [hleft.device]; rfl, by rw [hleft.device]; rfl, by rw [hleft.device]; exact hwatch,
      by rw [hleft.device]; exact hdeadline, by rw [hleft.device]; rfl, by rw [hleft.device]; rfl, hleft.others, hleft.image, hleft.ret,
      hleft.lvl, hleft.last, hx⟩
  refine ⟨fun po hpo => ?outOfService, hleaves (by decide) (exec_reply hawaits (x := .ack) (p := .fault) rfl rfl),
    hleaves (by decide) (exec_reply hawaits (x := .nak) (p := .fault) rfl rfl),
    fun po hpo => ⟨fun hlimit => ?nakLimit, fun hbelow hnone hnoquery => ?nakReturns, fun hbelow hc hnewer => ?nakSuperseded,
      fun hbelow hc hwaits => ?nakDropped⟩,
    fun po hpo hc hopens => ?ackDrive, fun po hpo hc he => ?ackOpening,
    fun st po c1 c2 hcheck => judgeReply_wrongCheck hcheck, fun hc hnone => ?queryUnwatched, fun w hc hw => ?queryWatched,
    fun got hlen hbad => ?badReply⟩
  case outOfService =>
    obtain ⟨p, hp⟩ := ofCode?_position_of_le hpo
    exact ⟨hleaves (by decide) (exec_reply hawaits (x := .hand) rfl hp), hleaves (by decide) (exec_reply hawaits (x := .fault) rfl hp)⟩
  case nakLimit => exact hleaves (by decide) (takeNak_limit hlater hlimit ▸ hnak hpo)
  case nakReturns =>
    obtain ⟨hlasts, hreturned⟩ := nak_returns hlater hbelow hnone fun hc => hnoquery (not_not_intro hc)
    exact ⟨_, hnak hpo, devices_takeNak_below hlater hbelow, hlasts, hreturned⟩
  case nakSuperseded => exact ⟨_, hnak hpo, devices_takeNak_below hlater hbelow, nak_superseded hlater hbelow hc hnewer⟩
  case nakDropped =>
    rw [hnak hpo, nak_dropped hlater hbelow (not_not.mp hc) hwaits]
    rfl
  case ackDrive =>
    intro target confirmed acknowledged moves
    have hexec := hack hpo
    rw [takeAck_drive hc hopens] at hexec
    by_cases hat : atTarget a t.device t.command.target (positionOf po) = true
    · obtain ⟨hleft, hx⟩ := ackDrive_done hlater hat
      rw [target_state_eq] at hleft hx
      rw [hdrive hc] at hleft
      have hst : target ≠ .moving := by
        simp only [target]
        split <;> decide
      obtain ⟨hwatch, hdeadline⟩ := DeviceVol.enter_not_moving hst (driveAcknowledged t.exchange v) a.now a.image.actuator.poll
      exact ⟨_, hexec, by rw [hleft.device]; rfl, hleft.others, by rw [hleft.device]; rfl, by rw [hleft.device]; rfl,
        fun _ => ⟨by rw [hleft.device]; rfl, by rw [hleft.device]; exact hwatch, by rw [hleft.device]; exact hdeadline, hleft.last, hx⟩,
        fun hnot => absurd ((atTarget_iff harecord t.command po).mp hat) hnot⟩
    · obtain ⟨hleft, hx⟩ := ackDrive_moves hlater harecord (eq_false_of_ne_true hat)
      rw [hwatched] at hleft
      exact ⟨_, hexec, by rw [hleft.device]; rfl, hleft.others, by rw [hleft.device]; rfl, by rw [hleft.device]; rfl,
        fun hyes => absurd ((atTarget_iff harecord t.command po).mpr hyes) hat,
        fun _ => ⟨by rw [hleft.device]; rfl, by rw [hleft.device], by rw [hleft.device], hleft.last, hx⟩⟩
  case ackOpening =>
    have hopens : takeAck t (positionOf po) (setNaks t.device 0 a) = ackOpening t (positionOf po) (setNaks t.device 0 a) := by
      simp only [takeAck, hc, he]
    have hexec := hack hpo
    rw [hopens] at hexec
    obtain ⟨hleft, hx, htoggle, hsentAt⟩ := ackOpening_leaves hlater harecord hc (positionOf po)
    rw [hwatched] at hleft
    obtain ⟨hkeepsToggle, hkeepsStep, hkeepsNaks, hkeepsWatch⟩ := DeviceVol.takes_leaves
      { v with naks := 0, watch := none, toggle := true, inStep := true } .engage (positionOf po) a.now a.image.actuator.poll r.limit
    refine ⟨_, sendFrame _ t.device .engage t.orig .engage, hexec, by rw [hleft.device]; exact hkeepsToggle, by rw [hleft.device]; exact hkeepsStep,
      by rw [hleft.device]; exact hkeepsNaks, by rw [hx]; rfl, rfl, rfl, rfl, htoggle, rfl, rfl, hsentAt,
      by rw [hleft.device]; exact hkeepsWatch rfl, hleft.others, hleft.last, fun hmoving hwas => ?_, hx⟩
    rw [hleft.device, hmoving]
    exact (DeviceVol.takes_moving _ .engage a.now a.image.actuator.poll r.limit).2 hwas
  case queryUnwatched =>
    have hquery (p : LinePosition) (u : State) : takeAck t p u = ackQuery t p u := by simp only [takeAck, hc]
    have hexec {po : Byte} (hpo : po.toNat ≤ 2) :
        exec (reply 0#8 po) s = .next (refreshAlarms (ackQuery t (positionOf po) (setNaks t.device 0 a))) := by
      rw [← hquery]
      exact hack hpo
    have hdevice (po : Byte) := (ackQuery_unwatched hlater harecord hnone (positionOf po)).2
    have hmoves := DeviceVol.takes_moving { v with naks := 0 } .query a.now a.image.actuator.poll r.limit
    refine ⟨_, _, _, hexec (by decide), hexec (by decide), hexec (by decide), by rw [hdevice]; rfl, by rw [hdevice]; rfl,
      by rw [hdevice]; exact hmoves.1, fun hwas => by rw [hdevice]; exact hmoves.2 hwas, fun po hpo => ?_⟩
    rw [hexec hpo, (ackQuery_unwatched hlater harecord hnone (positionOf po)).1]
    simp only [concluded, hc]
    rfl
  case queryWatched =>
    intro reached
    have hquery (p : LinePosition) (u : State) : takeAck t p u = ackQuery t p u := by simp only [takeAck, hc]
    refine ⟨fun po hpo hne => ?elsewhere, ?reached⟩
    case elsewhere =>
      have haway : isTarget w (positionOf po) = false := eq_false_of_ne_true fun htrue => hne ((isTarget_iff w po).mp htrue)
      rw [hack hpo, hquery, ackQuery_elsewhere hlater hw haway]
    case reached =>
      have hthere : isTarget w (positionOf reached) = true := (isTarget_iff w reached).mpr rfl
      have hle : reached.toNat ≤ 2 := by
        simp only [reached]
        split <;> decide
      have hexec := hack hle
      rw [hquery] at hexec
      have hstate : w.target.state = if w.target = .opened then .opened else .closed := by cases w.target <;> rfl
      have hst : w.target.state ≠ .moving := by cases w.target <;> decide
      obtain ⟨hwatch, hdeadline⟩ := DeviceVol.enter_not_moving hst { v with naks := 0 } a.now a.image.actuator.poll
      obtain ⟨hleft, hx⟩ := ackQuery_reached hlater hw hthere
      rw [hwatched] at hleft
      refine ⟨_, hexec, by rw [hleft.device]; exact hstate, by rw [hleft.device]; exact hwatch, by rw [hleft.device]; exact hdeadline,
        hleft.last, ?_⟩
      rw [hx, hstate]
      simp only [concluded, hc]
      rfl
  case badReply =>
    intro bad
    have hexec : exec bad s = .next (refreshAlarms (attemptFailed t .badReply a)) := by
      refine (exec_frame hawaits hlen).trans ?_
      rw [judgeFrame, hbad]
    refine ⟨fun hmore => ?again, fun hexhausted => ?lost⟩
    case again => rw [hexec, attemptFailed, if_pos hmore, resend_eq hlater]
    case lost =>
      obtain ⟨hleft, hx⟩ := badReply_exhausted hlater hexhausted
      rw [hentry] at hleft
      exact ⟨_, hexec, by rw [hleft.device]; rfl, by rw [hleft.device]; rfl, by rw [hleft.device]; rfl,
        fun hc => by rw [hleft.device]; exact if_neg hc, hleft.others, hleft.last, hx⟩

end Sys2Proof.Machine

/-! PROOF. The alarm lines and the pins that they drive (R182, R183). -/

namespace Sys2Proof.Machine

/-! ### What the conditions of the alarm lines are read from (R182) -/

/-- What the conditions of the alarm lines are read from. -/
structure AlarmInputs where
  image : Image
  channels : Tab 8 Channel
  lvl : Levels
  rain : Rain
  spill : Tab 4 OutfallVol
  orders : Tab 8 (Option Order)
  devices : Tab 16 DeviceVol

/-- The inputs of the alarm lines in a state. -/
def alarmInputs (s : State) : AlarmInputs :=
  { image := s.image, channels := s.snd.channels, lvl := s.lvl, rain := s.rain, spill := s.spill, orders := s.drn.orders
    devices := s.act.devices }

/-- A condition as it is read from the inputs alone. -/
theorem lineCondition_congr {s t : State} (h : alarmInputs t = alarmInputs s) (l : Fin 4) : lineCondition t l = lineCondition s l := by
  simp only [alarmInputs, AlarmInputs.mk.injEq] at h
  obtain ⟨himage, hchannels, hlvl, hrain, hspill, horders, hdevices⟩ := h
  have hspills (b : Fin 8) : meetsSpill t b = meetsSpill s b := by
    unfold meetsSpill outfallOf notQuiet State.bay State.spillState
    rw [himage, hspill]
  have hhigh (b : Fin 8) : meetsHigh t b = meetsHigh s b := by
    unfold meetsHigh State.level State.bay
    rw [himage, hlvl]
  have hfault (b : Fin 8) : meetsFault t b = meetsFault s b := by
    unfold meetsFault State.order State.bay State.device
    rw [himage, hchannels, horders, hdevices]
  have hmeets (c : AlarmCondition) (b : Fin 8) : meets t c b = meets s c b := by
    cases c with
    | spill => exact hspills b
    | high => exact hhigh b
    | fault => exact hfault b
    | off => rfl
    | alert => rfl
  have hmeeting : meeting t l = meeting s l := by
    simp only [meeting, covered, State.bay, himage]
    exact List.filter_congr fun b _ => hmeets _ b
  simp only [lineCondition, himage, hrain, hmeeting]

theorem alarmInputs_of_kept {s t : State} (hkept : kept t = kept s) (hdrn : t.drn = s.drn) : alarmInputs t = alarmInputs s := by
  simp only [kept, Kept.mk.injEq] at hkept
  simp only [alarmInputs, hkept, hdrn]

@[simp] theorem drn_lineTake (s : State) : (lineTake s).drn = s.drn := by
  unfold lineTake
  split <;> rfl

/-! ### The lines follow (R182; log entry 8) -/

/-- Each alarm line is active exactly where its condition is met. -/
def LinesFollow (s : State) : Prop := ∀ l, s.term.lineActive.at_ l = lineCondition s l

/-- An evaluation of the lines leaves them at their conditions. -/
theorem linesFollow_refreshAlarms (s : State) : LinesFollow (refreshAlarms s) := fun l => Tab.at_ofFn l (lineCondition s)

/-- Lines that follow still follow where neither they nor their inputs have changed. -/
theorem LinesFollow.same {s t : State} (h : LinesFollow s) (hlines : t.term.lineActive = s.term.lineActive)
    (hinputs : alarmInputs t = alarmInputs s) : LinesFollow t := fun l => by rw [hlines, h l, lineCondition_congr hinputs]

/-- While the part keeps running, or comes to a stop, lines that follow still follow where neither they nor their inputs have changed. -/
theorem AlarmsFollow.same {s t : State} (h : AlarmsFollow s) (hrun : t.run = s.run) (hlines : t.term.lineActive = s.term.lineActive)
    (hinputs : alarmInputs t = alarmInputs s) : AlarmsFollow t := fun ht => LinesFollow.same (h (hrun ▸ ht)) hlines hinputs

/-- A part that does not run has no line to keep. -/
theorem alarmsFollow_of_not_running {s : State} (h : s.run ≠ .running) : AlarmsFollow s := fun hrun => absurd hrun h

theorem alarmsFollow_arrive {s : State} (h : AlarmsFollow s) (m : Moment) : AlarmsFollow (arrive m s) :=
  h.same (by simp) (by simp) (by simp [alarmInputs])

/-! ### Power (R187, R191) -/

/-- The line of the actuators and the engine take their entries without an effect that a line reads. -/
theorem linesFollow_takes {s : State} (h : LinesFollow s) : LinesFollow (engineTake (lineTake s)) := by
  have hkept : kept (engineTake (lineTake s)) = kept s := (kept_engineTake _).trans (kept_lineTake s)
  have hdrn : (engineTake (lineTake s)).drn = s.drn := (drn_engineTake _).trans (drn_lineTake s)
  exact h.same (congrArg Terminals.lineActive (term_of_kept hkept)) (alarmInputs_of_kept hkept hdrn)

/-- The lines are evaluated before the line of the actuators and the engine take their first entries (R191). -/
theorem alarmsFollow_makeStart (s : State) : AlarmsFollow (makeStart s) :=
  fun _ => linesFollow_takes ((linesFollow_refreshAlarms _).same rfl rfl)

theorem run_losePower (s : State) : (losePower s).run = .stopped := rfl

theorem alarmsFollow_losePower (s : State) : AlarmsFollow (losePower s) := alarmsFollow_of_not_running (by rw [run_losePower]; decide)

theorem alarmsFollow_startWhereDue {s : State} (h : AlarmsFollow s) (fall : Option StartFall) : AlarmsFollow (startWhereDue fall s) := by
  unfold startWhereDue
  split
  · exact h
  · split
    · exact alarmsFollow_makeStart s
    · exact alarmsFollow_losePower _

theorem alarmsFollow_mainFalls {s : State} (h : AlarmsFollow s) : AlarmsFollow (mainFalls s) := by
  unfold mainFalls
  split
  · exact h
  · exact alarmsFollow_losePower s

theorem alarmsFollow_backupFalls {s : State} (h : AlarmsFollow s) : AlarmsFollow (backupFalls s) := by
  unfold backupFalls
  dsimp only
  split <;> exact h.same rfl rfl rfl

/-! ### Every command -/

/-- A command answers the state that its power event leaves. -/
theorem alarmsFollow_arrived {s t : State} (h : AlarmsFollow s) (m : Moment) {f : State → State}
    (hf : ∀ {u}, AlarmsFollow u → AlarmsFollow (f u)) (ht : Host.Outcome.next (f (arrive m s)) = (.next t : Step)) : AlarmsFollow t := by
  cases ht
  exact hf (alarmsFollow_arrive h m)

/-- A command that takes effect while the part runs ends with an evaluation of the lines, whatever its effect (log entry 8). -/
theorem alarmsFollow_whileRunning {s t : State} {m : Moment} {f : State → State} (ht : whileRunning m f s = .next t) : AlarmsFollow t := by
  unfold whileRunning at ht
  dsimp only at ht
  cases ht
  split
  · exact fun _ => linesFollow_refreshAlarms _
  · next hstopped => exact alarmsFollow_of_not_running hstopped

/-- Every command keeps the lines at their conditions: the power events by what they leave, the others by their evaluation at the end. -/
theorem alarmsFollow_exec {s t : State} (h : AlarmsFollow s) (c : Instr) (ht : exec c s = .next t) : AlarmsFollow t := by
  cases c
  case mainPowerFail m => exact alarmsFollow_arrived h m alarmsFollow_mainFalls ht
  case backupSupplyLoss m => exact alarmsFollow_arrived h m alarmsFollow_backupFalls ht
  case start e => exact alarmsFollow_arrived h e.moment (alarmsFollow_startWhereDue · e.fall) ht
  case backupSupplyReturn m => exact alarmsFollow_arrived h m (f := (·.withBackup true)) (·.same rfl rfl rfl) ht
  case hostFrameGap m bytes ending => exact alarmsFollow_whileRunning (show execHostFrameGap m bytes ending s = .next t from ht)
  case hostLineBreak m bytes => exact alarmsFollow_whileRunning (show execHostLineBreak m bytes s = .next t from ht)
  case blockEndReached m k => exact alarmsFollow_whileRunning (show execBlockEndReached m k s = .next t from ht)
  case minuteRoll m => exact alarmsFollow_whileRunning (show execMinuteRoll m s = .next t from ht)
  all_goals exact alarmsFollow_whileRunning ht

theorem alarmsFollow_step {s t : State} (h : AlarmsFollow s) (ht : step s = .next t) : AlarmsFollow t := by
  unfold step at ht
  split at ht
  · cases ht
    exact h
  · next c rest _ =>
    have hrest : AlarmsFollow (s.withPending rest) := h.same rfl rfl rfl
    exact alarmsFollow_exec hrest c ht

/-! ### The pins (R183) -/

theorem pinDrive_stopped {s : State} (h : s.run = .stopped) (p : Fin 12) : pinDrive s p = none := if_pos h

theorem pinDrive_input {s : State} {p : Fin 12} (h : ∀ l, (s.image.terminals.at_ p).function ≠ .alarm l) : pinDrive s p = none := by
  unfold pinDrive
  cases hf : (s.image.terminals.at_ p).function with
  | alarm l => exact absurd hf (h l)
  | unused => exact ite_self none
  | float b => exact ite_self none
  | gauge g => exact ite_self none
  | worksStop => exact ite_self none

/-- An ALARM terminal is driven by its polarity while main power is present. -/
theorem pinDrive_alarm {s : State} {p : Fin 12} {l : Fin 4} (h : (s.image.terminals.at_ p).function = .alarm l) (hrun : s.run ≠ .stopped) :
    pinDrive s p = some (if (s.image.terminals.at_ p).polarity = .activeHigh then s.term.lineActive.at_ l
      else !s.term.lineActive.at_ l) := by
  rw [pinDrive, if_neg hrun, h, ← drivenHigh_eq]

/-- Settles O8: a step keeps the lines by the evaluation that ends it, and an ALARM terminal drives by its polarity what its line follows. -/
theorem everyStepKeepsAlarmLines : Obligations.EveryStepKeepsAlarmLines := by
  refine ⟨fun s t h ht => alarmsFollow_step h ht, fun s h p => ⟨fun hstop => pinDrive_stopped hstop p, pinDrive_input, fun l hf => ?_⟩⟩
  have hdrive (hrun : s.run ≠ .stopped) := pinDrive_alarm hf hrun
  have hfollows (hrun : s.run = .running) : s.term.lineActive.at_ l = lineCondition s l := h hrun l
  refine ⟨fun hrun hpol => ?_, fun hrun hpol => ?_, fun hrun hpol => ?_, fun hrun hpol => ?_⟩
  · rw [hdrive (by simp [hrun]), if_pos hpol, hfollows hrun]
  · rw [hdrive (by simp [hrun]), if_neg (by simp [hpol]), hfollows hrun]
  · rw [hdrive (by simp [hrun]), if_pos hpol]
  · rw [hdrive (by simp [hrun]), if_neg (by simp [hpol])]

end Sys2Proof.Machine

/-! PROOF. What an event of a float leaves of the terminals and of works-stop (R50, R51, R53). -/

namespace Sys2Proof.Machine

/-! ### The frame of a change of quality (R53) -/

/-- What no taker of a change of quality touches: the image, the terminals, COLD and the second. -/
structure Wiring where
  image : Image
  term : Terminals
  cold : Bool
  second : Nat

/-- The wiring of a state. -/
def wiring (s : State) : Wiring := { image := s.image, term := s.term, cold := s.ret.cold, second := s.now }

theorem lvl_of_kept {s t : State} (h : kept t = kept s) : t.lvl = s.lvl := congrArg Kept.lvl h

theorem rain_of_kept {s t : State} (h : kept t = kept s) : t.rain = s.rain := congrArg Kept.rain h

theorem wiring_of_kept {s t : State} (h : kept t = kept s) : wiring t = wiring s := by
  have hret : t.ret = s.ret := congrArg Kept.ret h
  have himage : t.image = s.image := congrArg Kept.image h
  simp only [wiring, State.now, hret, himage, term_of_kept h]

theorem wiring_spillLoss (b : Fin 8) (s : State) : wiring (spillLoss b s) = wiring s := by
  unfold spillLoss
  split
  · split <;> rfl
  · rfl

/-- Each taker of a change of quality leaves the wiring. -/
theorem wiring_takeQualityChange (b : Fin 8) (before after : Quality) (value volume : Option Nat) (s : State) (taker : LevelTaker) :
    wiring (takeLevelEvent b (.qualityChange before after value volume) s taker) = wiring s := by
  obtain ⟨hspill, hdrain⟩ := takeLevelEvent_qualityChange b before after value volume s
  cases taker with
  | site => exact wiring_of_kept (kept_evaluateMode s)
  | planner => exact wiring_of_kept (kept_plannerTake s)
  | spill =>
    rw [hspill]
    split
    · exact wiring_spillLoss b s
    · rfl
  | drain =>
    rw [hdrain]
    split
    · exact wiring_of_kept (kept_gaugeLoss b s)
    · rfl

theorem wiring_handQualityChange (b : Fin 8) (before : Quality) (s : State) : wiring (handQualityChange b before s) = wiring s := by
  have hfold (before after : Quality) (value volume : Option Nat) (l : List LevelTaker) (u : State) :
      wiring (l.foldl (takeLevelEvent b (.qualityChange before after value volume)) u) = wiring u := by
    induction l generalizing u with
    | nil => rfl
    | cons taker rest ih => rw [List.foldl_cons, ih, wiring_takeQualityChange]
  unfold handQualityChange
  split
  · rfl
  · exact hfold ..

theorem wiring_floatActivated (b : Fin 8) (s : State) : wiring (floatActivated b s) = wiring s := by
  have htest (u : State) : wiring (testDisagreement b u) = wiring u := by
    unfold testDisagreement
    split <;> rfl
  unfold floatActivated
  dsimp only
  split
  · rw [wiring_handQualityChange, htest]
    rfl
  · rfl

theorem wiring_floatReleased (b : Fin 8) (after : FloatState) (s : State) : wiring (floatReleased b after s) = wiring s := by
  unfold floatReleased
  dsimp only
  split
  · rw [wiring_handQualityChange]
    rfl
  · rfl

/-! ### The levels -/

theorem onlyLevel_setFloat (b : Fin 8) (x : FloatState) (s : State) : OnlyLevel b s (s.setFloat b x) :=
  ⟨rfl, rfl, rfl, rfl, rfl, fun _ _ => rfl⟩

theorem onlyLevel_floatActivated (b : Fin 8) (s : State) : OnlyLevel b s (floatActivated b s) := by
  unfold floatActivated
  dsimp only
  split
  · exact (((onlyLevel_setFloat b .active s).trans (onlyLevel_setLevel b _ _)).trans (onlyLevel_testDisagreement b _)).trans
      (onlyLevel_handQualityChange b _ _)
  · exact onlyLevel_setFloat b .active s

theorem onlyLevel_floatReleased (b : Fin 8) (after : FloatState) (s : State) : OnlyLevel b s (floatReleased b after s) := by
  unfold floatReleased
  dsimp only
  split
  · exact ((onlyLevel_setFloat b after s).trans (onlyLevel_setLevel b _ _)).trans (onlyLevel_handQualityChange b _ _)
  · exact onlyLevel_setFloat b after s

/-- The float of a bay that is not enabled has no effect on the bay's record (R50). -/
theorem floatActivated_disabled {b : Fin 8} {s : State} (h : (s.bay b).enabled = false) : floatActivated b s = s.setFloat b .active :=
  if_neg (ne_true_of_eq_false h)

theorem floatReleased_disabled {b : Fin 8} {s : State} (h : (s.bay b).enabled = false) (after : FloatState) :
    floatReleased b after s = s.setFloat b after := if_neg fun hon => absurd hon.1 (ne_true_of_eq_false h)

theorem floats_floatActivated (b : Fin 8) (s : State) : (floatActivated b s).lvl.floats = s.lvl.floats.put b .active := by
  cases h : (s.bay b).enabled with
  | true =>
    obtain ⟨hfloats, -⟩ := floatActivated_lvl h
    exact hfloats
  | false => rw [floatActivated_disabled h]; rfl

theorem floats_floatReleased (b : Fin 8) (after : FloatState) (s : State) :
    (floatReleased b after s).lvl.floats = s.lvl.floats.put b after := by
  cases h : (s.bay b).enabled with
  | true =>
    obtain ⟨hfloats, -⟩ := floatReleased_lvl h after
    exact hfloats
  | false => rw [floatReleased_disabled h]; rfl

/-! ### Works-stop (R136, R137) -/

/-- The release of works-stop concerns neither the levels nor the rain watch. -/
theorem worksStopReleased_leaves (s : State) : (worksStopReleased s).lvl = s.lvl ∧ (worksStopReleased s).rain = s.rain := by
  have hkept := kept_worksStopReleased s
  exact ⟨(lvl_of_kept hkept).trans rfl, (rain_of_kept hkept).trans rfl⟩

/-- The assertion of works-stop concerns neither the levels nor the rain watch. -/
theorem worksStopAsserted_leaves (s : State) : (worksStopAsserted s).lvl = s.lvl ∧ (worksStopAsserted s).rain = s.rain := by
  have hkept := kept_worksStopAsserted s
  exact ⟨(lvl_of_kept hkept).trans rfl, (rain_of_kept hkept).trans rfl⟩

theorem stopFree_overtaken {s : State} (h : StopFree s) (b : Fin 8) (o : Order) {holds : HoldCauses} (hholds : holds.worksStop = false)
    (cause : ClosingCause) (failure : Option Failure) : StopFree (overtaken b o holds cause failure s) := by
  have hforfeited (x : Order) (hx : x.holds.worksStop = false) : StopFree (creditForfeited b o x s) := by
    have hcounted (c : CreditCounters) : StopFree (s.withCounters c) := h.same rfl rfl
    refine (hcounted _).setOrder b _ fun y hy => ?_
    obtain rfl := Option.some.inj hy
    exact hx
  have hput := stopFree_putForOrder (hforfeited { o with holds := holds, state := .closing, closing := some cause, failure := failure } hholds)
    b .release
  unfold overtaken leftRunning
  split
  · exact hput.same (term_of_kept (kept_intervalChanged b _)) (congrArg Drain.orders (drn_intervalChanged b _))
  · exact hput

/-- The loss of a gauge leaves works-stop out of the hold causes. -/
theorem stopFree_gaugeLoss {s : State} (h : StopFree s) (b : Fin 8) : StopFree (gaugeLoss b s) := by
  cases ho : s.order b with
  | none =>
    have hsame : gaugeLoss b s = s := by simp only [gaugeLoss, changeHolds_of_none ho, ho]
    rwa [hsame]
  | some o =>
    have hfree := h.orders b o ho
    have hover : StopFree (overtaken b o { o.holds with gauge := true } .gauge o.failure s) :=
      stopFree_overtaken (holds := { o.holds with gauge := true }) h b o hfree .gauge o.failure
    have hset (x : Order) (hx : x.holds.worksStop = false) : StopFree (s.setOrder b (some x)) :=
      h.setOrder b _ fun y hy => by
        obtain rfl := Option.some.inj hy
        exact hx
    rw [gaugeLoss_eq ho]
    cases o.state with
    | opening => exact hover
    | running => exact hover
    | queued => exact hset _ hfree
    | held => exact hset _ hfree
    | closing => exact hset _ hfree
    | suspect => exact hset _ hfree

theorem stopFree_spillLoss {s : State} (h : StopFree s) (b : Fin 8) : StopFree (spillLoss b s) := by
  unfold spillLoss
  split
  · split
    · exact h.same rfl rfl
    · exact h.same rfl rfl
    all_goals exact h
  · exact h

theorem stopFree_takeQualityChange {s : State} (h : StopFree s) (b : Fin 8) (before after : Quality) (value volume : Option Nat)
    (taker : LevelTaker) : StopFree (takeLevelEvent b (.qualityChange before after value volume) s taker) := by
  obtain ⟨hspill, hdrain⟩ := takeLevelEvent_qualityChange b before after value volume s
  cases taker with
  | site => exact stopFree_evaluateMode h
  | planner => exact stopFree_plannerTake h
  | spill =>
    rw [hspill]
    split
    · exact stopFree_spillLoss h b
    · exact h
  | drain =>
    rw [hdrain]
    split
    · exact stopFree_gaugeLoss h b
    · exact h

theorem stopFree_handQualityChange {s : State} (h : StopFree s) (b : Fin 8) (before : Quality) : StopFree (handQualityChange b before s) := by
  unfold handQualityChange
  split
  · exact h
  · exact StopFree.foldl (fun taker h => stopFree_takeQualityChange h b _ _ _ _ taker) _ (h.same rfl rfl)

theorem stopFree_floatActivated {s : State} (h : StopFree s) (b : Fin 8) : StopFree (floatActivated b s) := by
  have htest {u : State} (h : StopFree u) : StopFree (testDisagreement b u) := by
    unfold testDisagreement
    split
    · exact h.same rfl rfl
    · exact h
  unfold floatActivated
  dsimp only
  split
  · refine stopFree_handQualityChange (htest ?_) b _
    exact h.same rfl rfl
  · exact h.same rfl rfl

end Sys2Proof.Machine

/-! PROOF. The departure and the arrival of a terminal's function (R178). -/

namespace Sys2Proof.Machine

/-! ### The two halves -/

/-- A function departs from a terminal whose record names it no more (R178). -/
def functionDeparts (f : TerminalFunction) (s : State) : State :=
  match f with
  | .unused | .alarm _ => s
  | .float b => if s.lvl.floats.at_ b = .active then floatReleased b .absent s else s.setFloat b .absent
  | .gauge g => gaugeInactiveEdge g s
  | .worksStop => if s.term.worksStop then worksStopReleased s else s

theorem departFunction_eq (t : Fin 12) (s : State) : departFunction t s = functionDeparts (s.image.terminals.at_ t).function
    (setTerminalRec t { s.image.terminals.at_ t with function := .unused } s) := by
  unfold departFunction
  cases (s.image.terminals.at_ t).function <;> rfl

/-- A terminal takes its record and, where it is an input, its raw level (R178). -/
def recordTaken (t : Fin 12) (r : TerminalRec) (s : State) : State :=
  match r.function with
  | .alarm _ => setTerminalRec t r s
  | .unused | .float _ | .gauge _ | .worksStop => takeRawLevel t (setTerminalRec t r s)

/-- A function arrives at a terminal that has taken its record (R178; log entry 63). -/
def functionArrives (t : Fin 12) (f : TerminalFunction) (s : State) : State :=
  match f with
  | .unused | .alarm _ => s
  | .float b => if inputActive s t then floatActivated b s else s.setFloat b .released
  | .gauge g => if inputActive s t then startStuckDeadline g s else s
  | .worksStop => if inputActive s t then worksStopAsserted s else s

theorem arriveFunction_eq (t : Fin 12) (r : TerminalRec) (s : State) :
    arriveFunction t r s = functionArrives t r.function (recordTaken t r s) := by
  unfold arriveFunction recordTaken
  cases r.function <;> rfl

/-! ### The terminal's record and level -/

theorem getLsbD_takeRawLevel (t x : Fin 12) (s : State) : (takeRawLevel t s).term.debounced.getLsbD x.val
    = if x = t then s.term.pins.getLsbD t.val else s.term.debounced.getLsbD x.val := by
  have hbit : ((1#12) <<< t.val).getLsbD x.val = decide (x = t) := by
    revert t x
    decide
  have hx := x.isLt
  unfold takeRawLevel
  cases hpin : s.term.pins.getLsbD t.val with
  | true =>
    change (s.term.debounced ||| (1#12) <<< t.val).getLsbD x.val = _
    rw [BitVec.getLsbD_or, hbit]
    by_cases heq : x = t <;> simp [heq]
  | false =>
    change (s.term.debounced &&& ~~~((1#12) <<< t.val)).getLsbD x.val = _
    rw [BitVec.getLsbD_and, BitVec.getLsbD_not, hbit]
    by_cases heq : x = t <;> simp [heq, hx]

/-- The taking of a record changes the terminals alone. -/
theorem recordTaken_leaves (t : Fin 12) (r : TerminalRec) (s : State) : (recordTaken t r s).ret = s.ret ∧ (recordTaken t r s).lvl = s.lvl
    ∧ (recordTaken t r s).rain = s.rain ∧ (recordTaken t r s).drn = s.drn
    ∧ (recordTaken t r s).image = { s.image with terminals := s.image.terminals.put t r }
    ∧ (recordTaken t r s).term.worksStop = s.term.worksStop := by
  unfold recordTaken
  split <;> exact ⟨rfl, rfl, rfl, rfl, rfl, rfl⟩

theorem debounced_recordTaken_self {t : Fin 12} {r : TerminalRec} (h : ∀ l, r.function ≠ .alarm l) (s : State) :
    (recordTaken t r s).term.debounced.getLsbD t.val = s.term.pins.getLsbD t.val := by
  have htaken : recordTaken t r s = takeRawLevel t (setTerminalRec t r s) := by
    unfold recordTaken
    split
    · next l hl => exact absurd hl (h l)
    all_goals rfl
  rw [htaken, getLsbD_takeRawLevel, if_pos rfl]
  rfl

theorem debounced_recordTaken_other {t x : Fin 12} (h : x ≠ t) (r : TerminalRec) (s : State) :
    (recordTaken t r s).term.debounced.getLsbD x.val = s.term.debounced.getLsbD x.val := by
  have hinput : (takeRawLevel t (setTerminalRec t r s)).term.debounced.getLsbD x.val = s.term.debounced.getLsbD x.val := by
    rw [getLsbD_takeRawLevel, if_neg h]
    rfl
  unfold recordTaken
  split
  · rfl
  all_goals exact hinput

/-! ### The wiring and works-stop -/

/-- The state with works-stop asserted or released, before any order has learned it. -/
def withStop (x : Bool) (s : State) : State := s.withTerm { s.term with worksStop := x }

/-- Of the wiring a departure changes works-stop alone, which it releases where it is its function. -/
theorem wiring_functionDeparts (f : TerminalFunction) (s : State) : wiring (functionDeparts f s)
    = wiring (withStop (if f = .worksStop then false else s.term.worksStop) s) := by
  cases f with
  | unused => rfl
  | alarm l => rfl
  | float b =>
    unfold functionDeparts
    dsimp only
    split
    · exact wiring_floatReleased b .absent s
    · rfl
  | gauge g => rfl
  | worksStop =>
    unfold functionDeparts
    dsimp only
    cases h : s.term.worksStop with
    | true =>
      rw [if_pos rfl, if_pos rfl]
      exact wiring_of_kept (kept_worksStopReleased s)
    | false =>
      have hsame : withStop false s = s := by rw [← h]; rfl
      exact congrArg wiring hsame.symm

/-- Of the wiring an arrival changes works-stop alone, which it asserts where it is its function and its input is active. -/
theorem wiring_functionArrives (t : Fin 12) (f : TerminalFunction) (s : State) : wiring (functionArrives t f s)
    = wiring (withStop (if f = .worksStop ∧ inputActive s t = true then true else s.term.worksStop) s) := by
  cases f with
  | unused => rfl
  | alarm l => rfl
  | float b =>
    unfold functionArrives
    dsimp only
    split
    · exact wiring_floatActivated b s
    · rfl
  | gauge g =>
    unfold functionArrives startStuckDeadline
    dsimp only
    split
    · split <;> rfl
    · rfl
  | worksStop =>
    unfold functionArrives
    dsimp only
    split
    · next h =>
      rw [if_pos ⟨rfl, h⟩]
      exact wiring_of_kept (kept_worksStopAsserted s)
    · next h =>
      rw [if_neg fun hand => h hand.2]
      rfl

/-- The departure of works-stop frees every order of it. -/
theorem stopFree_functionDeparts {s : State} (h : s.term.worksStop = true) : StopFree (functionDeparts .worksStop s) := by
  have hlater : LaterOf s s := ⟨rfl, rfl, rfl, rfl, rfl, rfl, rfl⟩
  have hreleased : functionDeparts .worksStop s = worksStopReleased s := if_pos h
  rw [hreleased]
  exact stopFree_worksStopReleased hlater

/-- The arrival of another function leaves the orders free of works-stop. -/
theorem stopFree_functionArrives {s : State} (h : StopFree s) (t : Fin 12) {f : TerminalFunction} (hf : f ≠ .worksStop) :
    StopFree (functionArrives t f s) := by
  cases f with
  | unused => exact h
  | alarm l => exact h
  | float b =>
    unfold functionArrives
    dsimp only
    split
    · exact stopFree_floatActivated h b
    · exact h.same rfl rfl
  | gauge g =>
    unfold functionArrives startStuckDeadline
    dsimp only
    split
    · split
      · exact h.same rfl rfl
      · exact h
    · exact h
  | worksStop => exact absurd rfl hf

/-- An arrival of works-stop at an active input holds or closes every order. -/
theorem order_functionArrives_worksStop {t : Fin 12} {s : State} (h : inputActive s t = true) {b : Fin 8} {o : Order}
    (ho : (functionArrives t .worksStop s).order b = some o) :
    o.holds.worksStop = true ∧ (o.state = .held ∨ o.state = .closing ∨ o.state = .suspect) := by
  have hlater : LaterOf s s := ⟨rfl, rfl, rfl, rfl, rfl, rfl, rfl⟩
  have hasserted : functionArrives t .worksStop s = worksStopAsserted s := if_pos h
  rw [hasserted] at ho
  exact worksStopAsserted_all hlater ho

/-! ### The floats and the levels -/

/-- The departure of a float leaves it ABSENT, and a FLOAT level of its bay STALE as at a release. -/
theorem functionDeparts_float (b : Fin 8) (s : State) : (functionDeparts (.float b) s).lvl.floats.at_ b = .absent
    ∧ ((functionDeparts (.float b) s).level b).value = (s.level b).value
    ∧ ((functionDeparts (.float b) s).level b).quality
      = if s.lvl.floats.at_ b = .active ∧ (s.bay b).enabled = true ∧ (s.level b).quality = .float then .stale else (s.level b).quality := by
  unfold functionDeparts
  dsimp only
  by_cases hactive : s.lvl.floats.at_ b = .active
  · rw [if_pos hactive, floats_floatReleased, Tab.at_put, if_pos rfl]
    cases hon : (s.bay b).enabled with
    | true =>
      obtain ⟨-, -, hlevel⟩ := floatReleased_lvl hon .absent
      rw [hlevel]
      simp [hactive]
    | false =>
      rw [floatReleased_disabled hon]
      simp
  · rw [if_neg hactive]
    simp [State.setFloat, hactive, State.level]

/-- The departure of another function leaves the float and the level of a bay. -/
theorem functionDeparts_other_float {f : TerminalFunction} {b : Fin 8} (h : f ≠ .float b) (s : State) :
    (functionDeparts f s).lvl.floats.at_ b = s.lvl.floats.at_ b ∧ (functionDeparts f s).level b = s.level b := by
  cases f with
  | unused => exact ⟨rfl, rfl⟩
  | alarm l => exact ⟨rfl, rfl⟩
  | gauge g => exact ⟨rfl, rfl⟩
  | float c =>
    have hne : c ≠ b := fun heq => h (heq ▸ rfl)
    unfold functionDeparts
    dsimp only
    split
    · rw [floats_floatReleased, Tab.at_put, if_neg hne]
      exact ⟨rfl, (onlyLevel_floatReleased c .absent s).others b hne.symm⟩
    · exact ⟨by simp [State.setFloat, hne], rfl⟩
  | worksStop =>
    unfold functionDeparts
    dsimp only
    split
    · obtain ⟨hlvl, -⟩ := worksStopReleased_leaves s
      exact ⟨congrArg (·.floats.at_ b) hlvl, congrArg (·.records.at_ b) hlvl⟩
    · exact ⟨rfl, rfl⟩

/-- The arrival of a float takes the state of its input, and the level of an enabled bay follows an active one from STALE and NONE. -/
theorem functionArrives_float (t : Fin 12) (b : Fin 8) (s : State) :
    (functionArrives t (.float b) s).lvl.floats.at_ b = (if inputActive s t then .active else .released)
    ∧ if (s.bay b).enabled = true ∧ inputActive s t = true ∧ ((s.level b).quality = .none ∨ (s.level b).quality = .stale)
      then ((functionArrives t (.float b) s).level b).quality = .float
        ∧ ((functionArrives t (.float b) s).level b).value = some (s.bay b).floatHeight
      else ((functionArrives t (.float b) s).level b).quality = (s.level b).quality
        ∧ ((functionArrives t (.float b) s).level b).value = (s.level b).value := by
  unfold functionArrives
  dsimp only
  cases hactive : inputActive s t with
  | false => simp [State.setFloat, State.level]
  | true =>
    rw [if_pos rfl, floats_floatActivated, Tab.at_put, if_pos rfl]
    cases hon : (s.bay b).enabled with
    | false => simp [floatActivated_disabled hon]
    | true =>
      obtain ⟨-, -, d, hlevel⟩ := floatActivated_lvl hon
      rw [hlevel, floated]
      by_cases hlost : (s.level b).quality = .none ∨ (s.level b).quality = .stale
      · simp [hlost, hlost.symm]
      · simp [hlost, mt Or.symm hlost]

/-- The arrival of another function leaves the float and the level of a bay. -/
theorem functionArrives_other_float {f : TerminalFunction} {b : Fin 8} (h : f ≠ .float b) (t : Fin 12) (s : State) :
    (functionArrives t f s).lvl.floats.at_ b = s.lvl.floats.at_ b ∧ (functionArrives t f s).level b = s.level b := by
  cases f with
  | unused => exact ⟨rfl, rfl⟩
  | alarm l => exact ⟨rfl, rfl⟩
  | float c =>
    have hne : c ≠ b := fun heq => h (heq ▸ rfl)
    unfold functionArrives
    dsimp only
    split
    · rw [floats_floatActivated, Tab.at_put, if_neg hne]
      exact ⟨rfl, (onlyLevel_floatActivated c s).others b hne.symm⟩
    · exact ⟨by simp [State.setFloat, hne], rfl⟩
  | gauge g =>
    unfold functionArrives startStuckDeadline
    dsimp only
    split
    · split <;> exact ⟨rfl, rfl⟩
    · exact ⟨rfl, rfl⟩
  | worksStop =>
    unfold functionArrives
    dsimp only
    split
    · obtain ⟨hlvl, -⟩ := worksStopAsserted_leaves s
      exact ⟨congrArg (·.floats.at_ b) hlvl, congrArg (·.records.at_ b) hlvl⟩
    · exact ⟨rfl, rfl⟩

/-! ### The gauges -/

theorem functionDeparts_gauge (g : Fin 4) (s : State) : (functionDeparts (.gauge g) s).rain.gauges.at_ g
    = { s.rain.gauges.at_ g with stuck := false, stuckDeadline := none } :=
  (Tab.at_put ..).trans (if_pos rfl)

/-- The departure of another function leaves a gauge. -/
theorem functionDeparts_other_gauge {f : TerminalFunction} {g : Fin 4} (h : f ≠ .gauge g) (s : State) :
    (functionDeparts f s).rain.gauges.at_ g = s.rain.gauges.at_ g := by
  cases f with
  | unused => rfl
  | alarm l => rfl
  | gauge i =>
    have hne : i ≠ g := fun heq => h (heq ▸ rfl)
    simp [functionDeparts, gaugeInactiveEdge, hne]
  | float b =>
    unfold functionDeparts
    dsimp only
    split
    · rw [(onlyLevel_floatReleased b .absent s).rain]
    · rfl
  | worksStop =>
    unfold functionDeparts
    dsimp only
    split
    · obtain ⟨-, hrain⟩ := worksStopReleased_leaves s
      rw [hrain]
    · rfl

/-- The arrival of an enabled gauge at an active input starts its stuck deadline. -/
theorem functionArrives_gauge (t : Fin 12) (g : Fin 4) (s : State) : (functionArrives t (.gauge g) s).rain.gauges.at_ g
    = { s.rain.gauges.at_ g with
        stuckDeadline := if inputActive s t = true ∧ (s.image.gauges.at_ g).enabled = true then some (stuckDeadlineFrom s g)
          else (s.rain.gauges.at_ g).stuckDeadline } := by
  unfold functionArrives
  dsimp only
  cases inputActive s t with
  | false => simp
  | true =>
    cases hon : (s.image.gauges.at_ g).enabled with
    | true => simp [startStuckDeadline_enabled hon]
    | false => simp [startStuckDeadline_disabled hon]

/-- The arrival of another function leaves a gauge. -/
theorem functionArrives_other_gauge {f : TerminalFunction} {g : Fin 4} (h : f ≠ .gauge g) (t : Fin 12) (s : State) :
    (functionArrives t f s).rain.gauges.at_ g = s.rain.gauges.at_ g := by
  cases f with
  | unused => rfl
  | alarm l => rfl
  | gauge i =>
    have hne : i ≠ g := fun heq => h (heq ▸ rfl)
    unfold functionArrives startStuckDeadline
    dsimp only
    split
    · split
      · simp [hne]
      · rfl
    · rfl
  | float b =>
    unfold functionArrives
    dsimp only
    split
    · rw [(onlyLevel_floatActivated b s).rain]
    · rfl
  | worksStop =>
    unfold functionArrives
    dsimp only
    split
    · obtain ⟨-, hrain⟩ := worksStopAsserted_leaves s
      rw [hrain]
    · rfl

end Sys2Proof.Machine

/-! PROOF. SET_TERMINAL (R177, R178). -/

namespace Sys2Proof.Machine

/-! ### The request -/

theorem polarity_ofCode?_of_lt {n : Nat} (h : 1 < n) : Polarity.ofCode? n = none := by
  unfold Polarity.ofCode?
  split
  · omega
  · omega
  · rfl

/-- An accepted SET_TERMINAL: the old function departs, and the new one arrives with its record (R178). -/
def terminalSet (t : Fin 12) (r : TerminalRec) (s : State) : State := arriveFunction t r (departFunction t (writeImage s.image s))

theorem handleSetTerminal_outside {f : TerminalFields}
    (h : 12 ≤ f.terminal ∨ functionOf? f.function f.parameter = none ∨ 1 < f.polarity) (s : State) :
    handleSetTerminal (.fields f) s = refuse .refusedRange s := by
  rw [handleSetTerminal, onFields_fields]
  split
  · next t fn p ht hfn hp =>
    rcases h with h | h | h
    · simp [index?_of_le h] at ht
    · simp [h] at hfn
    · simp [polarity_ofCode?_of_lt h] at hp
  · rfl

theorem handleSetTerminal_of_terminal {t : Fin 12} {fn : TerminalFunction} {p : Polarity} {f : TerminalFields} (ht : f.terminal = t.val)
    (hfn : functionOf? f.function f.parameter = some fn) (hp : Polarity.ofCode? f.polarity = some p) (s : State) :
    handleSetTerminal (.fields f) s = if functionHeld s t fn = true then refuse .refusedRange s
      else answerOk .empty (terminalSet t { function := fn, polarity := p } s) := by
  rw [handleSetTerminal, onFields_fields, ht, index?_val, hfn, hp]
  exact unlessRefused_cons ..

@[simp] theorem functionHeld_arrive (m : Moment) (s : State) (t : Fin 12) (f : TerminalFunction) :
    functionHeld (arrive m s) t f = functionHeld s t f := by
  simp [functionHeld]

/-! ### The old function has departed -/

/-- The state in which a function departs: COLD is clear, and the terminal's record names no function. -/
def unwired (t : Fin 12) (s : State) : State :=
  setTerminalRec t { s.image.terminals.at_ t with function := .unused } (writeImage s.image s)

/-- The state that a departed function leaves. -/
def vacated (t : Fin 12) (s : State) : State := functionDeparts (s.image.terminals.at_ t).function (unwired t s)

/-- The state in which the new function arrives. -/
def placed (t : Fin 12) (r : TerminalRec) (s : State) : State := recordTaken t r (vacated t s)

theorem terminalSet_eq (t : Fin 12) (r : TerminalRec) (s : State) : terminalSet t r s = functionArrives t r.function (placed t r s) := by
  rw [terminalSet, arriveFunction_eq, departFunction_eq]
  rfl

theorem put_put_terminals (t : Fin 12) (x r : TerminalRec) (i : Image) :
    { { i with terminals := i.terminals.put t x } with terminals := (i.terminals.put t x).put t r }
      = { i with terminals := i.terminals.put t r } := by
  rw [Tab.put_put]

section Departed
variable {s a : State} (hlater : LaterOf s a) (t : Fin 12)
include hlater

theorem unwired_leaves : (unwired t a).lvl = s.lvl ∧ (unwired t a).rain = s.rain ∧ ∀ b, (unwired t a).bay b = s.bay b :=
  ⟨hlater.lvl, hlater.rain, hlater.bay⟩

/-- A departed function leaves COLD clear, the time, and the terminals but for works-stop. -/
theorem vacated_wiring : (vacated t a).ret.cold = false ∧ (vacated t a).now = a.now
    ∧ (∃ x, (vacated t a).image = { s.image with terminals := s.image.terminals.put t x })
    ∧ (vacated t a).term
      = { a.term with worksStop := if (s.image.terminals.at_ t).function = .worksStop then false else a.term.worksStop } := by
  have hwiring := wiring_functionDeparts (a.image.terminals.at_ t).function (unwired t a)
  simp only [wiring, Wiring.mk.injEq] at hwiring
  obtain ⟨himage, hterm, hcold, hnow⟩ := hwiring
  rw [hlater.image] at himage hterm hcold hnow
  have hleft : vacated t a = functionDeparts (s.image.terminals.at_ t).function (unwired t a) := by rw [vacated, hlater.image]
  have hunwired : (unwired t a).image = { s.image with
      terminals := s.image.terminals.put t { s.image.terminals.at_ t with function := .unused } } := by rw [← hlater.image]; rfl
  rw [hleft]
  exact ⟨hcold, hnow, ⟨_, himage.trans hunwired⟩, hterm⟩

/-- A departed float is ABSENT, and a FLOAT level of its bay STALE. -/
theorem vacated_float {b : Fin 8} (h : (s.image.terminals.at_ t).function = .float b) : (vacated t a).lvl.floats.at_ b = .absent
    ∧ ((vacated t a).level b).value = (s.level b).value
    ∧ ((vacated t a).level b).quality
      = if s.lvl.floats.at_ b = .active ∧ (s.bay b).enabled = true ∧ (s.level b).quality = .float then .stale else (s.level b).quality := by
  obtain ⟨hlvl, -, hbay⟩ := unwired_leaves hlater t
  have hleaves := functionDeparts_float b (unwired t a)
  simp only [State.level, hlvl, hbay] at hleaves
  rw [vacated, hlater.image, h]
  exact hleaves

/-- The departure of another function leaves a float and the level of its bay. -/
theorem vacated_other_float {b : Fin 8} (h : (s.image.terminals.at_ t).function ≠ .float b) :
    (vacated t a).lvl.floats.at_ b = s.lvl.floats.at_ b ∧ (vacated t a).level b = s.level b := by
  obtain ⟨hlvl, -⟩ := unwired_leaves hlater t
  obtain ⟨hfloats, hlevel⟩ := functionDeparts_other_float h (unwired t a)
  rw [vacated, hlater.image]
  exact ⟨hfloats.trans (congrArg (·.floats.at_ b) hlvl), hlevel.trans (congrArg (·.records.at_ b) hlvl)⟩

/-- A departed gauge has no stuck deadline and is not STUCK. -/
theorem vacated_gauge {g : Fin 4} (h : (s.image.terminals.at_ t).function = .gauge g) :
    (vacated t a).rain.gauges.at_ g = { s.rain.gauges.at_ g with stuck := false, stuckDeadline := none } := by
  obtain ⟨-, hrain, -⟩ := unwired_leaves hlater t
  rw [vacated, hlater.image, h, functionDeparts_gauge, hrain]

theorem vacated_other_gauge {g : Fin 4} (h : (s.image.terminals.at_ t).function ≠ .gauge g) :
    (vacated t a).rain.gauges.at_ g = s.rain.gauges.at_ g := by
  obtain ⟨-, hrain, -⟩ := unwired_leaves hlater t
  rw [vacated, hlater.image, functionDeparts_other_gauge h, hrain]

/-- A departed works-stop that was asserted holds no order. -/
theorem stopFree_vacated (h : (s.image.terminals.at_ t).function = .worksStop) (hstop : a.term.worksStop = true) :
    StopFree (vacated t a) := by
  rw [vacated, hlater.image, h]
  exact stopFree_functionDeparts hstop

end Departed

/-! ### The new function has arrived -/

/-- What another float's bay has from the departure stays. -/
theorem terminalSet_other_float {r : TerminalRec} {b : Fin 8} (hf : r.function ≠ .float b) (t : Fin 12) (s : State) :
    (terminalSet t r s).lvl.floats.at_ b = (vacated t s).lvl.floats.at_ b ∧ (terminalSet t r s).level b = (vacated t s).level b := by
  obtain ⟨-, hlvl, -⟩ := recordTaken_leaves t r (vacated t s)
  obtain ⟨hfloats, hlevel⟩ := functionArrives_other_float hf t (placed t r s)
  rw [terminalSet_eq]
  exact ⟨hfloats.trans (congrArg (·.floats.at_ b) hlvl), hlevel.trans (congrArg (·.records.at_ b) hlvl)⟩

/-- What another gauge has from the departure stays. -/
theorem terminalSet_other_gauge {r : TerminalRec} {g : Fin 4} (hf : r.function ≠ .gauge g) (t : Fin 12) (s : State) :
    (terminalSet t r s).rain.gauges.at_ g = (vacated t s).rain.gauges.at_ g := by
  obtain ⟨-, -, hrain, -⟩ := recordTaken_leaves t r (vacated t s)
  rw [terminalSet_eq, functionArrives_other_gauge hf, placed, hrain]

section Arrived
variable {s a : State} (hlater : LaterOf s a) (t : Fin 12) (r : TerminalRec)
include hlater

theorem placed_image : (placed t r a).image = { s.image with terminals := s.image.terminals.put t r } := by
  obtain ⟨-, -, -, -, himage, -⟩ := recordTaken_leaves t r (vacated t a)
  obtain ⟨-, -, ⟨x, hx⟩, -⟩ := vacated_wiring hlater t
  rw [placed, himage, hx]
  exact put_put_terminals t x r s.image

/-- A SET_TERMINAL stores the record, clears COLD, and leaves works-stop as its function and its input tell. -/
theorem terminalSet_wiring : (terminalSet t r a).image = { s.image with terminals := s.image.terminals.put t r }
    ∧ (terminalSet t r a).ret.cold = false ∧ (terminalSet t r a).term.debounced = (placed t r a).term.debounced
    ∧ (terminalSet t r a).term.worksStop = if r.function = .worksStop ∧ inputActive (terminalSet t r a) t = true then true
      else if (s.image.terminals.at_ t).function = .worksStop then false else a.term.worksStop := by
  obtain ⟨hret, -, -, -, -, hstop⟩ := recordTaken_leaves t r (vacated t a)
  obtain ⟨hcold, -, -, hterm⟩ := vacated_wiring hlater t
  have hwiring := wiring_functionArrives t r.function (placed t r a)
  rw [← terminalSet_eq] at hwiring
  simp only [wiring, Wiring.mk.injEq] at hwiring
  obtain ⟨himage, hleft, hwarm, -⟩ := hwiring
  have hdebounced : (terminalSet t r a).term.debounced = (placed t r a).term.debounced := by
    rw [hleft]
    rfl
  have hactive : inputActive (terminalSet t r a) t = inputActive (placed t r a) t := by
    rw [inputActive_eq, inputActive_eq, himage, hdebounced]
    rfl
  refine ⟨himage.trans (placed_image hlater t r), hwarm.trans ((congrArg Retained.cold hret).trans hcold), hdebounced, ?_⟩
  rw [hactive]
  refine (congrArg Terminals.worksStop hleft).trans ?_
  have hbefore : (placed t r a).term.worksStop
      = if (s.image.terminals.at_ t).function = .worksStop then false else a.term.worksStop :=
    hstop.trans (congrArg Terminals.worksStop hterm)
  rw [← hbefore]
  rfl

theorem inputActive_placed : inputActive (placed t r a) t = inputActive (terminalSet t r a) t := by
  obtain ⟨himage, -, hdebounced, -⟩ := terminalSet_wiring hlater t r
  rw [inputActive_eq, inputActive_eq, himage, hdebounced, placed_image hlater]

/-- A float that has arrived has the state of its input. -/
theorem terminalSet_float {b : Fin 8} (hf : r.function = .float b) :
    (terminalSet t r a).lvl.floats.at_ b = (if inputActive (terminalSet t r a) t then .active else .released)
    ∧ ((s.image.terminals.at_ t).function ≠ .float b →
      if (s.bay b).enabled = true ∧ inputActive (terminalSet t r a) t = true ∧ ((s.level b).quality = .none ∨ (s.level b).quality = .stale)
      then ((terminalSet t r a).level b).quality = .float ∧ ((terminalSet t r a).level b).value = some (s.bay b).floatHeight
      else ((terminalSet t r a).level b).quality = (s.level b).quality ∧ ((terminalSet t r a).level b).value = (s.level b).value) := by
  obtain ⟨-, hlvl, -⟩ := recordTaken_leaves t r (vacated t a)
  have hbay : (placed t r a).bay b = s.bay b := by rw [State.bay, placed_image hlater]; rfl
  have harrives := functionArrives_float t b (placed t r a)
  rw [← hf, ← terminalSet_eq, inputActive_placed hlater, hbay] at harrives
  obtain ⟨hfloat, hlevel⟩ := harrives
  refine ⟨hfloat, fun hnew => ?_⟩
  obtain ⟨-, hsame⟩ := vacated_other_float hlater t hnew
  have hbefore : (placed t r a).level b = s.level b := (congrArg (·.records.at_ b) hlvl).trans hsame
  rwa [hbefore] at hlevel

/-- A gauge that has arrived has a stuck deadline where its input is active, and no other deadline where its terminal held it before. -/
theorem terminalSet_gauge {g : Fin 4} (hf : r.function = .gauge g) : (terminalSet t r a).rain.gauges.at_ g = { s.rain.gauges.at_ g with
    stuck := if (s.image.terminals.at_ t).function = .gauge g then false else (s.rain.gauges.at_ g).stuck
    stuckDeadline := if inputActive (terminalSet t r a) t = true ∧ (s.image.gauges.at_ g).enabled = true
      then some { due := a.now + (s.image.gauges.at_ g).stuck, time := (s.image.gauges.at_ g).stuck }
      else if (s.image.terminals.at_ t).function = .gauge g then none else (s.rain.gauges.at_ g).stuckDeadline } := by
  obtain ⟨hret, -, hrain, -⟩ := recordTaken_leaves t r (vacated t a)
  obtain ⟨-, hnow, -⟩ := vacated_wiring hlater t
  have hdeadline : stuckDeadlineFrom (placed t r a) g
      = { due := a.now + (s.image.gauges.at_ g).stuck, time := (s.image.gauges.at_ g).stuck } := by
    have hsecond : (placed t r a).now = a.now := (congrArg Retained.seconds hret).trans hnow
    rw [stuckDeadlineFrom, hsecond, placed_image hlater]
  have hgauge : (placed t r a).image.gauges = s.image.gauges := by rw [placed_image hlater]
  have harrives := functionArrives_gauge t g (placed t r a)
  rw [← hf, ← terminalSet_eq, inputActive_placed hlater, hdeadline, hgauge, placed, hrain] at harrives
  by_cases hold : (s.image.terminals.at_ t).function = .gauge g
  · rw [harrives, vacated_gauge hlater t hold, if_pos hold, if_pos hold]
  · rw [harrives, vacated_other_gauge hlater t hold, if_neg hold, if_neg hold]

/-- Works-stop that has arrived at an active input holds or closes every order. -/
theorem order_terminalSet_worksStop (hf : r.function = .worksStop) (hactive : inputActive (terminalSet t r a) t = true) {b : Fin 8} {o : Order}
    (ho : (terminalSet t r a).order b = some o) :
    o.holds.worksStop = true ∧ (o.state = .held ∨ o.state = .closing ∨ o.state = .suspect) := by
  rw [← inputActive_placed hlater] at hactive
  rw [terminalSet_eq, hf] at ho
  exact order_functionArrives_worksStop hactive ho

/-- Works-stop that was asserted and has departed holds no order, whatever has arrived. -/
theorem stopFree_terminalSet (hold : (s.image.terminals.at_ t).function = .worksStop) (hf : r.function ≠ .worksStop)
    (hstop : a.term.worksStop = true) : StopFree (terminalSet t r a) := by
  obtain ⟨-, -, -, hdrn, -, hkeeps⟩ := recordTaken_leaves t r (vacated t a)
  have hfree := stopFree_vacated hlater t hold hstop
  have hplaced : StopFree (placed t r a) := ⟨hkeeps.trans hfree.term, fun b o ho => hfree.orders b o (by rwa [State.order, ← hdrn])⟩
  rw [terminalSet_eq]
  exact stopFree_functionArrives hplaced t hf

/-- An input that has taken its record has its raw level at once (R178). -/
theorem debounced_terminalSet_self (h : ∀ l, r.function ≠ .alarm l) :
    (terminalSet t r a).term.debounced.getLsbD t.val = a.term.pins.getLsbD t.val := by
  obtain ⟨-, -, hdebounced, -⟩ := terminalSet_wiring hlater t r
  obtain ⟨-, -, -, hterm⟩ := vacated_wiring hlater t
  rw [hdebounced, placed, debounced_recordTaken_self h, hterm]

theorem debounced_terminalSet_other {x : Fin 12} (h : x ≠ t) :
    (terminalSet t r a).term.debounced.getLsbD x.val = a.term.debounced.getLsbD x.val := by
  obtain ⟨-, -, hdebounced, -⟩ := terminalSet_wiring hlater t r
  obtain ⟨-, -, -, hterm⟩ := vacated_wiring hlater t
  rw [hdebounced, placed, debounced_recordTaken_other h, hterm]

/-- A float that has given its terminal to another function is as its departure left it. -/
theorem terminalSet_float_left {b : Fin 8} (hold : (s.image.terminals.at_ t).function = .float b)
    (hne : r.function ≠ (s.image.terminals.at_ t).function) : (terminalSet t r a).lvl.floats.at_ b = .absent
    ∧ ((terminalSet t r a).level b).value = (s.level b).value
    ∧ ((terminalSet t r a).level b).quality
      = if s.lvl.floats.at_ b = .active ∧ (s.bay b).enabled = true ∧ (s.level b).quality = .float then .stale else (s.level b).quality := by
  rw [hold] at hne
  obtain ⟨hfloats, hlevel⟩ := terminalSet_other_float hne t a
  rw [hfloats, hlevel]
  exact vacated_float hlater t hold

/-- A gauge that has given its terminal to another function is as its departure left it. -/
theorem terminalSet_gauge_left {g : Fin 4} (hold : (s.image.terminals.at_ t).function = .gauge g)
    (hne : r.function ≠ (s.image.terminals.at_ t).function) :
    (terminalSet t r a).rain.gauges.at_ g = { s.rain.gauges.at_ g with stuck := false, stuckDeadline := none } := by
  rw [hold] at hne
  exact (terminalSet_other_gauge hne t a).trans (vacated_gauge hlater t hold)

end Arrived

/-- Settles O34: the two refusals, and a lemma for each function that departs or arrives. -/
theorem setTerminalTakesTheFunction : Obligations.SetTerminalTakesTheFunction := by
  intro m q f s hfree a
  have hlater : LaterOf s a := laterOf_arrive m s
  have haterm : a.term = { s.term with pins := m.pins } := by simp [a]
  have hrefused (hr : handleSetTerminal (.fields f) a = refuse .refusedRange a) :
      exec (.setTerminal m q (.fields f)) s = .next (answered q 0xC8#8 .refusedRange .empty a) :=
    hostRequest_refused (r := .setTerminal (.fields f)) hfree hr (by decide) (by decide)
  refine ⟨fun hout => hrefused (handleSetTerminal_outside hout a), fun t fn p ht hfn hp => ?_⟩
  have hhandle := handleSetTerminal_of_terminal ht hfn hp a
  rw [functionHeld_arrive] at hhandle
  intro old
  refine ⟨fun hheld => hrefused (by rw [hhandle, if_pos hheld]), fun hfit => ?_⟩
  rw [if_neg (ne_true_of_eq_false hfit)] at hhandle
  let r : TerminalRec := { function := fn, polarity := p }
  obtain ⟨himage, hcold, -, hstop⟩ := terminalSet_wiring hlater t r
  have hfloat (b : Fin 8) (h : fn = .float b) := terminalSet_float hlater t r h
  have hgauge (g : Fin 4) (h : fn = .gauge g) := terminalSet_gauge hlater t r h
  have hself (h : ∀ l, fn ≠ .alarm l) := debounced_terminalSet_self hlater t r h
  have hother (x : Fin 12) (h : x ≠ t) := debounced_terminalSet_other hlater t r h
  have hfloatLeft (b : Fin 8) (hold : old = .float b) (hne : fn ≠ old) := terminalSet_float_left hlater t r hold hne
  have hgaugeLeft (g : Fin 4) (hold : old = .gauge g) (hne : fn ≠ old) := terminalSet_gauge_left hlater t r hold hne
  have horders (h : fn = .worksStop) (hactive : inputActive (terminalSet t r a) t = true) (b : Fin 8) (o : Order) :=
    order_terminalSet_worksStop hlater t r h hactive (b := b) (o := o)
  have hfreed (hold : old = .worksStop) (hne : fn ≠ old) (hasserted : s.term.worksStop = true) : StopFree (terminalSet t r a) :=
    stopFree_terminalSet hlater t r hold (hold ▸ hne) (by rw [haterm]; exact hasserted)
  simp only [haterm] at hstop hself hother
  refine ⟨_, hostRequest_ok (r := .setTerminal (.fields f)) hfree hhandle rfl rfl, replies_answered .., ?_⟩
  generalize terminalSet t r a = y at *
  refine ⟨?record, ?records, hcold, hself, hother, ?float, ?gauge, ?asserted, ?released, hfloatLeft, hgaugeLeft, ?departed, ?unconcerned⟩
  case record =>
    change y.image.terminals.at_ t = r
    rw [himage]
    exact (Tab.at_put ..).trans (if_pos rfl)
  case records =>
    intro x hx
    change y.image.terminals.at_ x = _
    rw [himage]
    exact (Tab.at_put ..).trans (if_neg hx.symm)
  case float =>
    intro b hb
    obtain ⟨hstate, hlevel⟩ := hfloat b hb
    exact ⟨hstate, fun hnew => hlevel (hb ▸ hnew)⟩
  case gauge =>
    intro g hg
    subst hg
    exact hgauge g rfl
  case asserted => exact fun hf hactive => ⟨hstop.trans (if_pos ⟨hf, hactive⟩), horders hf hactive⟩
  case released =>
    intro hf hinactive hbefore
    refine hstop.trans ((if_neg fun hand => ne_true_of_eq_false hinactive hand.2).trans ?_)
    rcases hbefore with hold | hclear
    · exact if_pos hold
    · rw [hclear, ite_self]
  case departed =>
    intro hold hne
    exact ⟨hstop.trans ((if_neg fun hand => hne (hand.1.trans hold.symm)).trans (if_pos hold)),
      fun hasserted => (hfreed hold hne hasserted).orders⟩
  case unconcerned =>
    exact fun hold hf => hstop.trans ((if_neg fun hand => hf hand.1).trans (if_neg hold))

end Sys2Proof.Machine

/-! PROOF. What a command leaves alone, and a part that does not run (R186, R187). -/

namespace Sys2Proof.Machine

/-! ### Commands that take effect while the part runs (R187) -/

/-- A power event takes effect also while the part does not run. -/
def PowerEvent : Instr → Prop
  | .mainPowerFail _ | .backupSupplyLoss _ | .start _ | .backupSupplyReturn _ => True
  | _ => False

/-- A command takes effect while the part runs, and its effect leaves the fixed part alone. -/
def NeedsRun (c : Instr) : Prop :=
  ∃ f : State → State, (∀ u, fixed (f u) = fixed u) ∧ ∀ s, exec c s = whileRunning c.moment f s

theorem needsRun_hostRequest {c : Instr} {q : Byte} {r : Request} (h : ∀ s, exec c s = hostRequest c.moment q r s) : NeedsRun c :=
  ⟨offer { seq := q, request := r }, fixed_offer _, h⟩

theorem fixed_inPhase {f : InFlight → State → State} (hf : ∀ x u, fixed (f x u) = fixed u) (p : EngineState) (u : State) :
    fixed (inPhase p f u) = fixed u := by
  unfold inPhase
  split
  · split
    · exact hf _ u
    · rfl
  · rfl

theorem needsRun_inPhase {c : Instr} {p : EngineState} {f : InFlight → State → State} (hf : ∀ x u, fixed (f x u) = fixed u)
    (h : ∀ s, exec c s = whileRunning c.moment (inPhase p f) s) : NeedsRun c :=
  ⟨inPhase p f, fixed_inPhase hf p, h⟩

/-- Every command but the power events needs a part that runs: a host request, an event of a phase of the engine, or another event. -/
theorem needsRun_of_not_powerEvent {c : Instr} (h : ¬ PowerEvent c) : NeedsRun c := by
  cases c
  case mainPowerFail m => exact absurd trivial h
  case backupSupplyLoss m => exact absurd trivial h
  case start e => exact absurd trivial h
  case backupSupplyReturn m => exact absurd trivial h
  case hostFrameComplete m bytes => exact ⟨receiveBytes bytes, fixed_receiveBytes bytes, fun _ => rfl⟩
  case hostLengthOver240 m bytes => exact ⟨receiveBytes bytes, fixed_receiveBytes bytes, fun _ => rfl⟩
  case hostFrameGap m bytes ending =>
    exact ⟨fun u => receiveByte (discardPartial (receiveBytes bytes u)) ending, fun _ => by simp, fun _ => rfl⟩
  case hostLineBreak m bytes => exact ⟨fun u => discardPartial (receiveBytes bytes u), fun _ => by simp, fun _ => rfl⟩
  case replySent m => exact ⟨replySent, fixed_replySent, fun _ => rfl⟩
  case soundingDue m b => exact ⟨dueReached b, fixed_dueReached b, fun _ => rfl⟩
  case soundingBackoffPassed m b => exact ⟨backoffPassed b, fixed_backoffPassed b, fun _ => rfl⟩
  case supplyReady m => exact ⟨supplyReports, fixed_supplyReports, fun _ => rfl⟩
  case chargeDeadlineExpired m => exact needsRun_inPhase (fun _ _ => by simp) fun _ => rfl
  case driveStuck m => exact needsRun_inPhase (fun _ _ => by simp) fun _ => rfl
  case burstEnd m n => exact needsRun_inPhase (fixed_burstEnds n) fun _ => rfl
  case echoCrossing m tof => exact needsRun_inPhase (fun _ _ => by simp) fun _ => rfl
  case listenWindowEnd m => exact needsRun_inPhase (fun _ _ => by simp) fun _ => rfl
  case soundingGateComplete m n => exact needsRun_inPhase (fixed_gateCompletes n) fun _ => rfl
  case soundingGateTimeout m => exact needsRun_inPhase fixed_gateFailed fun _ => rfl
  case tailDeadline m k => exact ⟨tailDeadlineReached k, fixed_tailDeadlineReached k, fun _ => rfl⟩
  case blockEndReached m k =>
    exact ⟨fun u => blockEndReached k (reachSecond (u.ret.counts.at_ k).blockEnd u), fun _ => by simp, fun _ => rfl⟩
  case debounceComplete m t => exact ⟨debounced t, fixed_debounced t, fun _ => rfl⟩
  case gaugeStuckDeadline m g => exact ⟨stuckDeadlineReached g, fixed_stuckDeadlineReached g, fun _ => rfl⟩
  case minuteRoll m => exact ⟨fun u => minuteRoll (reachSecond u.rain.nextRoll u), fun _ => by simp, fun _ => rfl⟩
  case forecastSlotStart m i => exact ⟨slotStarts i, fixed_slotStarts i, fun _ => rfl⟩
  case forecastSlotEnd m i => exact ⟨slotEnds i, fixed_slotEnds i, fun _ => rfl⟩
  case grantExpiry m => exact ⟨expiryReached, fixed_expiryReached, fun _ => rfl⟩
  case lotDeadline m b => exact ⟨lotDeadlineReached b, fixed_lotDeadlineReached b, fun _ => rfl⟩
  case actuatorReply m bytes => exact ⟨frameArrives bytes, fixed_frameArrives bytes, fun _ => rfl⟩
  case actuatorResponseTimeout m => exact ⟨responseTimesOut, fixed_responseTimesOut, fun _ => rfl⟩
  case actuatorNakBackoffPassed m d => exact ⟨nakBackoffPassed d, fixed_nakBackoffPassed d, fun _ => rfl⟩
  case devicePollDue m d => exact ⟨pollReached d, fixed_pollReached d, fun _ => rfl⟩
  case movementDeadline m d => exact ⟨movementDeadlineReached d, fixed_movementDeadlineReached d, fun _ => rfl⟩
  all_goals exact needsRun_hostRequest fun _ => rfl

/-! ### A part that does not run (R187, R193) -/

theorem whileRunning_not_running {s : State} (h : s.run ≠ .running) (m : Moment) (f : State → State) :
    whileRunning m f s = .next (arrive m s) := by
  simp [whileRunning, h]

/-- Settles O4: a command that needs a part that runs finds none, and only its moment comes. -/
theorem stoppedPartOnlyAges : Obligations.StoppedPartOnlyAges := by
  intro c s hrun hfail hloss hstart hreturn
  have hpower : ¬ PowerEvent c := fun h => by
    cases c
    case mainPowerFail m => exact hfail m rfl
    case backupSupplyLoss m => exact hloss m rfl
    case start e => exact hstart e rfl
    case backupSupplyReturn m => exact hreturn m rfl
    all_goals exact h
  obtain ⟨f, -, hexec⟩ := needsRun_of_not_powerEvent hpower
  rw [hexec, whileRunning_not_running hrun]

/-! ### The waiting commands, the pins and the backup supply (R186) -/

/-- A command leaves the waiting commands alone, and the pins and the backup supply at given values. -/
def LeavesFixed (c : Instr) (backup : Bool) (s t : State) : Prop :=
  t.pending = s.pending ∧ t.term.pins = c.moment.pins ∧ t.backup = backup

theorem leavesFixed_of_fixed {c : Instr} {s t : State} (h : fixed t = { fixed s with pins := c.moment.pins }) : LeavesFixed c s.backup s t := by
  obtain ⟨hpending, hbackup, hpins⟩ := Fixed.mk.inj h
  exact ⟨hpending, hpins, hbackup⟩

/-- A command that needs a part that runs leaves the backup supply as it is. -/
theorem leavesFixed_of_needsRun {c : Instr} (hc : NeedsRun c) {s t : State} (h : exec c s = .next t) : LeavesFixed c s.backup s t := by
  obtain ⟨f, hf, hexec⟩ := hc
  exact leavesFixed_of_fixed (fixed_whileRunning c.moment f s t hf (hexec s ▸ h))

/-- The fall of the backup supply touches the retention domain's check at most (R186). -/
theorem backupFalls_fields (s : State) : (backupFalls s).pending = s.pending ∧ (backupFalls s).term = s.term ∧ (backupFalls s).backup = false := by
  unfold backupFalls
  dsimp only
  split <;> exact ⟨rfl, rfl, rfl⟩

/-- Settles O3: the power events one by one, and any other command by its effect, which leaves the fixed part alone. -/
theorem commandsLeaveTheQueue : Obligations.CommandsLeaveTheQueue := by
  intro c s t h
  cases c
  case mainPowerFail m =>
    cases h
    exact leavesFixed_of_fixed ((fixed_mainFalls _).trans (fixed_arrive m s))
  case backupSupplyLoss m =>
    cases h
    obtain ⟨hpending, hterm, hbackup⟩ := backupFalls_fields (arrive m s)
    exact ⟨by simp [hpending], by simp [hterm]; rfl, hbackup⟩
  case start e =>
    cases h
    exact leavesFixed_of_fixed ((fixed_startWhereDue _ _).trans (fixed_arrive e.moment s))
  case backupSupplyReturn m =>
    cases h
    exact ⟨by simp, by simp; rfl, rfl⟩
  all_goals exact leavesFixed_of_needsRun (needsRun_of_not_powerEvent id) h

end Sys2Proof.Machine

/-! PROOF. The part after reset (R190, R191, R203). -/

namespace Sys2Proof.Machine

/-! ### The records and the states of the blocks -/

theorem bay_reset (b : Fin 8) : State.reset.bay b = BayRec.cold := Tab.at_all b _
theorem level_reset (b : Fin 8) : State.reset.level b = LevelRecord.blank := Tab.at_all b _
theorem order_reset (b : Fin 8) : State.reset.order b = none := Tab.at_all b _
theorem outfall_reset (k : Fin 4) : State.reset.outfall k = OutfallRec.cold := Tab.at_all k _
theorem device_reset (d : Fin 16) : State.reset.device d = DeviceVol.start := Tab.at_all d _
theorem last_reset (d : Fin 16) : State.reset.last d = none := Tab.at_all d _
theorem deviceRec_reset (d : Fin 16) : State.reset.image.devices.at_ d = none := Tab.at_all d _
theorem alarm_reset (l : Fin 4) : State.reset.image.alarms.at_ l = { condition := .off, level := 0, grouping := .site, mask := 0 } := Tab.at_all l _
theorem ruleVol_reset (r : Fin 8) : State.reset.rain.rules.at_ r = { state := .disarmed, holdUntil := none } := Tab.at_all r _

/-- Settles O5: the tables hold one value in all their places, and the other fields are written out in the state after reset. -/
theorem resetHoldsColdStartValues : Obligations.ResetHoldsColdStartValues := by
  refine ⟨fun b => ?bays, fun k => ?outfalls, fun g => ?gauges, fun r => ?rules, fun i => ?slots, rfl, fun d => ?devices,
    fun t => ?terminals, fun l => ?alarms, rfl, rfl, rfl, rfl, rfl, rfl, ⟨rfl, rfl, rfl, rfl, rfl, rfl, rfl, rfl⟩, rfl, rfl, rfl, rfl,
    ⟨rfl, rfl, rfl, rfl, rfl⟩, ⟨rfl, rfl, rfl⟩, rfl, rfl, rfl, ⟨rfl, rfl, rfl, rfl, rfl, rfl, rfl⟩⟩
  case bays =>
    rw [bay_reset]
    exact ⟨⟨rfl, rfl, rfl, rfl, rfl⟩, level_reset b, Tab.at_all b _, Tab.at_all b _, Tab.at_all b _, order_reset b, Tab.at_all b _⟩
  case outfalls => exact ⟨outfall_reset k, Tab.at_all k _, Tab.at_all k _, Tab.at_all k _⟩
  case gauges => exact ⟨Tab.at_all g _, Tab.at_all g _⟩
  case rules => exact ⟨congrArg RuleRec.level (Tab.at_all r RuleRec.disarmed), ruleVol_reset r⟩
  case slots => exact Tab.at_all i _
  case devices => exact ⟨deviceRec_reset d, device_reset d, last_reset d⟩
  case terminals => exact Tab.at_all t _
  case alarms =>
    rw [alarm_reset]
    exact ⟨rfl, rfl, rfl, Tab.at_all l _⟩

/-! ### The invariants -/

theorem inv_reset : State.reset.Inv where
  port := ⟨by decide, by decide⟩
  log := ⟨Nat.zero_le _, .nil, fun _ _ e he => absurd he List.not_mem_nil⟩
  grants := ⟨Nat.zero_le _, .nil, fun _ hg => absurd hg List.not_mem_nil⟩
  credits := fun _ => rfl
  sounding := List.nodup_nil
  line := fun _ => ⟨Nat.zero_le _, Nat.zero_le _⟩
  slots := by
    unfold slotsWf
    rw [slotHolders_start State.reset rfl]
    exact Nat.zero_le _
  receive := fun _ hslot => absurd hslot (by decide)

/-- After reset every alarm line has the condition OFF, which no bay meets (R181, R190). -/
theorem alarmsFollow_reset : AlarmsFollow State.reset := by
  intro _ l
  have hmeeting : meeting State.reset l = [] := by
    rw [meeting, alarm_reset]
    exact List.filter_eq_nil_iff.mpr fun _ _ => Bool.false_ne_true
  rw [lineCondition, hmeeting, alarm_reset]
  exact Tab.at_all l _

theorem alertFollows_reset : AlertFollows State.reset :=
  (alertFromSources_none (fun r => .inl (congrArg RuleVol.state (ruleVol_reset r))) rfl).symm

/-- After reset no bay is enabled and no device is configured (R190). -/
theorem recordsInRange_reset : RecordsInRange State.reset := by
  refine ⟨fun b henabled => ?_, fun d r hdevice => ?_⟩
  · rw [bay_reset] at henabled
    exact absurd henabled Bool.false_ne_true
  · rw [deviceRec_reset] at hdevice
    exact absurd hdevice (by simp)

/-- Settles O6: the collections are empty but for the one notice, no line has a condition, the alert level has no source, and no record is in use. -/
theorem invariantsHoldAtReset : Obligations.InvariantsHoldAtReset :=
  ⟨inv_reset, alarmsFollow_reset, alertFollows_reset, recordsInRange_reset⟩

end Sys2Proof.Machine

/-! PROOF. GET_CLOCK and SET_CLOCK (R111, R188, R189). -/

namespace Sys2Proof.Machine

/-- Settles O19: the report is made of the clock's figures in the state that the request finds. -/
theorem getClockReports : Obligations.GetClockReports :=
  fun _ _ s hfree => hostRequest_ok (r := .getClock (.fields ())) (body := .clock (clockReport (arrive _ s))) hfree rfl rfl rfl

/-- The clock with a new offset, before the records are rewritten (R188). -/
def clockAt (time : Nat) (s : State) : State := s.withRet { s.ret with offset := time - s.now, clockSet := true }

theorem setOffset_of_set {s : State} (h : s.ret.clockSet = true) (time : Nat) : setOffset time s = clockAt time s := if_pos h

/-- The first setting of the clock rewrites the records, which carry their times as they were before it (R111). -/
theorem setOffset_of_unset {s : State} (h : s.ret.clockSet = false) (time : Nat) : setOffset time s = rewriteRecords (clockAt time s) :=
  if_neg (by rw [h]; decide)

/-- SET_CLOCK is refused with a time of 0 and with one before the retention seconds, and sets the offset otherwise (R188). -/
theorem handleSetClock_fields (time : Nat) (s : State) : handleSetClock (.fields time) s =
    if time = 0 ∨ time < s.now then refuse .refusedRange s
    else answerOk (.clockSet (stampOf s s.now) (!s.ret.clockSet)) (setOffset time s) := by
  simp [handleSetClock]

/-- Settles O24: a time in range sets the offset, and at the first setting rewrites the records; any other time is refused. -/
theorem setClockSetsTheOffset : Obligations.SetClockSetsTheOffset := by
  intro m q time s hfree a set late
  have hset : a.ret.clockSet = s.ret.clockSet := by simp [a]
  have hlog : a.ret.log = s.ret.log := by simp [a]
  have hslots : a.ret.slots = s.ret.slots := by simp [a]
  refine ⟨fun hzero hpast => ⟨setOffset time a, ?answer, fun h => ?later, fun h => ?first⟩, fun hrefused => ?refused⟩
  case answer =>
    rw [← hset]
    exact hostRequest_ok (r := .setClock (.fields time)) hfree
      ((handleSetClock_fields time a).trans (if_neg (not_or.mpr ⟨hzero, Nat.not_lt.mpr hpast⟩))) rfl rfl
  case later => exact setOffset_of_set (hset.trans h) time
  case first =>
    rw [← hlog, ← hslots]
    exact setOffset_of_unset (hset.trans h) time
  case refused =>
    exact hostRequest_refused (r := .setClock (.fields time)) hfree ((handleSetClock_fields time a).trans (if_pos hrefused))
      (by decide) (by decide)

end Sys2Proof.Machine

/-! PROOF. The open spills of the retained contents, and what their closes leave (R78, R90, R91, R192). -/

namespace Sys2Proof.Machine

/-! ### The open spills (R192) -/

/-- Tables that hold the same at every index are the same. -/
theorem tab_ext {n : Nat} {α : Type} {v w : Tab n α} (h : ∀ i, v.at_ i = w.at_ i) : v = w :=
  Vector.ext fun i hi => h ⟨i, hi⟩

/-- An outfall without an open spill has no open record in the log, and none in its slot. -/
theorem openSpillOf_eq_none {s : State} {k : Fin 4} : openSpillOf s k = none ↔
    (∀ e ∈ s.ret.log, e.record.outfall = k → e.record.openSpill = none) ∧ ∀ r, s.ret.slots.at_ k = some r → r.openSpill = none := by
  unfold openSpillOf openRecord
  constructor
  · intro h
    cases hfind : s.ret.log.find? fun e => e.record.isOpenOf k with
    | some e =>
      obtain ⟨-, hopen⟩ := (isOpenOf_iff k e.record).mp (List.find?_some (p := fun e : LogEntry => e.record.isOpenOf k) hfind)
      simp only [hfind] at h
      simp [h] at hopen
    | none =>
      refine ⟨fun e he hk => ?_, fun r hr => ?_⟩
      · have hnot : e.record.isOpenOf k = false := by simpa using List.find?_eq_none.mp hfind e he
        simpa [SpillRecord.isOpenOf, SpillRecord.isOpen, hk] using hnot
      · cases ho : r.openSpill with
        | none => rfl
        | some o => simp [hfind, hr, SpillRecord.isOpen, ho] at h
  · intro ⟨hlog, hslot⟩
    have hfind : s.ret.log.find? (fun e => e.record.isOpenOf k) = none := by
      refine List.find?_eq_none.mpr fun e he hopen => ?_
      obtain ⟨hk, hsome⟩ := (isOpenOf_iff k e.record).mp hopen
      simp [hlog e he hk] at hsome
    rw [hfind]
    cases hr : s.ret.slots.at_ k with
    | none => rfl
    | some r => simp [SpillRecord.isOpen, hslot r hr]

/-- An outfall has an open record exactly while it has an open spill. -/
theorem openRecord_eq_none {s : State} {k : Fin 4} : openRecord s k = none ↔ openSpillOf s k = none := by
  constructor
  · intro h
    rw [openSpillOf_eq_bind, h]
    rfl
  · intro h
    obtain ⟨hlog, hslot⟩ := openSpillOf_eq_none.mp h
    rw [openRecord_of_noneOpen fun e he => ?_]
    · cases hr : s.ret.slots.at_ k with
      | none => rfl
      | some r => simp [SpillRecord.isOpen, hslot r hr]
    · by_cases hk : e.record.outfall = k
      · simp [SpillRecord.isOpenOf, SpillRecord.isOpen, hlog e he hk]
      · simp [SpillRecord.isOpenOf, hk]

/-- Of things that are each named by their own index, the first of one name is that of its index. -/
theorem find?_filterMap_index {n : Nat} {α : Type} {g : Fin n → Option (Fin n × α)} (hg : ∀ j x, g j = some x → x.1 = j) (k : Fin n)
    (l : List (Fin n)) : (l.filterMap g).find? (fun x => x.1 == k) = if k ∈ l then g k else none := by
  induction l with
  | nil => rfl
  | cons j l ih =>
    by_cases hj : j = k
    · subst hj
      cases hgj : g j with
      | none => rw [List.filterMap_cons_none hgj, ih, hgj, ite_self, ite_self]
      | some x => rw [List.filterMap_cons_some hgj, List.find?_cons_of_pos (by simp [hg j x hgj]), if_pos List.mem_cons_self]
    · have hmem : (k ∈ j :: l) = (k ∈ l) := by simp [Ne.symm hj]
      cases hgj : g j with
      | none => rw [List.filterMap_cons_none hgj, ih]; simp only [hmem]
      | some x => rw [List.filterMap_cons_some hgj, List.find?_cons_of_neg (by simp [hg j x hgj, hj]), ih]; simp only [hmem]

/-- The first of the open spills that an outfall has is that of its open record. -/
theorem find?_openSpills (s : State) (k : Fin 4) :
    (openSpills s).find? (fun x => x.1 == k) = (openSpillOf s k).map fun o => (k, openId s k, o) := by
  have hopen : (fun e : LogEntry => (e.record.openSpill.map fun o => (e.record.outfall, some e.id, o)).any fun x => x.1 == k)
      = fun e => e.record.isOpenOf k := by
    funext e
    cases ho : e.record.openSpill <;> simp [SpillRecord.isOpenOf, SpillRecord.isOpen, ho]
  rw [openSpills, List.find?_append, List.find?_filterMap, hopen, find?_filterMap_index, if_pos (List.mem_finRange k)]
  · unfold openSpillOf openId openRecord
    cases hfind : s.ret.log.find? fun e => e.record.isOpenOf k with
    | some e =>
      obtain ⟨hk, hsome⟩ := (isOpenOf_iff k e.record).mp (List.find?_some (p := fun e : LogEntry => e.record.isOpenOf k) hfind)
      obtain ⟨o, ho⟩ := Option.isSome_iff_exists.mp hsome
      simp [hk, ho]
    | none =>
      cases hr : s.ret.slots.at_ k with
      | none => simp
      | some r => cases ho : r.openSpill <;> simp [SpillRecord.isOpen, ho]
  · intro j x hx
    cases hr : s.ret.slots.at_ j with
    | none => simp [hr] at hx
    | some r =>
      obtain ⟨o, -, rfl⟩ : ∃ o, r.openSpill = some o ∧ (j, none, o) = x := by simpa [hr] using hx
      rfl

/-- The open records of the log come first, and then the slots that hold open aggregates (R192). -/
theorem openOutfalls_eq_append (s : State) :
    openOutfalls s = (s.ret.log.filter fun e => e.record.openSpill.isSome).map (fun e => e.record.outfall)
      ++ (List.finRange 4).filter fun k => (s.ret.slots.at_ k).any fun r => r.openSpill.isSome := by
  unfold openOutfalls
  congr 1
  refine (List.filter_congr fun k _ => ?_).trans (congrArg _ (show allOutfalls = List.finRange 4 by decide))
  cases s.ret.slots.at_ k <;> rfl

/-- The outfalls whose spills a start closes are those of the open spills, in their order. -/
theorem openOutfalls_eq_map (s : State) : openOutfalls s = (openSpills s).map fun x => x.1 := by
  rw [openOutfalls_eq_append, openSpills, List.map_append, List.map_filterMap, List.map_filterMap]
  congr 1
  · rw [← List.filterMap_eq_map, List.filterMap_filter]
    refine List.filterMap_congr fun e _ => ?_
    cases e.record.openSpill <;> rfl
  · rw [← List.filterMap_eq_filter]
    refine List.filterMap_congr fun k _ => ?_
    cases hr : s.ret.slots.at_ k with
    | none => simp [Option.guard, hr]
    | some r => cases ho : r.openSpill <;> simp [Option.guard, hr, ho]

theorem mem_openOutfalls {s : State} {k : Fin 4} : k ∈ openOutfalls s ↔ openSpillOf s k ≠ none := by
  have hfind := find?_openSpills s k
  rw [openOutfalls_eq_map, List.mem_map]
  constructor
  · rintro ⟨x, hx, rfl⟩ hnone
    rw [hnone, Option.map_none, List.find?_eq_none] at hfind
    exact hfind x hx (beq_self_eq_true _)
  · intro hopen
    obtain ⟨o, ho⟩ := Option.ne_none_iff_exists'.mp hopen
    rw [ho, Option.map_some] at hfind
    exact ⟨_, List.mem_of_find?_eq_some hfind, rfl⟩

end Sys2Proof.Machine

/-! PROOF. The closes of a start, one after another, and the transfers after them (R90, R91, R104, R107, R108, R192). -/

namespace Sys2Proof.Machine

/-! ### The retained contents after the closes of some outfalls -/

/-- A record without an open spill is left alone by a close. -/
theorem spillClosed_of_closed {r : SpillRecord} (h : r.openSpill = none) (s : State) (finish : Nat) (cause : EndCause) :
    spillClosed s finish cause r = r := by
  simp only [spillClosed, h]

theorem openSpill_spillClosed (s : State) (finish : Nat) (cause : EndCause) (r : SpillRecord) :
    (spillClosed s finish cause r).openSpill = none := by
  unfold spillClosed
  split
  · rfl
  · next h => exact h

theorem outfall_spillClosed (s : State) (finish : Nat) (cause : EndCause) (r : SpillRecord) :
    (spillClosed s finish cause r).outfall = r.outfall := by
  unfold spillClosed
  split <;> rfl

/-- The counts of an outfall after a start has closed its open spill, where it has one (R90, R91). -/
def countsClosed (finish : Nat) (s : State) (k : Fin 4) : OutfallCounts :=
  match openSpillOf s k with
  | some o => periodCredited finish o (s.ret.counts.at_ k)
  | none => s.ret.counts.at_ k

/-- An entry of the log after a start has closed the open spills of some outfalls. -/
def entryClosed (finish : Nat) (cause : EndCause) (ks : List (Fin 4)) (s : State) (e : LogEntry) : LogEntry :=
  if e.record.outfall ∈ ks then { e with record := spillClosed s finish cause e.record } else e

theorem outfall_entryClosed (finish : Nat) (cause : EndCause) (ks : List (Fin 4)) (s : State) (e : LogEntry) :
    (entryClosed finish cause ks s e).record.outfall = e.record.outfall := by
  unfold entryClosed
  split
  · exact outfall_spillClosed ..
  · rfl

theorem entryClosed_of_closed {e : LogEntry} (h : e.record.openSpill = none) (finish : Nat) (cause : EndCause) (ks : List (Fin 4))
    (s : State) : entryClosed finish cause ks s e = e := by
  unfold entryClosed
  rw [spillClosed_of_closed h, ite_self]

/-- A slot after a start has closed the open spills of some outfalls. -/
def slotClosed (finish : Nat) (cause : EndCause) (ks : List (Fin 4)) (s : State) (k : Fin 4) : Option SpillRecord :=
  if k ∈ ks then (s.ret.slots.at_ k).map (spillClosed s finish cause) else s.ret.slots.at_ k

/-- The retained contents after a start has closed the open spills of some outfalls, with one end time and one end cause (R192). -/
def retClosed (finish : Nat) (cause : EndCause) (ks : List (Fin 4)) (s : State) : Retained :=
  { s.ret with
    log := s.ret.log.map (entryClosed finish cause ks s)
    slots := Vector.ofFn (slotClosed finish cause ks s)
    counts := Vector.ofFn fun k => if k ∈ ks then countsClosed finish s k else s.ret.counts.at_ k }

theorem retClosed_congr {s t : State} (h : t.ret = s.ret) (finish : Nat) (cause : EndCause) (ks : List (Fin 4)) :
    retClosed finish cause ks t = retClosed finish cause ks s := by
  have hclosed : spillClosed t finish cause = spillClosed s finish cause := spillClosed_congr (by rw [h]) (by rw [h]) finish cause
  have hopen (k : Fin 4) : openSpillOf t k = openSpillOf s k := openSpillOf_congr (by rw [h]) (by rw [h])
  have hcounts : countsClosed finish t = countsClosed finish s := by
    funext k
    simp only [countsClosed, hopen, h]
  have hslots : slotClosed finish cause ks t = slotClosed finish cause ks s := by
    funext k
    simp only [slotClosed, hclosed, h]
  have hlog : entryClosed finish cause ks t = entryClosed finish cause ks s := by
    funext e
    simp only [entryClosed, hclosed]
  simp only [retClosed, hlog, hcounts, hslots, h]

/-- What the closes leave is told by which of the outfalls with an open spill are closed. -/
theorem retClosed_congr_open {s : State} {ks js : List (Fin 4)} (h : ∀ k, openSpillOf s k ≠ none → (k ∈ ks ↔ k ∈ js)) (finish : Nat)
    (cause : EndCause) : retClosed finish cause ks s = retClosed finish cause js s := by
  have hboth (k : Fin 4) : openSpillOf s k = none ∨ (k ∈ ks ↔ k ∈ js) := or_iff_not_imp_left.mpr (h k)
  have hlog : s.ret.log.map (entryClosed finish cause ks s) = s.ret.log.map (entryClosed finish cause js s) := by
    refine List.map_congr_left fun e he => ?_
    rcases hboth e.record.outfall with hnone | hmem
    · have hclosed := (openSpillOf_eq_none.mp hnone).1 e he rfl
      rw [entryClosed_of_closed hclosed, entryClosed_of_closed hclosed]
    · simp only [entryClosed, hmem]
  have hslots : slotClosed finish cause ks s = slotClosed finish cause js s := by
    funext k
    rcases hboth k with hnone | hmem
    · have hsame : (s.ret.slots.at_ k).map (spillClosed s finish cause) = s.ret.slots.at_ k := by
        cases hr : s.ret.slots.at_ k with
        | none => rfl
        | some r => exact congrArg some (spillClosed_of_closed ((openSpillOf_eq_none.mp hnone).2 r hr) ..)
      simp only [slotClosed, hsame, ite_self]
    · simp only [slotClosed, hmem]
  have hcounts : (Vector.ofFn fun k => if k ∈ ks then countsClosed finish s k else s.ret.counts.at_ k)
      = Vector.ofFn fun k => if k ∈ js then countsClosed finish s k else s.ret.counts.at_ k := by
    refine tab_ext fun k => ?_
    rw [Tab.at_ofFn, Tab.at_ofFn]
    rcases hboth k with hnone | hmem
    · simp only [countsClosed, hnone, ite_self]
    · simp only [hmem]
  simp only [retClosed, hlog, hslots, hcounts]

/-- Without an outfall to close nothing changes. -/
theorem retClosed_nil (finish : Nat) (cause : EndCause) (s : State) : retClosed finish cause [] s = s.ret := by
  have hlog : s.ret.log.map (entryClosed finish cause [] s) = s.ret.log :=
    (List.map_congr_left fun e _ => if_neg List.not_mem_nil).trans (List.map_id _)
  have hslots : Vector.ofFn (slotClosed finish cause [] s) = s.ret.slots := tab_ext fun k => by simp [slotClosed]
  have hcounts : (Vector.ofFn fun k => if k ∈ [] then countsClosed finish s k else s.ret.counts.at_ k) = s.ret.counts :=
    tab_ext fun k => by simp
  simp only [retClosed, hlog, hslots, hcounts]

section Closed
variable {s t : State} {finish : Nat} {cause : EndCause} {ks : List (Fin 4)}

/-- An outfall that is closed has no open record. -/
theorem openRecord_retClosed_of_mem (h : t.ret = retClosed finish cause ks s) {k : Fin 4} (hk : k ∈ ks) : openRecord t k = none := by
  rw [openRecord_eq_none, openSpillOf_eq_none, h]
  refine ⟨fun e he hek => ?_, fun r hr => ?_⟩
  · obtain ⟨x, -, rfl⟩ := List.mem_map.mp he
    rw [outfall_entryClosed] at hek
    rw [entryClosed, if_pos (hek ▸ hk)]
    exact openSpill_spillClosed ..
  · rw [retClosed, Tab.at_ofFn, slotClosed, if_pos hk] at hr
    obtain ⟨x, -, rfl⟩ := Option.map_eq_some_iff.mp hr
    exact openSpill_spillClosed ..

/-- The close of other outfalls leaves the open record of an outfall where it is, and as it is. -/
theorem openRecord_retClosed_of_not_mem (h : t.ret = retClosed finish cause ks s) {k : Fin 4} (hk : k ∉ ks) :
    openRecord t k = openRecord s k := by
  have hopen (e : LogEntry) (he : e.record.outfall ∈ ks) : e.record.isOpenOf k = false := by
    refine Bool.eq_false_iff.mpr fun hopen => hk ?_
    obtain ⟨rfl, -⟩ := (isOpenOf_iff k e.record).mp hopen
    exact he
  have hsame (e : LogEntry) : (entryClosed finish cause ks s e).record.isOpenOf k = e.record.isOpenOf k := by
    by_cases he : e.record.outfall ∈ ks
    · rw [hopen e he, hopen _ ((outfall_entryClosed finish cause ks s e).symm ▸ he)]
    · rw [entryClosed, if_neg he]
  have hfind : t.ret.log.find? (fun e => e.record.isOpenOf k) = s.ret.log.find? fun e => e.record.isOpenOf k := by
    rw [h]
    refine (List.find?_map ..).trans ?_
    rw [show (fun e : LogEntry => e.record.isOpenOf k) ∘ entryClosed finish cause ks s = fun e => e.record.isOpenOf k from funext hsame]
    cases hs : s.ret.log.find? fun e => e.record.isOpenOf k with
    | none => rfl
    | some e =>
      have he : e.record.outfall ∉ ks := fun he => by
        have := List.find?_some (p := fun e : LogEntry => e.record.isOpenOf k) hs
        exact Bool.false_ne_true ((hopen e he).symm.trans this)
      rw [Option.map_some, entryClosed, if_neg he]
  have hslot : t.ret.slots.at_ k = s.ret.slots.at_ k := by rw [h, retClosed, Tab.at_ofFn, slotClosed, if_neg hk]
  unfold openRecord
  rw [hfind, hslot]

theorem openSpillOf_retClosed (h : t.ret = retClosed finish cause ks s) (k : Fin 4) :
    openSpillOf t k = if k ∈ ks then none else openSpillOf s k := by
  rw [openSpillOf_eq_bind, openSpillOf_eq_bind]
  split
  · next hk => rw [openRecord_retClosed_of_mem h hk]; rfl
  · next hk => rw [openRecord_retClosed_of_not_mem h hk]

/-- The closes of two lists of outfalls, one after the other. -/
theorem retClosed_append (h : t.ret = retClosed finish cause ks s) (js : List (Fin 4)) :
    retClosed finish cause js t = retClosed finish cause (ks ++ js) s := by
  have hclosed : spillClosed t finish cause = spillClosed s finish cause := spillClosed_congr (by rw [h]; rfl) (by rw [h]; rfl) finish cause
  have hlog : t.ret.log.map (entryClosed finish cause js t) = s.ret.log.map (entryClosed finish cause (ks ++ js) s) := by
    rw [h]
    refine (List.map_map ..).trans (List.map_congr_left fun e _ => ?_)
    by_cases hks : e.record.outfall ∈ ks
    · have hopen : (entryClosed finish cause ks s e).record.openSpill = none := by
        rw [entryClosed, if_pos hks]
        exact openSpill_spillClosed ..
      rw [Function.comp_apply, entryClosed_of_closed hopen, entryClosed, if_pos hks, entryClosed, if_pos (List.mem_append_left _ hks)]
    · rw [Function.comp_apply, entryClosed, entryClosed, if_neg hks, hclosed, entryClosed]
      simp only [List.mem_append, hks, false_or]
  have hslots : slotClosed finish cause js t = slotClosed finish cause (ks ++ js) s := by
    funext k
    rw [slotClosed, hclosed, h, retClosed, Tab.at_ofFn, slotClosed, slotClosed]
    by_cases hks : k ∈ ks
    · have htwice (r : SpillRecord) : spillClosed s finish cause (spillClosed s finish cause r) = spillClosed s finish cause r :=
        spillClosed_of_closed (openSpill_spillClosed ..) ..
      simp [hks, Option.map_map, Function.comp_def, htwice]
    · simp [hks]
  have hcounts : (Vector.ofFn fun k => if k ∈ js then countsClosed finish t k else t.ret.counts.at_ k)
      = Vector.ofFn fun k => if k ∈ ks ++ js then countsClosed finish s k else s.ret.counts.at_ k := by
    refine tab_ext fun k => ?_
    rw [Tab.at_ofFn, Tab.at_ofFn, countsClosed, openSpillOf_retClosed h, h, retClosed, Tab.at_ofFn]
    by_cases hks : k ∈ ks
    · simp [hks]
    · simp [hks, countsClosed]
  rw [retClosed, hlog, hslots, hcounts, h]
  rfl

end Closed

/-! ### One close (R90, R192) -/

/-- A close of the start sequence where the outfall has an open spill: its transfer test is made later. -/
theorem closeSpill_atStart {s : State} {k : Fin 4} {o : OpenSpill} (h : openSpillOf s k = some o) (finish : Nat) (cause : EndCause) :
    closeSpill k finish cause true s = postAt finish k.val (.spillEnded (openId s k) cause (min ((finish - o.start) / 60) Config.max16))
      ((closeFigures k finish cause o s).setOutfall k { state := .quiet, remainder := 0 }) := by
  obtain ⟨r, hopen, ho⟩ := openRecord_of_openSpillOf h
  simp only [closeSpill, hopen, ho, Bool.not_true, Bool.and_false, Bool.false_eq_true, if_false]

theorem closeSpill_of_none {s : State} {k : Fin 4} (h : openSpillOf s k = none) (finish : Nat) (cause : EndCause) (atStart : Bool) :
    closeSpill k finish cause atStart s = s := by
  simp only [closeSpill, openRecord_eq_none.mpr h]

/-- The three steps of a close (R90), as the close of one outfall. -/
theorem ret_closeFigures {s : State} {k : Fin 4} {o : OpenSpill} (h : openSpillOf s k = some o) (finish : Nat) (cause : EndCause) :
    (closeFigures k finish cause o s).ret = retClosed finish cause [k] s := by
  have hlog : (closeFigures k finish cause o s).ret.log = s.ret.log.map (entryClosed finish cause [k] s) := by
    rw [log_closeFigures]
    refine List.map_congr_left fun e _ => ?_
    by_cases hk : e.record.outfall = k
    · simp [entryClosed, hk]
    · simp [entryClosed, hk]
  have hslots : (closeFigures k finish cause o s).ret.slots = Vector.ofFn (slotClosed finish cause [k] s) := by
    refine tab_ext fun j => ?_
    rw [closeFigures_eq, (updateOpen_changes ..).2.1, Tab.at_ofFn, slotClosed]
    change (s.ret.slots.at_ j).map _ = _
    cases s.ret.slots.at_ j with
    | none => simp
    | some r =>
      by_cases hj : j = k
      · cases ho : r.openSpill <;> simp [hj, ho, spillClosed_of_closed]
      · simp [hj]
  have hcounts : (closeFigures k finish cause o s).ret.counts
      = Vector.ofFn fun j => if j ∈ [k] then countsClosed finish s j else s.ret.counts.at_ j := by
    refine tab_ext fun j => ?_
    rw [Tab.at_ofFn, closeFigures_eq]
    refine (Tab.at_put ..).trans ?_
    by_cases hj : k = j
    · subst hj
      simp [countsClosed, h]
    · simp [hj, Ne.symm hj]
  rw [retClosed, ← hlog, ← hslots, ← hcounts]
  rfl

/-- What a close of the start sequence leaves of the retained contents. -/
theorem ret_closeSpill_atStart (k : Fin 4) (finish : Nat) (cause : EndCause) (s : State) :
    (closeSpill k finish cause true s).ret = retClosed finish cause [k] s := by
  cases h : openSpillOf s k with
  | none =>
    rw [closeSpill_of_none h, ← retClosed_nil finish cause s]
    refine retClosed_congr_open (fun j hj => ?_) finish cause
    have hjk : j ≠ k := fun hjk => hj (hjk ▸ h)
    simp [hjk]
  | some o =>
    rw [closeSpill_atStart h]
    exact ret_closeFigures h finish cause

/-! ### All closes, one after another (R192) -/

/-- The closes of some outfalls, in their order, before the transfer test. -/
def closedSpills (finish : Nat) (cause : EndCause) (ks : List (Fin 4)) (s : State) : State :=
  ks.foldl (fun u k => closeSpill k finish cause true u) s

theorem ret_closedSpills (finish : Nat) (cause : EndCause) (ks : List (Fin 4)) (s : State) :
    (closedSpills finish cause ks s).ret = retClosed finish cause ks s := by
  induction ks generalizing s with
  | nil => exact (retClosed_nil finish cause s).symm
  | cons k ks ih => exact (ih _).trans (retClosed_append (ret_closeSpill_atStart k finish cause s) ks)

/-- The closes of all open spills leave what Safety.lean says. -/
theorem retClosed_openOutfalls (finish : Nat) (cause : EndCause) (s : State) :
    retClosed finish cause (openOutfalls s) s = allClosed s finish cause := by
  have hall : retClosed finish cause (openOutfalls s) s = retClosed finish cause allOutfalls s :=
    retClosed_congr_open (fun k hk => iff_of_true (mem_openOutfalls.mpr hk) (mem_allOutfalls k)) finish cause
  have hlog : entryClosed finish cause allOutfalls s = fun e => { e with record := spillClosed s finish cause e.record } :=
    funext fun e => if_pos (mem_allOutfalls _)
  have hslots : slotClosed finish cause allOutfalls s = fun k => (s.ret.slots.at_ k).map (spillClosed s finish cause) :=
    funext fun k => if_pos (mem_allOutfalls k)
  have hcounts : (retClosed finish cause allOutfalls s).counts = (allClosed s finish cause).counts := by
    refine tab_ext fun k => ?_
    rw [retClosed, allClosed, Tab.at_ofFn, Tab.at_ofFn, if_pos (mem_allOutfalls k), find?_openSpills, countsClosed]
    cases openSpillOf s k <;> rfl
  calc retClosed finish cause (openOutfalls s) s = retClosed finish cause allOutfalls s := hall
    _ = { s.ret with
          log := s.ret.log.map (entryClosed finish cause allOutfalls s)
          slots := Vector.ofFn (slotClosed finish cause allOutfalls s)
          counts := (retClosed finish cause allOutfalls s).counts } := rfl
    _ = allClosed s finish cause := by
      rw [hlog, hslots, hcounts]
      rfl

/-- The closes post their notices in their order, where no outfall has two open records. -/
theorem port_closedSpills {finish : Nat} {cause : EndCause} {l : List (Fin 4 × Option Nat × OpenSpill)} {s u : State}
    (hdistinct : (l.map fun x => x.1).Nodup) (hopen : ∀ x ∈ l, openSpillOf s x.1 = some x.2.2 ∧ openId s x.1 = x.2.1)
    (hport : u.port = s.port) (hset : u.ret.clockSet = s.ret.clockSet) (hoffset : u.ret.offset = s.ret.offset) :
    (closedSpills finish cause (l.map fun x => x.1) s).port = (l.foldl (fun u x =>
      postAt finish x.1.val (.spillEnded x.2.1 cause (min ((finish - x.2.2.start) / 60) Config.max16)) u) u).port := by
  induction l generalizing s u with
  | nil => exact hport.symm
  | cons x l ih =>
    obtain ⟨hx, hdistinct⟩ := List.nodup_cons.mp hdistinct
    obtain ⟨⟨hspill, hid⟩, hopen⟩ := List.forall_mem_cons.mp hopen
    have hret := ret_closeSpill_atStart x.1 finish cause s
    refine ih hdistinct (fun y hy => ?_) ?_ (hset.trans ?_) (hoffset.trans ?_)
    · have hother : y.1 ∉ [x.1] := fun h => hx (List.mem_map.mpr ⟨y, hy, List.mem_singleton.mp h⟩)
      rw [openSpillOf_eq_bind, openId_eq_bind, openRecord_retClosed_of_not_mem hret hother, ← openSpillOf_eq_bind, ← openId_eq_bind]
      exact hopen y hy
    · dsimp only
      rw [closeSpill_atStart hspill, hid]
      exact port_postAt_congr hport hset hoffset ..
    · rw [hret]; rfl
    · rw [hret]; rfl

/-- The open spills of distinct outfalls are those of the outfalls' open records. -/
theorem openSpills_distinct {s : State} (h : ((openSpills s).map fun x => x.1).Nodup) :
    ∀ x ∈ openSpills s, openSpillOf s x.1 = some x.2.2 ∧ openId s x.1 = x.2.1 := by
  intro x hx
  obtain ⟨y, hy⟩ : ∃ y, (openSpills s).find? (fun y => y.1 == x.1) = some y :=
    Option.isSome_iff_exists.mp (List.find?_isSome.mpr ⟨x, hx, beq_self_eq_true _⟩)
  have hyx : y = x := List.inj_on_of_nodup_map h (List.mem_of_find?_eq_some hy) hx (by simpa using List.find?_some hy)
  rw [find?_openSpills, hyx] at hy
  obtain ⟨o, ho, heq⟩ := Option.map_eq_some_iff.mp hy
  exact ⟨heq ▸ ho, congrArg (fun z => z.2.1) heq⟩

/-! ### The transfers after the closes (R107, R108) -/

/-- A loop of transfers makes some, each of which found room and an id, and went first. -/
theorem transfers_of_transferLoop (fuel n : Nat) (s : State) : ∃ moved, Transfers s moved (transferLoop fuel n s).1 := by
  induction fuel generalizing n s with
  | zero => exact ⟨[], .nil s⟩
  | succ fuel ih =>
    unfold transferLoop
    split
    · exact ⟨[], .nil s⟩
    · next t ht =>
      obtain ⟨id, k, r, hroom, hid, hfirst, rfl⟩ := transferOne_eq_some ht
      obtain ⟨moved, hmoved⟩ := ih (n + 1) (entered id (k, r) s)
      exact ⟨(k, r) :: moved, .cons hroom hid hfirst hmoved⟩

theorem port_post_congr {s t : State} (hret : t.ret = s.ret) (hport : t.port = s.port) (i : Nat) (d : NoticeDetail) :
    (post i d t).port = (post i d s).port := by
  unfold post State.now
  rw [hret]
  exact port_postAt_congr hport (by rw [hret]) (by rw [hret]) ..

/-- What a transfer leaves of the retained contents is told by them, and what it leaves of the port by both. -/
theorem entered_congr {s t : State} (hret : t.ret = s.ret) (id : Nat) (x : Fin 4 × SpillRecord) :
    (entered id x t).ret = (entered id x s).ret ∧ (t.port = s.port → (entered id x t).port = (entered id x s).port) := by
  refine ⟨by rw [ret_entered, ret_entered, hret], fun hport => ?_⟩
  unfold entered enterLog
  dsimp only [State.withRet]
  rw [hret]
  split
  · refine port_post_congr ?_ ?_ _ _
    · rfl
    · exact hport
  · exact hport

/-- Whether a transfer is made, and of which aggregate, is told by the retained contents. -/
theorem transferOne_congr {s t : State} (hret : t.ret = s.ret) : (transferOne s = none ∧ transferOne t = none)
    ∨ ∃ id x, transferOne s = some (entered id x s) ∧ transferOne t = some (entered id x t) := by
  have hfirst : firstClosed t = firstClosed s := by
    unfold firstClosed
    rw [hret]
  unfold transferOne
  rw [hfirst, hret]
  split
  · split
    · next id k r _ _ => exact .inr ⟨id, (k, r), rfl, by rw [entered, hret]⟩
    · exact .inl ⟨rfl, rfl⟩
  · exact .inl ⟨rfl, rfl⟩

theorem transferLoop_congr (fuel n : Nat) {s t : State} (hret : t.ret = s.ret) :
    (transferLoop fuel n t).1.ret = (transferLoop fuel n s).1.ret
      ∧ (t.port = s.port → (transferLoop fuel n t).1.port = (transferLoop fuel n s).1.port) := by
  induction fuel generalizing n s t with
  | zero => exact ⟨hret, id⟩
  | succ fuel ih =>
    unfold transferLoop
    rcases transferOne_congr hret with ⟨hs, ht⟩ | ⟨id, x, hs, ht⟩
    · rw [hs, ht]
      exact ⟨hret, fun hport => hport⟩
    · rw [hs, ht]
      obtain ⟨henteredRet, henteredPort⟩ := entered_congr hret id x
      obtain ⟨hloopRet, hloopPort⟩ := ih (n + 1) henteredRet
      exact ⟨hloopRet, fun hport => hloopPort (henteredPort hport)⟩

section Transferred
variable {s t : State} {moved : List (Fin 4 × SpillRecord)}

/-- Transfers add closed records to the log, and change nothing else of it. -/
theorem Transfers.log_append (h : Transfers s moved t) :
    ∃ added, t.ret.log = s.ret.log ++ added ∧ ∀ e ∈ added, e.record.openSpill = none := by
  induction h with
  | nil => exact ⟨[], (List.append_nil _).symm, by simp⟩
  | @cons s t id x moved _ _ hfirst _ ih =>
    obtain ⟨added, hlog, hadded⟩ := ih
    obtain ⟨⟨-, hclosed⟩, -⟩ := firstClosed_eq_some hfirst
    refine ⟨{ id := id, record := x.2 } :: added, ?_, List.forall_mem_cons.mpr ⟨hclosed, hadded⟩⟩
    rw [hlog, ret_entered, List.append_assoc]
    rfl

/-- Of the retained contents the transfers change the log, the ids and the slots. -/
theorem Transfers.ret (h : Transfers s moved t) :
    t.ret = { s.ret with log := t.ret.log, nextId := t.ret.nextId, slots := t.ret.slots } := by
  induction h with
  | nil => rfl
  | cons _ _ _ _ ih => rw [ih, ret_entered]

/-- A slot that holds no closed aggregate is left alone. -/
theorem Transfers.slot_of_not_closed (h : Transfers s moved t) {k : Fin 4} (hk : ∀ r, ¬ ClosedIn s (k, r)) :
    t.ret.slots.at_ k = s.ret.slots.at_ k := by
  rw [h.slots, if_neg]
  rintro ⟨x, hx, rfl⟩
  exact hk x.2 (h.closedIn x hx)

/-- Transfers open no spill. -/
theorem Transfers.openRecord (h : Transfers s moved t) {k : Fin 4} (hk : openRecord s k = none) : openRecord t k = none := by
  rw [openRecord_eq_none, openSpillOf_eq_none] at hk ⊢
  obtain ⟨hlog, hslot⟩ := hk
  obtain ⟨added, hadded, hclosed⟩ := h.log_append
  refine ⟨fun e he hek => ?_, fun r hr => ?_⟩
  · rw [hadded] at he
    exact (List.mem_append.mp he).elim (hlog e · hek) (hclosed e)
  · rw [h.slots] at hr
    split at hr
    · cases hr
    · exact hslot r hr

end Transferred

end Sys2Proof.Machine

/-! PROOF. The start values: sampled inputs, levels, gauges and rules (R50, R57, R77, R185, R190, R191). -/

namespace Sys2Proof.Machine

/-! ### The retention domain at a start (R190, R191) -/

theorem startCause_eq_cold {s : State} : startCause s = .cold ↔ s.ret.checkGood = false := by
  unfold startCause
  split
  · next h => simp [h]
  · next h => split <;> simp [h]

/-- A cold start returns the retention domain to its defaults (R190). -/
theorem startRetention_of_cold {s : State} (h : startCause s = .cold) : startRetention s
    = ((s.withImage Image.afterCold).withRet Retained.afterCold).withClock { fast := 0, cause := .cold, startSecond := 0 } := by
  rw [startRetention, h]
  rfl

/-- Any other start leaves the retention domain as it is (R191). -/
theorem startRetention_of_not_cold {s : State} (h : startCause s ≠ .cold) :
    startRetention s = s.withClock { fast := 0, cause := startCause s, startSecond := s.now } := by
  simp only [startRetention, if_neg h]

/-- The first step of a start leaves the pins and the backup supply, begins fast time, and holds the cause and the second of the start. -/
theorem startRetention_fields (s : State) : (startRetention s).term = s.term ∧ (startRetention s).backup = s.backup
    ∧ (startRetention s).clock = { fast := 0, cause := startCause s, startSecond := (startRetention s).now } := by
  by_cases h : startCause s = .cold
  · rw [startRetention_of_cold h, h]
    exact ⟨rfl, rfl, rfl⟩
  · rw [startRetention_of_not_cold h]
    exact ⟨rfl, rfl, rfl⟩

/-! ### Inputs are sampled (R185) -/

/-- One terminal is sampled into the levels (R185). -/
def sampleInto (s : State) (v : BitVec 12) (t : Fin 12) : BitVec 12 :=
  match (s.image.terminals.at_ t).function with
  | .alarm _ => v
  | .unused | .float _ | .gauge _ | .worksStop => v ||| (s.term.pins &&& ((1#12) <<< t.val))

theorem sampledLevels_eq_foldl (s : State) : sampledLevels s = allTerminals.foldl (sampleInto s) 0 := rfl

section Sampled
variable {s : State} {p : Fin 12}

/-- The bit of an input is set where its own terminal is sampled high. -/
theorem getLsbD_sampleInto (h : ∀ l, (s.image.terminals.at_ p).function ≠ .alarm l) (v : BitVec 12) (t : Fin 12) :
    (sampleInto s v t).getLsbD p.val = (v.getLsbD p.val || (decide (p = t) && s.term.pins.getLsbD p.val)) := by
  have hbit : ((1#12) <<< t.val).getLsbD p.val = decide (p = t) := by
    clear h
    revert t p
    decide
  have hinput : (v ||| (s.term.pins &&& ((1#12) <<< t.val))).getLsbD p.val
      = (v.getLsbD p.val || (decide (p = t) && s.term.pins.getLsbD p.val)) := by
    rw [BitVec.getLsbD_or, BitVec.getLsbD_and, hbit, Bool.and_comm]
  unfold sampleInto
  cases hf : (s.image.terminals.at_ t).function with
  | alarm l =>
    have hne : p ≠ t := fun heq => h l (heq ▸ hf)
    simp [hne]
  | unused => exact hinput
  | float b => exact hinput
  | gauge g => exact hinput
  | worksStop => exact hinput

/-- The levels that the terminal block has sampled are those at the pins of its inputs. -/
theorem getLsbD_sampledLevels (h : ∀ l, (s.image.terminals.at_ p).function ≠ .alarm l) :
    (sampledLevels s).getLsbD p.val = s.term.pins.getLsbD p.val := by
  have hfold (ts : List (Fin 12)) (v : BitVec 12) : (ts.foldl (sampleInto s) v).getLsbD p.val
      = (v.getLsbD p.val || (decide (p ∈ ts) && s.term.pins.getLsbD p.val)) := by
    induction ts generalizing v with
    | nil => simp
    | cons t ts ih =>
      rw [List.foldl_cons, ih, getLsbD_sampleInto h]
      by_cases hp : p = t <;> cases s.term.pins.getLsbD p.val <;> simp [hp]
  have hall : p ∈ allTerminals := by
    clear h hfold
    revert p
    decide
  rw [sampledLevels_eq_foldl, hfold]
  simp [hall]

end Sampled

/-- The activity of the input that holds a function, as the levels at the pins give it; none where no terminal holds it (R179, R185). -/
def sampledInput (image : Image) (pins : BitVec 12) (f : TerminalFunction) : Option Bool :=
  (allTerminals.find? fun p => (image.terminals.at_ p).function == f).map fun p =>
    if (image.terminals.at_ p).polarity = .activeHigh then pins.getLsbD p.val else !pins.getLsbD p.val

/-- The debounced levels of the inputs are those at some pins. -/
def LevelsSampled (s : State) (pins : BitVec 12) : Prop :=
  ∀ p : Fin 12, (∀ l, (s.image.terminals.at_ p).function ≠ .alarm l) → s.term.debounced.getLsbD p.val = pins.getLsbD p.val

/-- Where the levels are sampled, the input that holds a function is active as the pins give it. -/
theorem inputActive_terminalOf {s : State} {pins : BitVec 12} (h : LevelsSampled s pins) {f : TerminalFunction} (hf : ∀ l, f ≠ .alarm l) :
    (terminalOf s f).map (inputActive s) = sampledInput s.image pins f := by
  unfold terminalOf sampledInput
  refine Option.map_congr fun p hp => ?_
  have hfunction : (s.image.terminals.at_ p).function = f := by simpa using List.find?_some hp
  rw [inputActive_eq, h p fun l => hfunction ▸ hf l]

/-- The terminal block at a start (R185): every input is sampled, and the pins stay. -/
theorem startTerminals_fields (s : State) : (startTerminals s).image = s.image ∧ (startTerminals s).ret = s.ret
    ∧ (startTerminals s).term.pins = s.term.pins ∧ LevelsSampled (startTerminals s) s.term.pins :=
  ⟨rfl, rfl, rfl, fun _ h => getLsbD_sampledLevels h⟩

/-- Works-stop follows its input at a start (R180). -/
theorem worksStop_startTerminals (s : State) :
    (startTerminals s).term.worksStop = true ↔ sampledInput s.image s.term.pins .worksStop = some true := by
  have hactive := inputActive_terminalOf (s := s.withTerm { s.term with debounced := sampledLevels s, lineActive := Tab.all 4 false })
    (fun _ h => getLsbD_sampledLevels h) (f := .worksStop) (fun _ => by simp)
  change _ = sampledInput s.image s.term.pins .worksStop at hactive
  rw [← hactive, startTerminals]
  dsimp only
  cases terminalOf (s.withTerm { s.term with debounced := sampledLevels s, lineActive := Tab.all 4 false }) .worksStop <;> simp

/-! ### Floats and levels (R50, R57) -/

/-- The state of a float by its input (R50, R57). -/
def floatSampled : Option Bool → FloatState
  | some true => .active
  | some false => .released
  | none => .absent

section Levels
variable {s : State} {pins : BitVec 12}

theorem startFloat_eq (h : LevelsSampled s pins) (b : Fin 8) : startFloat s b = floatSampled (sampledInput s.image pins (.float b)) := by
  rw [← inputActive_terminalOf h fun _ => by simp, startFloat]
  cases terminalOf s (.float b) with
  | none => rfl
  | some t => cases hactive : inputActive s t <;> simp [floatSampled, hactive]

theorem floatSampled_eq_active (x : Option Bool) : floatSampled x = .active ↔ x = some true := by
  rcases x with _ | _ | _ <;> decide

/-- A blank record takes FLOAT where the float is active (R51). -/
theorem floatRule_blank {b : Fin 8} {x : Option Bool} (h : s.lvl.floats.at_ b = floatSampled x) : floatRule s b LevelRecord.blank =
    if x = some true then { LevelRecord.blank with value := some (s.bay b).floatHeight, quality := .float } else LevelRecord.blank := by
  have hnone : LevelRecord.blank.quality = .stale ∨ LevelRecord.blank.quality = .none := .inr rfl
  simp only [floatRule, h, floatSampled_eq_active, hnone, and_true]

/-- The level keeper's start values follow the sampled floats (R50, R51, R57). -/
theorem startLevels_lvl (h : LevelsSampled s pins) (b : Fin 8) :
    (startLevels s).lvl.floats.at_ b = floatSampled (sampledInput s.image pins (.float b))
      ∧ (startLevels s).level b = if (s.bay b).enabled = true ∧ sampledInput s.image pins (.float b) = some true
        then { LevelRecord.blank with value := some (s.bay b).floatHeight, quality := .float } else LevelRecord.blank := by
  have hfloats : (startLevels s).lvl.floats.at_ b = floatSampled (sampledInput s.image pins (.float b)) :=
    (Tab.at_ofFn ..).trans (startFloat_eq h b)
  have hrule := floatRule_blank (s := s.withLvl { records := Tab.all 8 LevelRecord.blank, floats := Vector.ofFn (startFloat s) }) hfloats
  refine ⟨hfloats, (Tab.at_ofFn ..).trans ?_⟩
  rw [hrule, ite_and]
  rfl

end Levels

/-! ### The rain watch (R62, R77) -/

/-- The start value of a gauge by its record and its input (R62, R77). -/
theorem startGauge_eq {s : State} {pins : BitVec 12} (h : LevelsSampled s pins) (g : Fin 4) :
    startGauge s g = if (s.image.gauges.at_ g).enabled
      then { stuck := false, history := List.replicate 60 0, minuteStart := s.now, total := 0, lastTip := none
             stuckDeadline := if sampledInput s.image pins (.gauge g) = some true
               then some { due := s.now + (s.image.gauges.at_ g).stuck, time := (s.image.gauges.at_ g).stuck } else none }
      else GaugeVol.blank := by
  have hactive : gaugeInputActive s g = true ↔ sampledInput s.image pins (.gauge g) = some true := by
    rw [← inputActive_terminalOf h fun _ => by simp, gaugeInputActive]
    cases terminalOf s (.gauge g) <;> simp
  simp only [startGauge, hactive, GaugeVol.enabledAt, GaugeVol.blank, Config.buckets, stuckDeadlineFrom]

/-! ### The first three steps of a start (R191) -/

/-- A start as far as its STARTED notice, from what its first step leaves of the retention domain and the clock. -/
def begun (r : State) : State := postStarted (startValues r)

/-- The STARTED notice changes the port alone (R194). -/
theorem begun_eq (r : State) : begun r = (startValues r).withPort (begun r).port := by
  rw [begun, postStarted, postAt]
  rfl

/-- The start values that are fixed (R19, R43, R98, R144, R153, R175, R207). -/
theorem startValues_fixed (r : State) : (startValues r).mode = .dry ∧ (startValues r).snd = Sounding.start
    ∧ (startValues r).spill = Tab.all 4 { state := .quiet, remainder := 0 } ∧ (startValues r).drn = Drain.start
    ∧ (startValues r).inhibit = Tab.all 8 none ∧ (startValues r).act = Actuator.start ∧ (startValues r).port = Port.start := by
  simp [startValues]

/-- What the start values leave of the retention domain and the clock, and the blocks that read inputs. -/
theorem startValues_rest (r : State) : (startValues r).image = r.image ∧ (startValues r).ret = r.ret ∧ (startValues r).clock = r.clock
    ∧ (startValues r).term = (startTerminals r).term ∧ (startValues r).lvl = (startLevels (startTerminals r)).lvl
    ∧ (startValues r).rain = (startRain (startLevels (startTerminals r))).rain := by
  simp [startValues, startRain, startLevels, startTerminals]

/-- The first three steps of a start, where the start values are fixed. -/
theorem begun_fixed (r : State) : (begun r).mode = .dry ∧ (begun r).snd = Sounding.start
    ∧ (begun r).spill = Tab.all 4 { state := .quiet, remainder := 0 } ∧ (begun r).drn = Drain.start
    ∧ (begun r).inhibit = Tab.all 8 none ∧ (begun r).act = Actuator.start := by
  rw [begun_eq]
  simp only [State.withPort_fields, startValues_fixed, and_self]

/-- The first three steps of a start, where they take what they find, or what the inputs give. -/
theorem begun_rest (r : State) : (begun r).image = r.image ∧ (begun r).ret = r.ret ∧ (begun r).clock = r.clock
    ∧ (begun r).term = (startTerminals r).term ∧ (begun r).lvl = (startLevels (startTerminals r)).lvl
    ∧ (begun r).rain = (startRain (startLevels (startTerminals r))).rain := by
  rw [begun_eq]
  simp only [State.withPort_fields, startValues_rest, and_self]

section Begun
variable (r : State)

/-- Every input is sampled, and works-stop follows (R180, R185). -/
theorem begun_terminals : LevelsSampled (begun r) r.term.pins
    ∧ ((begun r).term.worksStop = true ↔ sampledInput r.image r.term.pins .worksStop = some true) := by
  obtain ⟨himage, -, -, hterm, -⟩ := begun_rest r
  obtain ⟨-, -, -, hlevels⟩ := startTerminals_fields r
  refine ⟨fun p hp => ?_, ?_⟩
  · rw [hterm]
    rw [himage] at hp
    exact hlevels p hp
  · rw [hterm]
    exact worksStop_startTerminals r

/-- The floats and the levels follow their inputs (R50, R51, R57). -/
theorem begun_levels (b : Fin 8) : (begun r).lvl.floats.at_ b = floatSampled (sampledInput r.image r.term.pins (.float b))
    ∧ (begun r).level b = if (r.bay b).enabled = true ∧ sampledInput r.image r.term.pins (.float b) = some true
      then { LevelRecord.blank with value := some (r.bay b).floatHeight, quality := .float } else LevelRecord.blank := by
  obtain ⟨-, -, -, -, hlvl, -⟩ := begun_rest r
  obtain ⟨-, -, -, hlevels⟩ := startTerminals_fields r
  rw [State.level, hlvl]
  exact startLevels_lvl hlevels b

/-- The gauges follow their inputs, the rules start CLEAR where they are armed, every slot is empty, and the next minute roll is set (R62, R63,
R77; log entry 31). -/
theorem begun_rain : (begun r).rain.slots = Tab.all 4 .empty ∧ (begun r).rain.alert = .none
    ∧ (begun r).rain.nextRoll = (r.now / 60 + 1) * 60
    ∧ (∀ i, (begun r).rain.rules.at_ i
      = { state := if (r.image.rules.at_ i).level = .none then .disarmed else .clear, holdUntil := none })
    ∧ ∀ g, (begun r).rain.gauges.at_ g = if (r.image.gauges.at_ g).enabled
      then { stuck := false, history := List.replicate 60 0, minuteStart := r.now, total := 0, lastTip := none
             stuckDeadline := if sampledInput r.image r.term.pins (.gauge g) = some true
               then some { due := r.now + (r.image.gauges.at_ g).stuck, time := (r.image.gauges.at_ g).stuck } else none }
      else GaugeVol.blank := by
  obtain ⟨-, -, -, -, -, hrain⟩ := begun_rest r
  obtain ⟨-, -, -, hlevels⟩ := startTerminals_fields r
  rw [hrain]
  exact ⟨rfl, rfl, rfl, fun i => Tab.at_ofFn i _,
    fun g => (Tab.at_ofFn ..).trans (startGauge_eq (s := startLevels (startTerminals r)) hlevels g)⟩

end Begun

/-- The STARTED notice (R194). -/
def startedNotice (r : State) : Notice :=
  { subject := 0, number := 0, unset := !r.ret.clockSet, time := written r r.clock.startSecond
    detail := .started r.clock.cause (if r.clock.cause = .warm then r.ret.powerLoss.map (written r) else none) (openOutfalls r).length
      r.ret.clockSet }

/-- STARTED is the one notice, and no request is waiting or being answered (R194, R207). -/
theorem port_begun (r : State) : (begun r).port = { Port.start with notices := [startedNotice r], nextNumber := 1 } := by
  obtain ⟨-, -, -, -, -, -, hport⟩ := startValues_fixed r
  obtain ⟨-, hret, hclock, -⟩ := startValues_rest r
  have houtfalls : openOutfalls (startValues r) = openOutfalls r := by simp only [openOutfalls, hret]
  have hwritten : written (startValues r) = written r := by
    funext t
    simp only [written, siteTime, hret]
  simp only [begun, postStarted, postAt, State.withPort_fields, hport, hret, hclock, houtfalls, hwritten]
  rfl

end Sys2Proof.Machine

/-! PROOF. The fourth step of a start as a whole: what it closes, transfers and posts, and what it leaves alone (R107, R108, R191, R192). -/

namespace Sys2Proof.Machine

/-! ### What the closes leave alone -/

/-- From `s` to `t` only the retained contents, the port and the spill states have changed. -/
def OnlyAccounts (s t : State) : Prop := t = ((s.withRet t.ret).withPort t.port).withSpill t.spill

theorem OnlyAccounts.trans {s t u : State} (h : OnlyAccounts s t) (h' : OnlyAccounts t u) : OnlyAccounts s u := by
  unfold OnlyAccounts at h h' ⊢
  rw [h] at h'
  exact h'

theorem onlyAccounts_entered (id : Nat) (x : Fin 4 × SpillRecord) (s : State) : OnlyAccounts s (entered id x s) := by
  unfold entered enterLog
  dsimp only
  split <;> rfl

theorem Transfers.onlyAccounts {s t : State} {moved : List (Fin 4 × SpillRecord)} (h : Transfers s moved t) : OnlyAccounts s t := by
  induction h with
  | nil => rfl
  | cons _ _ _ _ ih => exact (onlyAccounts_entered ..).trans ih

theorem onlyAccounts_closeSpill (k : Fin 4) (finish : Nat) (cause : EndCause) (s : State) :
    OnlyAccounts s (closeSpill k finish cause true s) := by
  cases h : openSpillOf s k with
  | none => rw [closeSpill_of_none h]; rfl
  | some o => rw [closeSpill_atStart h]; rfl

theorem onlyAccounts_closedSpills (finish : Nat) (cause : EndCause) (ks : List (Fin 4)) (s : State) :
    OnlyAccounts s (closedSpills finish cause ks s) := by
  induction ks generalizing s with
  | nil => rfl
  | cons k ks ih => exact (onlyAccounts_closeSpill ..).trans (ih _)

/-- Outfalls that are all QUIET stay so: a close leaves its outfall QUIET (R90). -/
theorem spill_closedSpills {s : State} (h : s.spill = Tab.all 4 { state := .quiet, remainder := 0 }) (finish : Nat) (cause : EndCause)
    (ks : List (Fin 4)) : (closedSpills finish cause ks s).spill = s.spill := by
  induction ks generalizing s with
  | nil => rfl
  | cons k ks ih =>
    have hclose : (closeSpill k finish cause true s).spill = s.spill := by
      cases ho : openSpillOf s k with
      | none => rw [closeSpill_of_none ho]
      | some o =>
        rw [closeSpill_atStart ho]
        refine tab_ext fun j => (Tab.at_put ..).trans ?_
        change (if k = j then _ else s.spill.at_ j) = s.spill.at_ j
        rw [h, Tab.at_all, ite_self]
    exact (ih (hclose.trans h)).trans hclose

/-- The port after closes and transfers has been left by the posting of notices alone. -/
theorem port_closedSpills_of_posts {P : Port → Prop} (hP : ∀ t i d (u : State), P u.port → P (postAt t i d u).port) (finish : Nat)
    (cause : EndCause) (ks : List (Fin 4)) {s : State} (h : P s.port) : P (closedSpills finish cause ks s).port := by
  induction ks generalizing s with
  | nil => exact h
  | cons k ks ih =>
    refine ih ?_
    dsimp only
    cases ho : openSpillOf s k with
    | none => rwa [closeSpill_of_none ho]
    | some o =>
      rw [closeSpill_atStart ho]
      exact hP _ _ _ _ h

theorem Transfers.port_of_posts {P : Port → Prop} (hP : ∀ t i d (u : State), P u.port → P (postAt t i d u).port) {s t : State}
    {moved : List (Fin 4 × SpillRecord)} (h : Transfers s moved t) (hs : P s.port) : P t.port := by
  induction h with
  | nil => exact hs
  | @cons s _ id x _ _ _ _ _ ih =>
    refine ih ?_
    unfold entered enterLog
    dsimp only
    split
    · exact hP _ _ _ _ hs
    · exact hs

/-! ### The fourth step (R192) -/

/-- The end time of the spills that a start closes: the power-loss time at a warm start, and otherwise the start (R192). -/
def startFinish (cause : StartCause) (loss : Option Nat) (second : Nat) : Nat := if cause = .warm then loss.getD second else second

/-- The end cause of the spills that a start closes (R192). -/
def startEnd (cause : StartCause) : EndCause := if cause = .warm then .powerLoss else .restart

/-- From `s`, closes of the open spills of some outfalls, and then transfers, have led to `t` (R192). -/
def ClosesAndTransfers (finish : Nat) (cause : EndCause) (ks : List (Fin 4)) (s t : State) : Prop :=
  ∃ moved, Transfers (closedSpills finish cause ks s) moved t

/-- What the fourth step writes first are the closes, and then the transfers, as far as its writes go (log entry 50). -/
theorem closeOpenSpills_of_not_cold {s : State} (h : s.clock.cause ≠ .cold) (n : Nat) : closeOpenSpills n s
    = (transferLoop (min 4 (n - (openOutfalls s).length)) 0 (closedSpills (startFinish s.clock.cause s.ret.powerLoss s.clock.startSecond)
        (startEnd s.clock.cause) ((openOutfalls s).take n) s)).1 := by
  unfold closeOpenSpills startFinish startEnd
  cases hc : s.clock.cause with
  | cold => exact absurd hc h
  | warm => rfl
  | restart => rfl

theorem closeOpenSpills_of_cold {s : State} (h : s.clock.cause = .cold) (n : Nat) : closeOpenSpills n s = s := by
  simp only [closeOpenSpills, h]

theorem closesAndTransfers_closeOpenSpills {s : State} (h : s.clock.cause ≠ .cold) (n : Nat) :
    ClosesAndTransfers (startFinish s.clock.cause s.ret.powerLoss s.clock.startSecond) (startEnd s.clock.cause) ((openOutfalls s).take n) s
      (closeOpenSpills n s) := by
  rw [closeOpenSpills_of_not_cold h]
  exact transfers_of_transferLoop ..

/-- With no write the fourth step does nothing. -/
theorem closeOpenSpills_zero (s : State) : closeOpenSpills 0 s = s := by
  by_cases h : s.clock.cause = .cold
  · exact closeOpenSpills_of_cold h 0
  · rw [closeOpenSpills_of_not_cold h, Nat.zero_sub]
    rfl

theorem onlyAccounts_closeOpenSpills (n : Nat) (s : State) : OnlyAccounts s (closeOpenSpills n s) := by
  by_cases h : s.clock.cause = .cold
  · rw [closeOpenSpills_of_cold h]; rfl
  · obtain ⟨moved, hmoved⟩ := closesAndTransfers_closeOpenSpills h n
    exact (onlyAccounts_closedSpills ..).trans hmoved.onlyAccounts

/-- Outfalls that are all QUIET stay so. -/
theorem spill_closeOpenSpills {s : State} (h : s.spill = Tab.all 4 { state := .quiet, remainder := 0 }) (n : Nat) :
    (closeOpenSpills n s).spill = s.spill := by
  by_cases hc : s.clock.cause = .cold
  · rw [closeOpenSpills_of_cold hc]
  · obtain ⟨-, hspill, -⟩ := transferLoop_fields (min 4 (n - (openOutfalls s).length)) 0 (closedSpills (startFinish s.clock.cause
      s.ret.powerLoss s.clock.startSecond) (startEnd s.clock.cause) ((openOutfalls s).take n) s)
    rw [closeOpenSpills_of_not_cold hc, hspill, spill_closedSpills h]

theorem port_closeOpenSpills {P : Port → Prop} (hP : ∀ t i d (u : State), P u.port → P (postAt t i d u).port) (n : Nat) {s : State}
    (h : P s.port) : P (closeOpenSpills n s).port := by
  by_cases hc : s.clock.cause = .cold
  · rwa [closeOpenSpills_of_cold hc]
  · obtain ⟨moved, hmoved⟩ := closesAndTransfers_closeOpenSpills hc n
    exact hmoved.port_of_posts hP (port_closedSpills_of_posts hP _ _ _ h)

/-! ### The records after closes and transfers -/

section Results
variable {s t : State} {finish : Nat} {cause : EndCause} {ks : List (Fin 4)} (h : ClosesAndTransfers finish cause ks s t)
include h

/-- Every entry of the log stays, closed where its outfall is. -/
theorem ClosesAndTransfers.log {e : LogEntry} (he : e ∈ s.ret.log) : entryClosed finish cause ks s e ∈ t.ret.log := by
  obtain ⟨moved, hmoved⟩ := h
  obtain ⟨added, hlog, -⟩ := hmoved.log_append
  rw [hlog, ret_closedSpills]
  exact List.mem_append_left _ (List.mem_map_of_mem he)

/-- No outfall that is closed, or had no open record, has one. -/
theorem ClosesAndTransfers.openRecord {k : Fin 4} (hk : k ∈ ks ∨ openRecord s k = none) : openRecord t k = none := by
  obtain ⟨moved, hmoved⟩ := h
  refine hmoved.openRecord ?_
  have hret := ret_closedSpills finish cause ks s
  by_cases hmem : k ∈ ks
  · exact openRecord_retClosed_of_mem hret hmem
  · rw [openRecord_retClosed_of_not_mem hret hmem]
    exact hk.resolve_left hmem

/-- An open aggregate of an outfall that is not closed stays in its slot. -/
theorem ClosesAndTransfers.slot {k : Fin 4} {r : SpillRecord} (hr : s.ret.slots.at_ k = some r) (hopen : r.openSpill.isSome = true)
    (hk : k ∉ ks) : t.ret.slots.at_ k = some r := by
  obtain ⟨moved, hmoved⟩ := h
  have hslot : (closedSpills finish cause ks s).ret.slots.at_ k = some r := by
    rw [ret_closedSpills, retClosed, Tab.at_ofFn, slotClosed, if_neg hk, hr]
  refine (hmoved.slot_of_not_closed fun x hx => ?_).trans hslot
  obtain ⟨hx, hclosed⟩ := hx
  have hrx : r = x := Option.some.inj (hslot.symm.trans hx)
  rw [hrx, hclosed] at hopen
  exact absurd hopen (by decide)

/-- The block-end and the previous period of an outfall stay. -/
theorem ClosesAndTransfers.counts (k : Fin 4) : (t.ret.counts.at_ k).blockEnd = (s.ret.counts.at_ k).blockEnd
    ∧ (t.ret.counts.at_ k).previous = (s.ret.counts.at_ k).previous := by
  obtain ⟨moved, hmoved⟩ := h
  rw [hmoved.ret, ret_closedSpills, retClosed, Tab.at_ofFn]
  split
  · unfold countsClosed
    cases openSpillOf s k <;> exact ⟨rfl, rfl⟩
  · exact ⟨rfl, rfl⟩

/-- Of the retained contents the log, the slots, the ids and the counts may have changed. -/
theorem ClosesAndTransfers.ret : t.ret = { s.ret with
    log := t.ret.log, slots := t.ret.slots, nextId := t.ret.nextId, counts := t.ret.counts } := by
  obtain ⟨moved, hmoved⟩ := h
  have hret := hmoved.ret
  rw [ret_closedSpills] at hret
  rw [hret]
  rfl

end Results

end Sys2Proof.Machine

/-! PROOF. The last steps of a start, and a start as a whole (R175, R182, R191 to R194). -/

namespace Sys2Proof.Machine

/-! ### Steps five to seven (R191) -/

/-- From `s` to `t` the sounding queue and the engine have changed, the commands of the actuator line, and the activity of the alarm lines. -/
def OnlyQueues (s t : State) : Prop := t = ((s.withTerm { s.term with lineActive := t.term.lineActive }).withSnd t.snd).withAct t.act

theorem OnlyQueues.trans {s t u : State} (h : OnlyQueues s t) (h' : OnlyQueues t u) : OnlyQueues s u := by
  unfold OnlyQueues at h h' ⊢
  rw [h] at h'
  exact h'

theorem onlyQueues_queueEntry (e : SoundingEntry) (s : State) : OnlyQueues s (queueEntry e s) := rfl

theorem onlyQueues_engineTake (s : State) : OnlyQueues s (engineTake s) := by
  unfold engineTake
  split
  · dsimp only
    split
    · rfl
    · unfold supplyOn
      split <;> rfl
  · rfl

theorem onlyQueues_lineTake (s : State) : OnlyQueues s (lineTake s) := by
  unfold lineTake
  split <;> rfl

theorem lasts_lineTake (s : State) : (lineTake s).act.lasts = s.act.lasts := by
  unfold lineTake
  split <;> rfl

/-- The soundings of the enabled bays join the queue. -/
theorem onlyQueues_startEntries (s : State) : OnlyQueues s (startEntries s) := by
  unfold startEntries
  generalize allBays.filter (fun b => (s.bay b).enabled) = bs
  induction bs generalizing s with
  | nil => rfl
  | cons b bs ih => exact (onlyQueues_queueEntry ..).trans (ih _)

/-- The entries leave the actuator line, the channels and the last readings. -/
theorem startEntries_leaves (s : State) : (startEntries s).act = s.act ∧ (startEntries s).snd.channels = s.snd.channels
    ∧ (startEntries s).snd.last = s.snd.last ∧ (startEntries s).snd.expiries = s.snd.expiries := by
  unfold startEntries
  generalize allBays.filter (fun b => (s.bay b).enabled) = bs
  induction bs generalizing s with
  | nil => exact ⟨rfl, rfl, rfl, rfl⟩
  | cons b bs ih => exact ih _

/-- Steps five to seven of a start, and what the line and the engine take. -/
def lastSteps (s : State) : State := engineTake (lineTake ((refreshAlarms (startEntries (startSweep s))).withRun .running))

theorem onlyQueues_lastSteps (s : State) : OnlyQueues (s.withRun .running) (lastSteps s) := by
  have hsweep : OnlyQueues (s.withRun .running) ((startSweep s).withRun .running) := rfl
  have hentries : OnlyQueues ((startSweep s).withRun .running) ((startEntries (startSweep s)).withRun .running) :=
    congrArg (State.withRun · .running) (onlyQueues_startEntries (startSweep s))
  have hlines : OnlyQueues ((startEntries (startSweep s)).withRun .running)
      ((refreshAlarms (startEntries (startSweep s))).withRun .running) := rfl
  exact ((hsweep.trans hentries).trans hlines).trans ((onlyQueues_lineTake _).trans (onlyQueues_engineTake _))

theorem OnlyQueues.fields {s t : State} (h : OnlyQueues s t) : t.run = s.run ∧ t.image = s.image ∧ t.ret = s.ret ∧ t.clock = s.clock
    ∧ t.mode = s.mode ∧ t.lvl = s.lvl ∧ t.rain = s.rain ∧ t.spill = s.spill ∧ t.drn = s.drn ∧ t.inhibit = s.inhibit ∧ t.port = s.port
    ∧ t.term.debounced = s.term.debounced ∧ t.term.worksStop = s.term.worksStop := by
  unfold OnlyQueues at h
  rw [h]
  exact ⟨rfl, rfl, rfl, rfl, rfl, rfl, rfl, rfl, rfl, rfl, rfl, rfl, rfl⟩

/-- The last steps leave the channels, the last readings, the devices and their last outcomes. -/
theorem lastSteps_blocks (s : State) : (lastSteps s).snd.channels = s.snd.channels ∧ (lastSteps s).snd.last = s.snd.last
    ∧ (lastSteps s).snd.expiries = s.snd.expiries ∧ (lastSteps s).act.devices = s.act.devices ∧ (lastSteps s).act.lasts = s.act.lasts := by
  obtain ⟨hact, hchannels, hlast, hexpiries⟩ := startEntries_leaves (startSweep s)
  have hkept : kept (lastSteps s) = kept ((refreshAlarms (startEntries (startSweep s))).withRun .running) :=
    (kept_engineTake _).trans (kept_lineTake _)
  have hlasts : (lastSteps s).act.lasts = (startEntries (startSweep s)).act.lasts := by
    rw [lastSteps, act_engineTake, lasts_lineTake]
    rfl
  exact ⟨(congrArg Kept.channels hkept).trans hchannels, (congrArg Kept.last hkept).trans hlast,
    (congrArg Kept.expiries hkept).trans hexpiries, ((congrArg Kept.devices hkept).trans (congrArg Actuator.devices hact) :),
    (hlasts.trans (congrArg Actuator.lasts hact) :)⟩

/-- After the last steps each alarm line follows its condition (R182, R191). -/
theorem linesFollow_lastSteps (s : State) : LinesFollow (lastSteps s) :=
  linesFollow_takes ((linesFollow_refreshAlarms (startEntries (startSweep s))).same rfl rfl)

/-- Fresh entries of some bays join the queue, each in place of its bay's other entries. -/
theorem mem_freshEntriesQueued (bs : List (Fin 8)) (s : State) (e : SoundingEntry) :
    e ∈ (bs.foldl (fun u b => queueEntry (freshEntry b u.now) u) s).snd.queue
      ↔ (e.bay ∈ bs ∧ e = freshEntry e.bay s.now) ∨ (e.bay ∉ bs ∧ e ∈ s.snd.queue) := by
  induction bs generalizing s with
  | nil => simp
  | cons b bs ih =>
    have hnow : (queueEntry (freshEntry b s.now) s).now = s.now := rfl
    rw [List.foldl_cons, ih, mem_queueEntry, hnow]
    by_cases hmem : e.bay ∈ bs
    · simp [hmem]
    · have hfresh : (freshEntry b s.now).bay = b := rfl
      by_cases hb : e.bay = b
      · simp [hb, hfresh, show b ∉ bs from hb ▸ hmem]
      · have hne : e ≠ freshEntry b s.now := fun h => hb (h ▸ hfresh)
        simp [hmem, hb, hne, hfresh]

/-- A fresh entry that is its bay's one entry stays in the queue, or the engine takes it (R35). -/
theorem freshEntryJoined_engineTake_of_mem {s : State} {b : Fin 8} {due : Nat} (hmem : freshEntry b due ∈ s.snd.queue)
    (honly : ∀ e ∈ s.snd.queue, e.bay = b → e = freshEntry b due) : FreshEntryJoined (engineTake s) b due := by
  rcases engineTake_cases s with hsame | ⟨-, e, he, phase, hengine, hqueue⟩
  · rw [hsame]
    exact .inl hmem
  · by_cases hbay : e.bay = b
    · obtain rfl := honly e he hbay
      exact .inr ⟨_, hengine, rfl, rfl, rfl, rfl, rfl, rfl⟩
    · refine .inl ?_
      rw [hqueue]
      exact mem_withoutBay.mpr ⟨hmem, Ne.symm hbay⟩

/-- Every enabled bay has received a sounding entry due at once (R43, R191). -/
theorem freshEntryJoined_lastSteps {s : State} (hqueue : s.snd.queue = []) {b : Fin 8} (henabled : (s.bay b).enabled = true) :
    FreshEntryJoined (lastSteps s) b s.now := by
  have hmem (e : SoundingEntry) : e ∈ (startEntries (startSweep s)).snd.queue ↔ (s.bay e.bay).enabled = true ∧ e = freshEntry e.bay s.now := by
    have hempty : e ∉ (startSweep s).snd.queue := by
      change e ∉ s.snd.queue
      simp [hqueue]
    rw [startEntries, mem_freshEntriesQueued]
    simp only [hempty, and_false, or_false, List.mem_filter, mem_allBays, true_and]
    rfl
  refine freshEntryJoined_engineTake_of_mem ?_ fun e he hb => ?_
  · rw [(mode_snd_lineTake _).2]
    exact (hmem _).mpr ⟨henabled, rfl⟩
  · rw [(mode_snd_lineTake _).2] at he
    exact hb ▸ ((hmem e).mp he).2

theorem mem_allDevices (d : Fin 16) : d ∈ allDevices := by
  revert d
  decide

/-- Every device of an enabled bay has received a RESET of the start sweep (R175, R191). -/
theorem commandStands_lastSteps {s : State} {b : Fin 8} {d : Fin 16} (henabled : (s.bay b).enabled = true) (hdevice : (s.bay b).device = some d)
    (hrecord : (s.image.devices.at_ d).isSome = true) : CommandStands (lastSteps s) d .reset .sweep := by
  have hbay : (bayOfDevice s d).isSome = true :=
    List.find?_isSome.mpr ⟨b, mem_allBays b, by simp [henabled, hdevice]⟩
  have hsweep : CommandStands (startSweep s) d .reset .sweep :=
    .inl ⟨_, List.mem_map.mpr ⟨d, List.mem_filter.mpr ⟨mem_allDevices d, by simp [hrecord, hbay]⟩, rfl⟩, rfl, rfl, rfl⟩
  obtain ⟨hentries, -⟩ := startEntries_leaves (startSweep s)
  have hlast := commandStands_lineTake (s := (refreshAlarms (startEntries (startSweep s))).withRun .running)
    (hsweep.congr (congrArg Actuator.queue hentries) (congrArg Actuator.current hentries))
  exact hlast.congr (congrArg Actuator.queue (act_engineTake _)) (congrArg Actuator.current (act_engineTake _))

end Sys2Proof.Machine

/-! PROOF. A start as a whole (R190 to R194). -/

namespace Sys2Proof.Machine

/-! ### The first four steps -/

/-- A start as far as the first `n` writes of its fourth step. -/
def startCloses (n : Nat) (s : State) : State := closeOpenSpills n (begun (startRetention s))

theorem makeStart_eq (s : State) : makeStart s = lastSteps (startCloses (allCloses (begun (startRetention s))) s) := rfl

/-- A fall of main power before the one write of a cold start finds nothing written (R190; log entry 50). -/
theorem startWrites_eq (n : Nat) (s : State) : startWrites n s = if startCause s = .cold ∧ n = 0 then s else startCloses n s := rfl

theorem OnlyAccounts.fields {s t : State} (h : OnlyAccounts s t) : t.run = s.run ∧ t.image = s.image ∧ t.clock = s.clock ∧ t.mode = s.mode
    ∧ t.snd = s.snd ∧ t.lvl = s.lvl ∧ t.rain = s.rain ∧ t.drn = s.drn ∧ t.inhibit = s.inhibit ∧ t.act = s.act ∧ t.term = s.term := by
  unfold OnlyAccounts at h
  rw [h]
  exact ⟨rfl, rfl, rfl, rfl, rfl, rfl, rfl, rfl, rfl, rfl, rfl⟩

/-- The fourth step leaves of the retained contents all but the log, the slots, the ids and the counts. -/
theorem ret_closeOpenSpills (n : Nat) (s : State) : (closeOpenSpills n s).ret = { s.ret with
    log := (closeOpenSpills n s).ret.log, slots := (closeOpenSpills n s).ret.slots, nextId := (closeOpenSpills n s).ret.nextId
    counts := (closeOpenSpills n s).ret.counts } := by
  by_cases h : s.clock.cause = .cold
  · rw [closeOpenSpills_of_cold h]
  · exact (closesAndTransfers_closeOpenSpills h n).ret

section FirstSteps
variable (n : Nat) (s : State)

/-- After the fourth step the start values are those that are fixed (R19, R43, R98, R144, R153, R175). -/
theorem startCloses_fixed : (startCloses n s).mode = .dry ∧ (startCloses n s).snd = Sounding.start
    ∧ (startCloses n s).spill = Tab.all 4 { state := .quiet, remainder := 0 } ∧ (startCloses n s).drn = Drain.start
    ∧ (startCloses n s).inhibit = Tab.all 8 none ∧ (startCloses n s).act = Actuator.start := by
  obtain ⟨hmode, hsnd, hspill, hdrn, hinhibit, hact⟩ := begun_fixed (startRetention s)
  obtain ⟨-, -, -, hmode', hsnd', -, -, hdrn', hinhibit', hact', -⟩ := (onlyAccounts_closeOpenSpills n (begun (startRetention s))).fields
  exact ⟨hmode'.trans hmode, hsnd'.trans hsnd, (spill_closeOpenSpills hspill n).trans hspill, hdrn'.trans hdrn, hinhibit'.trans hinhibit,
    hact'.trans hact⟩

/-- After the fourth step the image, the clock and the blocks that read inputs are as the first steps have left them. -/
theorem startCloses_rest : (startCloses n s).image = (startRetention s).image ∧ (startCloses n s).clock = (startRetention s).clock
    ∧ (startCloses n s).now = (startRetention s).now ∧ (startCloses n s).term = (begun (startRetention s)).term
    ∧ (startCloses n s).lvl = (begun (startRetention s)).lvl ∧ (startCloses n s).rain = (begun (startRetention s)).rain := by
  obtain ⟨himage, hret, hclock, -⟩ := begun_rest (startRetention s)
  obtain ⟨-, himage', hclock', -, -, hlvl, hrain, -, -, -, hterm⟩ := (onlyAccounts_closeOpenSpills n (begun (startRetention s))).fields
  have hseconds : (startCloses n s).ret.seconds = (begun (startRetention s)).ret.seconds := by
    rw [startCloses, ret_closeOpenSpills]
  exact ⟨himage'.trans himage, hclock'.trans hclock, hseconds.trans (congrArg Retained.seconds hret), hterm, hlvl, hrain⟩

/-- After the fourth step STARTED is the first notice, and no request is waiting or being answered (R194, R207). -/
theorem startCloses_port : (startCloses n s).port.notices.head? = some (startedNotice (startRetention s))
    ∧ (startCloses n s).port.answering = none ∧ (startCloses n s).port.slot = none := by
  refine port_closeOpenSpills (P := fun p => p.notices.head? = some (startedNotice (startRetention s)) ∧ p.answering = none ∧ p.slot = none)
    (fun t i d u h => ?_) n ?_
  · obtain ⟨hhead, hanswering, hslot⟩ := h
    obtain ⟨rest, hrest⟩ := List.head?_eq_some_iff.mp hhead
    have hinformational : (startedNotice (startRetention s)).detail.informational = false := rfl
    simp only [postAt, State.withPort_fields, addNotice_fields, hanswering, hslot, and_true]
    unfold addNotice
    split
    · simp [hrest]
    · split
      · simp [hrest, hinformational]
      · exact hhead
  · rw [port_begun]
    exact ⟨rfl, rfl, rfl⟩

variable {s}

/-- A cold start has nothing to close (R190, R192). -/
theorem startCloses_of_cold (h : startCause s = .cold) : (startCloses n s).image = Image.afterCold
    ∧ (startCloses n s).ret = Retained.afterCold := by
  obtain ⟨himage, hret, hclock, -⟩ := begun_rest (startRetention s)
  have hcause : (begun (startRetention s)).clock.cause = .cold := by
    rw [hclock, startRetention_of_cold h]
    rfl
  rw [startCloses, closeOpenSpills_of_cold hcause, himage, hret, startRetention_of_cold h]
  exact ⟨rfl, rfl⟩

/-- Any other start leaves the retention domain as it is before its fourth step (R191). -/
theorem begun_of_not_cold (h : startCause s ≠ .cold) : (begun (startRetention s)).image = s.image
    ∧ (begun (startRetention s)).ret = s.ret ∧ (begun (startRetention s)).clock = { fast := 0, cause := startCause s, startSecond := s.now } := by
  obtain ⟨himage, hret, hclock, -⟩ := begun_rest (startRetention s)
  rw [himage, hret, hclock, startRetention_of_not_cold h]
  exact ⟨rfl, rfl, rfl⟩

/-- The end time of the spills that a start closes. -/
def startFinishOf (s : State) : Nat := startFinish (startCause s) s.ret.powerLoss s.now

theorem openOutfalls_congr {s t : State} (h : t.ret = s.ret) : openOutfalls t = openOutfalls s := by
  simp only [openOutfalls, h]

theorem startCloses_closes (h : startCause s ≠ .cold) : ClosesAndTransfers (startFinishOf s) (startEnd (startCause s)) ((openOutfalls s).take n)
    (begun (startRetention s)) (startCloses n s) := by
  obtain ⟨-, hret, hclock⟩ := begun_of_not_cold h
  have hcloses := closesAndTransfers_closeOpenSpills (s := begun (startRetention s)) (by rw [hclock]; exact h) n
  rw [hclock, hret, openOutfalls_congr hret] at hcloses
  exact hcloses

end FirstSteps

/-! ### A start (R191) -/

section MakeStart
variable (s : State)

theorem makeStart_fixed : (makeStart s).run = .running ∧ (makeStart s).mode = .dry
    ∧ (makeStart s).spill = Tab.all 4 { state := .quiet, remainder := 0 } ∧ (makeStart s).drn = Drain.start
    ∧ (makeStart s).inhibit = Tab.all 8 none ∧ (makeStart s).act.devices = Tab.all 16 DeviceVol.start
    ∧ (makeStart s).act.lasts = Tab.all 16 none ∧ (makeStart s).snd.channels = Tab.all 8 { health := .ok, bad := 0 }
    ∧ (makeStart s).snd.last = Tab.all 8 none ∧ (makeStart s).snd.expiries = 0 := by
  rw [makeStart_eq]
  obtain ⟨hmode, hsnd, hspill, hdrn, hinhibit, hact⟩ := startCloses_fixed (allCloses (begun (startRetention s))) s
  generalize startCloses (allCloses (begun (startRetention s))) s = c at *
  obtain ⟨hrun, -, -, -, hmode', -, -, hspill', hdrn', hinhibit', -⟩ := (onlyQueues_lastSteps c).fields
  obtain ⟨hchannels, hlast, hexpiries, hdevices, hlasts⟩ := lastSteps_blocks c
  rw [hsnd] at hchannels hlast hexpiries
  rw [hact] at hdevices hlasts
  exact ⟨hrun, hmode'.trans hmode, hspill'.trans hspill, hdrn'.trans hdrn, hinhibit'.trans hinhibit, hdevices, hlasts, hchannels, hlast, hexpiries⟩

theorem makeStart_accounts : (makeStart s).ret = (startCloses (allCloses (begun (startRetention s))) s).ret
    ∧ (makeStart s).port = (startCloses (allCloses (begun (startRetention s))) s).port := by
  rw [makeStart_eq]
  generalize startCloses (allCloses (begun (startRetention s))) s = c
  obtain ⟨-, -, hret, -, -, -, -, -, -, -, hport, -⟩ := (onlyQueues_lastSteps c).fields
  exact ⟨hret, hport⟩

theorem makeStart_rest : (makeStart s).image = (startRetention s).image ∧ (makeStart s).clock = (startRetention s).clock
    ∧ (makeStart s).now = (startRetention s).now ∧ (makeStart s).term.debounced = (begun (startRetention s)).term.debounced
    ∧ (makeStart s).term.worksStop = (begun (startRetention s)).term.worksStop
    ∧ (makeStart s).lvl = (begun (startRetention s)).lvl ∧ (makeStart s).rain = (begun (startRetention s)).rain := by
  rw [makeStart_eq]
  obtain ⟨himage, hclock, hnow, hterm, hlvl, hrain⟩ := startCloses_rest (allCloses (begun (startRetention s))) s
  generalize startCloses (allCloses (begun (startRetention s))) s = c at *
  obtain ⟨-, himage', hret', hclock', -, hlvl', hrain', -, -, -, -, hdebounced, hworksStop⟩ := (onlyQueues_lastSteps c).fields
  exact ⟨himage'.trans himage, hclock'.trans hclock, (congrArg Retained.seconds hret').trans hnow,
    hdebounced.trans (congrArg Terminals.debounced hterm), hworksStop.trans (congrArg Terminals.worksStop hterm), hlvl'.trans hlvl,
    hrain'.trans hrain⟩

theorem makeStart_port : (makeStart s).port.notices.head? = some (startedNotice (startRetention s))
    ∧ (makeStart s).port.answering = none ∧ (makeStart s).port.slot = none := by
  rw [(makeStart_accounts s).2]
  exact startCloses_port _ s

/-- Every alarm line follows its condition (R182, R191). -/
theorem linesFollow_makeStart : LinesFollow (makeStart s) := by
  rw [makeStart_eq]
  exact linesFollow_lastSteps _

variable {s}

/-- Every enabled bay receives a sounding entry due at once (R43, R191). -/
theorem freshEntryJoined_makeStart {b : Fin 8} (h : ((makeStart s).bay b).enabled = true) : FreshEntryJoined (makeStart s) b (makeStart s).now := by
  obtain ⟨himage, -, hnow, -⟩ := makeStart_rest s
  obtain ⟨himage', -, hnow', -⟩ := startCloses_rest (allCloses (begun (startRetention s))) s
  obtain ⟨-, hsnd, -⟩ := startCloses_fixed (allCloses (begun (startRetention s))) s
  rw [State.bay, himage, ← himage'] at h
  rw [hnow, ← hnow', makeStart_eq]
  exact freshEntryJoined_lastSteps (by rw [hsnd]; rfl) h

/-- Every device of an enabled bay receives a RESET of the start sweep (R175, R191). -/
theorem commandStands_makeStart {b : Fin 8} {d : Fin 16} (henabled : ((makeStart s).bay b).enabled = true)
    (hdevice : ((makeStart s).bay b).device = some d) (hrecord : ((makeStart s).image.devices.at_ d).isSome = true) :
    CommandStands (makeStart s) d .reset .sweep := by
  obtain ⟨himage, -⟩ := makeStart_rest s
  obtain ⟨himage', -⟩ := startCloses_rest (allCloses (begun (startRetention s))) s
  rw [State.bay, himage, ← himage'] at henabled hdevice
  rw [himage, ← himage'] at hrecord
  rw [makeStart_eq]
  exact commandStands_lastSteps henabled hdevice hrecord

/-- A cold start returns the retention domain to its defaults (R190). -/
theorem makeStart_of_cold (h : startCause s = .cold) : (makeStart s).image = Image.afterCold ∧ (makeStart s).ret = Retained.afterCold := by
  obtain ⟨himage, -⟩ := makeStart_rest s
  obtain ⟨hret, -⟩ := makeStart_accounts s
  rw [himage, hret, startRetention_of_cold h]
  exact ⟨rfl, (startCloses_of_cold _ h).2⟩

/-- The closes and the transfers of a start, where it has open spills to close: of every outfall that has one (R192). -/
theorem makeStart_closes (h : startCause s ≠ .cold) : ∃ c, (makeStart s).ret = c.ret
    ∧ ClosesAndTransfers (startFinishOf s) (startEnd (startCause s)) (openOutfalls s) (begun (startRetention s)) c := by
  obtain ⟨-, hret, -⟩ := begun_of_not_cold h
  have hcloses := startCloses_closes (allCloses (begun (startRetention s))) h
  rw [allCloses, openOutfalls_congr hret, List.take_of_length_le (Nat.le_add_right ..)] at hcloses
  refine ⟨_, (makeStart_accounts s).1.trans ?_, hcloses⟩
  rw [allCloses, openOutfalls_congr hret]

/-- After a start no outfall has an open spill (R192). -/
theorem openSpillOf_makeStart (k : Fin 4) : openSpillOf (makeStart s) k = none := by
  by_cases h : startCause s = .cold
  · obtain ⟨-, hret⟩ := makeStart_of_cold h
    rw [openSpillOf_eq_none, hret]
    exact ⟨fun e he => absurd he List.not_mem_nil, fun r hr => by simp [Retained.afterCold] at hr⟩
  · obtain ⟨c, hret, hcloses⟩ := makeStart_closes h
    obtain ⟨-, hbegun, -⟩ := begun_of_not_cold h
    rw [openSpillOf_congr (congrArg Retained.log hret) (congrArg Retained.slots hret), ← openRecord_eq_none]
    refine hcloses.openRecord ?_
    rw [openRecord_eq_none, mem_openOutfalls, openSpillOf_congr (congrArg Retained.log hbegun) (congrArg Retained.slots hbegun)]
    exact (em _).symm

end MakeStart

end Sys2Proof.Machine

/-! PROOF. RESTART and the start that follows it (R191, R193). -/

namespace Sys2Proof.Machine

/-! ### START (R191; log entry 16) -/

/-- A part that does not run makes a start. -/
theorem exec_start {s : State} (h : s.run ≠ .running) (m : Moment) : exec (.start ⟨m, none⟩) s = .next (makeStart (arrive m s)) := by
  have hrun : (arrive m s).run ≠ .running := by simpa using h
  exact congrArg Host.Outcome.next (if_neg hrun)

/-- A start that main power interrupts. -/
theorem exec_start_fails {s : State} (h : s.run ≠ .running) (m : Moment) (f : StartFall) :
    exec (.start ⟨m, some f⟩) s = .next (startFails f (arrive m s)) := by
  have hrun : (arrive m s).run ≠ .running := by simpa using h
  exact congrArg Host.Outcome.next (if_neg hrun)

/-- A part that runs makes no start. -/
theorem exec_start_running {s : State} (h : s.run = .running) (m : Moment) (f : Option StartFall) :
    exec (.start ⟨m, f⟩) s = .next (arrive m s) := by
  have hrun : (arrive m s).run = .running := by simpa using h
  exact congrArg Host.Outcome.next (if_pos hrun)

/-- What the start cause is told by is not touched by a moment. -/
theorem startCause_arrive (m : Moment) (s : State) : startCause (arrive m s) = startCause s := by
  simp [startCause]

theorem startCause_of_restarting {s : State} (h : s.run = .restarting) : startCause s = if s.ret.checkGood then .restart else .cold := by
  cases hgood : s.ret.checkGood <;> simp [startCause, h, hgood]

/-! ### RESTART (R193) -/

/-- The answer to a RESTART is being sent, marked so that a start follows it (R193, R199). -/
def restartAnswered (q : Byte) (s : State) : State :=
  let t := answered q 0x85#8 .accepted .empty s
  t.withPort { t.port with answering := t.port.answering.map fun r => { r with restart := true } }

/-- A RESTART that finds the port free changes nothing but for its answer (R193). -/
theorem exec_restart {s : State} (h : PortFree s) (m : Moment) (q : Byte) :
    exec (.restart m q (.fields ())) s = .next (restartAnswered q (arrive m s)) :=
  hostRequest_free m q (.restart (.fields ())) s h

/-- The answer leaves the retained contents, and a part that runs goes on. -/
theorem restartAnswered_fields (q : Byte) (s : State) : (restartAnswered q s).run = s.run ∧ (restartAnswered q s).ret = s.ret
    ∧ ∃ r, (restartAnswered q s).port.answering = some r ∧ r.restart = true := by
  simp [restartAnswered, answered, refreshAlarms]

/-- When the reply to a RESTART has been sent, the part stands before its start, whatever waits in the slot (R193). -/
theorem replySent_restart {s : State} {r : Reply} (h : s.port.answering = some r) (hrestart : r.restart = true) :
    replySent s = (s.withPort { s.port with answering := none }).withRun .restarting := by
  simp [replySent, h, hrestart]

/-- Settles O25: the reply is marked for the start, which finds the part restarting. -/
theorem restartIsAccepted : Obligations.RestartIsAccepted := by
  intro m q s hfree t replying
  refine ⟨exec_restart hfree m q, ?_⟩
  intro m' m'' b sent
  obtain ⟨hrun, hret, r, hanswering, hrestart⟩ := restartAnswered_fields q (arrive m s)
  have hrunning : replying.run = .running := hrun.trans (by simpa using hfree.1)
  have hsent : sent.run = .restarting := rfl
  have hgood : sent.ret.checkGood = s.ret.checkGood := by
    have hreplying : replying.ret.checkGood = s.ret.checkGood := (congrArg Retained.checkGood hret).trans (by simp)
    simpa [sent, b, refreshAlarms] using hreplying
  refine ⟨?reply, makeStart (arrive m'' sent), ?start⟩
  case reply =>
    have hport : b.port = replying.port := by simp [b]
    have hb : b.port.answering = some r := (congrArg Port.answering hport).trans hanswering
    change whileRunning m' replySent replying = _
    rw [whileRunning_running _ _ _ hrunning, replySent_restart hb hrestart]
  case start =>
    obtain ⟨hstarted, -⟩ := makeStart_fixed (arrive m'' sent)
    obtain ⟨-, hclock, -⟩ := makeStart_rest (arrive m'' sent)
    obtain ⟨-, hanswered, hslot⟩ := makeStart_port (arrive m'' sent)
    obtain ⟨-, -, hcause⟩ := startRetention_fields (arrive m'' sent)
    refine ⟨exec_start (by rw [hsent]; decide) m'', hstarted, hanswered, hslot, ?_⟩
    rw [hclock, hcause, ← hgood, ← startCause_of_restarting hsent]
    exact startCause_arrive m'' sent

end Sys2Proof.Machine

/-! PROOF. The notices, the records and the counts after a start (R104, R191, R192, R194). -/

namespace Sys2Proof.Machine

/-! ### The retained contents after a start (R191, R192) -/

theorem written_congr {s t : State} (hset : t.ret.clockSet = s.ret.clockSet) (hoffset : t.ret.offset = s.ret.offset) :
    written t = written s := by
  funext x
  simp only [written, siteTime, hset, hoffset]

/-- The fourth step of a start leaves of the retained contents all but the log, the slots, the ids and the counts. -/
theorem ret_startCloses (n : Nat) (s : State) : (startCloses n s).ret = { (startRetention s).ret with
    log := (startCloses n s).ret.log, slots := (startCloses n s).ret.slots, nextId := (startCloses n s).ret.nextId
    counts := (startCloses n s).ret.counts } := by
  obtain ⟨-, hret, -⟩ := begun_rest (startRetention s)
  rw [← hret]
  exact ret_closeOpenSpills n (begun (startRetention s))

/-- The clock is set, and at its offset, as the first step of the start leaves it. -/
theorem clock_makeStart (s : State) : (makeStart s).ret.clockSet = (startRetention s).ret.clockSet
    ∧ (makeStart s).ret.offset = (startRetention s).ret.offset := by
  obtain ⟨hret, -⟩ := makeStart_accounts s
  rw [hret, ret_startCloses]
  exact ⟨rfl, rfl⟩

section NotCold
variable {s : State} (h : startCause s ≠ .cold)
include h

/-- A start that is not cold leaves most of the retention domain as it is (R191). -/
theorem startCloses_keeps (n : Nat) : (startCloses n s).image = s.image ∧ (startCloses n s).now = s.now
    ∧ (startCloses n s).ret = { s.ret with
      log := (startCloses n s).ret.log, slots := (startCloses n s).ret.slots, nextId := (startCloses n s).ret.nextId
      counts := (startCloses n s).ret.counts } := by
  obtain ⟨himage, -, hnow, -⟩ := startCloses_rest n s
  have hret := ret_startCloses n s
  rw [startRetention_of_not_cold h] at himage hnow hret
  exact ⟨himage, hnow, hret⟩

theorem makeStart_keeps : (makeStart s).image = s.image ∧ (makeStart s).now = s.now ∧ (makeStart s).ret.offset = s.ret.offset
    ∧ (makeStart s).ret.clockSet = s.ret.clockSet ∧ (makeStart s).ret.powerLoss = s.ret.powerLoss
    ∧ (makeStart s).ret.lastRain = s.ret.lastRain ∧ (makeStart s).ret.cold = s.ret.cold := by
  obtain ⟨himage, -, hnow, -⟩ := makeStart_rest s
  obtain ⟨hret, -⟩ := makeStart_accounts s
  obtain ⟨-, -, hkept⟩ := startCloses_keeps h (allCloses (begun (startRetention s)))
  rw [startRetention_of_not_cold h] at himage hnow
  refine ⟨himage, hnow, ?_⟩
  rw [hret, hkept]
  exact ⟨rfl, rfl, rfl, rfl, rfl⟩

/-- Every entry of the log stays, with its record closed where it was open. -/
theorem entryClosed_mem_makeStart {e : LogEntry} (he : e ∈ s.ret.log) :
    entryClosed (startFinishOf s) (startEnd (startCause s)) (openOutfalls s) s e ∈ (makeStart s).ret.log := by
  obtain ⟨c, hret, hcloses⟩ := makeStart_closes h
  obtain ⟨-, hbegun, -⟩ := begun_of_not_cold h
  have hclosed : spillClosed (begun (startRetention s)) = spillClosed s := by
    funext finish cause
    exact spillClosed_congr (congrArg Retained.clockSet hbegun) (congrArg Retained.offset hbegun) finish cause
  have hmem := hcloses.log (hbegun ▸ he)
  rw [← hret] at hmem
  simpa only [entryClosed, hclosed] using hmem

/-- A record without an open spill stays as it is. -/
theorem mem_makeStart_of_closed {e : LogEntry} (he : e ∈ s.ret.log) (hclosed : e.record.openSpill = none) : e ∈ (makeStart s).ret.log := by
  have hmem := entryClosed_mem_makeStart h he
  rwa [entryClosed_of_closed hclosed] at hmem

/-- A record with an open spill is closed at the end time of the start (R104, R192). -/
theorem mem_makeStart_of_open {e : LogEntry} (he : e ∈ s.ret.log) {o : OpenSpill} (hopen : e.record.openSpill = some o) :
    { e with record := { e.record with
      openSpill := none, finish := some (written s (startFinishOf s)), cause := some (startEnd (startCause s))
      duration := min 4294967295 (e.record.duration + (startFinishOf s - o.start))
      clockUnset := e.record.clockUnset || !s.ret.clockSet } } ∈ (makeStart s).ret.log := by
  have hmem := entryClosed_mem_makeStart h he
  have houtfall : e.record.outfall ∈ openOutfalls s := by
    rw [openOutfalls_eq_append]
    exact List.mem_append_left _ (List.mem_map_of_mem (List.mem_filter.mpr ⟨he, by simp [hopen]⟩))
  rw [entryClosed, if_pos houtfall] at hmem
  simpa only [spillClosed, hopen] using hmem

/-- The block-end and the previous period of an outfall stay. -/
theorem counts_makeStart (k : Fin 4) : ((makeStart s).ret.counts.at_ k).blockEnd = (s.ret.counts.at_ k).blockEnd
    ∧ ((makeStart s).ret.counts.at_ k).previous = (s.ret.counts.at_ k).previous := by
  obtain ⟨c, hret, hcloses⟩ := makeStart_closes h
  obtain ⟨-, hbegun, -⟩ := begun_of_not_cold h
  rw [hret, ← hbegun]
  exact hcloses.counts k

end NotCold

/-! ### The first notice (R194) -/

/-- A start has as many spills to close as there are open records in the log, and slots with an open aggregate. -/
theorem length_openOutfalls (s : State) : (openOutfalls s).length = s.ret.log.countP (fun e => e.record.openSpill.isSome)
    + (List.finRange 4).countP fun k => (s.ret.slots.at_ k).any fun r => r.openSpill.isSome := by
  rw [openOutfalls_eq_append, List.length_append, List.length_map, List.countP_eq_length_filter, List.countP_eq_length_filter]

theorem startedNotice_eq (s : State) : startedNotice (startRetention s) =
    { subject := 0, number := 0, unset := !(makeStart s).ret.clockSet, time := written (makeStart s) (makeStart s).now
      detail := .started (startCause s) (if startCause s = .warm then s.ret.powerLoss.map (written s) else none)
        (if startCause s = .cold then 0 else (openOutfalls s).length) (makeStart s).ret.clockSet } := by
  obtain ⟨hset, hoffset⟩ := clock_makeStart s
  obtain ⟨-, -, hnow, -⟩ := makeStart_rest s
  obtain ⟨-, -, hclock⟩ := startRetention_fields s
  rw [written_congr hset hoffset, hset, hnow, startedNotice, hclock]
  by_cases h : startCause s = .cold
  · rw [startRetention_of_cold h, h]
    rfl
  · rw [startRetention_of_not_cold h, if_neg h]
    rfl

/-! ### The notices and the transfers of a start, one after another (R191, R192, R194) -/

/-- The STARTED notice of a start that is not cold. -/
def startPosted (s : State) : State :=
  postAt s.now 0 (.started (startCause s) (if startCause s = .warm then s.ret.powerLoss.map (written s) else none) (openSpills s).length
    s.ret.clockSet) (s.withPort Port.start)

/-- The SPILL_ENDED notices after it, one for each open spill. -/
def startAnnounced (s : State) : State :=
  (openSpills s).foldl (fun u x => postAt (startFinishOf s) x.1.val
    (.spillEnded x.2.1 (startEnd (startCause s)) (min ((startFinishOf s - x.2.2.start) / 60) 65535)) u) (startPosted s)

/-- The one transfer test after all closes. -/
def startTested (s : State) : State :=
  (transferTest ((startAnnounced s).withRet (allClosed s (startFinishOf s) (startEnd (startCause s))))).1

section Tested
variable {s : State} (h : startCause s ≠ .cold)
include h

/-- A start closes all open spills, and then makes one transfer test. -/
theorem startCloses_all : startCloses (allCloses (begun (startRetention s))) s
    = (transferTest (closedSpills (startFinishOf s) (startEnd (startCause s)) (openOutfalls s) (begun (startRetention s)))).1 := by
  obtain ⟨-, hret, hclock⟩ := begun_of_not_cold h
  have hlength : allCloses (begun (startRetention s)) - (openOutfalls s).length = 4 := by
    rw [allCloses, openOutfalls_congr hret, Nat.add_sub_cancel_left]
  rw [startCloses, closeOpenSpills_of_not_cold (by rw [hclock]; exact h), hclock, hret, openOutfalls_congr hret, hlength,
    List.take_of_length_le (by rw [allCloses, openOutfalls_congr hret]; exact Nat.le_add_right ..)]
  rfl

theorem port_startPosted : (startPosted s).port = (begun (startRetention s)).port := by
  rw [begun]
  obtain ⟨-, hret, hclock, -⟩ := startValues_rest (startRetention s)
  obtain ⟨-, -, -, -, -, -, hport⟩ := startValues_fixed (startRetention s)
  generalize startValues (startRetention s) = v at hret hclock hport ⊢
  rw [startRetention_of_not_cold h] at hret hclock
  have hsame : v.ret = s.ret := hret
  have hlength : (openOutfalls v).length = (openSpills s).length := by rw [openOutfalls_congr hsame, openOutfalls_eq_map, List.length_map]
  have hwritten : written v = written s := written_congr (by rw [hsame]) (by rw [hsame])
  rw [postStarted, hclock, hlength, hwritten, hsame]
  exact port_postAt_congr hport.symm (by rw [hsame]; rfl) (by rw [hsame]; rfl) ..

/-- The records and the counts after a start, and, where no outfall has two open records, the notices too. -/
theorem makeStart_tested : (makeStart s).ret = (startTested s).ret
    ∧ (((openSpills s).map fun x => x.1).Nodup → (makeStart s).port = (startTested s).port) := by
  obtain ⟨hret, hport⟩ := makeStart_accounts s
  obtain ⟨-, hbegun, -⟩ := begun_of_not_cold h
  have hclosed : (closedSpills (startFinishOf s) (startEnd (startCause s)) (openOutfalls s) (begun (startRetention s))).ret
      = allClosed s (startFinishOf s) (startEnd (startCause s)) := by
    rw [ret_closedSpills, retClosed_congr hbegun, retClosed_openOutfalls]
  obtain ⟨htestedRet, htestedPort⟩ := transferLoop_congr 4 0
    (s := (startAnnounced s).withRet (allClosed s (startFinishOf s) (startEnd (startCause s)))) hclosed
  rw [hret, hport, startCloses_all h]
  refine ⟨htestedRet, fun hdistinct => htestedPort ?_⟩
  have hopen := openSpills_distinct hdistinct
  rw [openOutfalls_eq_map]
  refine port_closedSpills hdistinct (fun x hx => ?_) (port_startPosted h) ?_ ?_
  · rw [openSpillOf_congr (congrArg Retained.log hbegun) (congrArg Retained.slots hbegun),
      openId_congr (congrArg Retained.log hbegun) (congrArg Retained.slots hbegun)]
    exact hopen x hx
  · rw [hbegun]
    rfl
  · rw [hbegun]
    rfl

end Tested

end Sys2Proof.Machine

/-! PROOF. Falls of main power, and the power events as a whole (R186, R187, R190 to R194). -/

namespace Sys2Proof.Machine

/-! ### Falls of main power (R186, R187) -/

theorem losePower_fields (s : State) : (losePower s).image = s.image
    ∧ (losePower s).ret = { s.ret with powerLoss := some s.now, checkGood := s.ret.checkGood && s.backup } := by
  simp [losePower, loseVolatile]

/-- While the part runs, the retention clock advances (R187). -/
theorem advance_of_running {s : State} (h : s.run = .running) (us : Nat) : (advance us s).ret = { s.ret with
    seconds := s.ret.seconds + (s.ret.micros + us) / 1000000, micros := (s.ret.micros + us) % 1000000 } := by
  simp [advance, h]

/-- A fall of main power during the start sequence (R186, R187, R191): the image and the retained contents are what has been written, but for the
clock, the power-loss time and the check. -/
theorem startFails_fields (f : StartFall) (s : State) : (startFails f s).run = .stopped
    ∧ (startFails f s).image = (startWrites f.writes s).image
    ∧ (startFails f s).ret = { (startWrites f.writes s).ret with
      seconds := (startWrites f.writes s).ret.seconds + ((startWrites f.writes s).ret.micros + f.elapsed) / 1000000
      micros := ((startWrites f.writes s).ret.micros + f.elapsed) % 1000000, powerLoss := some (startFails f s).now
      checkGood := (startWrites f.writes s).ret.checkGood && s.backup } := by
  have hbackup : (startWrites f.writes s).backup = s.backup := congrArg Fixed.backup (fixed_startWrites f.writes s)
  have hadvance := advance_of_running (s := (startWrites f.writes s).withRun .running) rfl f.elapsed
  obtain ⟨himage, hret⟩ := losePower_fields (advance f.elapsed ((startWrites f.writes s).withRun .running))
  have hnow : (startFails f s).now = (advance f.elapsed ((startWrites f.writes s).withRun .running)).now := by
    rw [startFails, State.now, hret]
    rfl
  refine ⟨rfl, himage.trans (by simp), ?_⟩
  rw [hnow, startFails, hret, State.now, hadvance]
  simp [hbackup]

/-- The retention check holds after the one write of a cold start, and otherwise as before (R186, R190). -/
theorem checkGood_startWrites (n : Nat) (s : State) : (startWrites n s).ret.checkGood = (s.ret.checkGood || decide (0 < n)) := by
  rw [startWrites_eq]
  by_cases h : startCause s = .cold
  · have hbad : s.ret.checkGood = false := startCause_eq_cold.mp h
    by_cases hn : n = 0
    · simp [h, hn, hbad]
    · have hpos : 0 < n := Nat.pos_of_ne_zero hn
      simp [hn, hpos, startCloses_of_cold n h, Retained.afterCold]
  · obtain ⟨-, -, hkept⟩ := startCloses_keeps h n
    have hgood : s.ret.checkGood = true := by simpa using mt startCause_eq_cold.mpr h
    rw [if_neg (fun hcold => h hcold.1), hkept]
    simp [hgood]

/-- The fall during a start is the power-loss time, and the retention check is good where its contents are and backup supply is present. -/
theorem startFails_loss (f : StartFall) (s : State) : (startFails f s).ret.powerLoss = some (startFails f s).now
    ∧ (startFails f s).ret.checkGood = ((s.ret.checkGood || decide (0 < f.writes)) && s.backup) := by
  obtain ⟨-, -, hret⟩ := startFails_fields f s
  refine ⟨congrArg Retained.powerLoss hret, ?_⟩
  rw [← checkGood_startWrites]
  exact congrArg Retained.checkGood hret

/-- A cold start whose one write has been made leaves the defaults (R190). -/
theorem startFails_of_cold {f : StartFall} {s : State} (h : startCause s = .cold) (hwrites : 0 < f.writes) :
    (startFails f s).image = Image.afterCold ∧ (startFails f s).now = f.elapsed / 1000000 ∧ (startFails f s).ret.log = []
      ∧ (startFails f s).ret.cold = true := by
  obtain ⟨-, himage, hret⟩ := startFails_fields f s
  obtain ⟨himage', hret'⟩ := startCloses_of_cold f.writes h
  rw [startWrites_eq, if_neg fun hnone => hwrites.ne' hnone.2] at himage hret
  rw [hret'] at hret
  refine ⟨himage.trans himage', (congrArg Retained.seconds hret).trans ?_, congrArg Retained.log hret, congrArg Retained.cold hret⟩
  simp [Retained.afterCold]

section FallInWarmStart
variable {f : StartFall} {s : State} (h : startCause s ≠ .cold)
include h

/-- Any other start leaves most of the retention domain as it is, also where main power falls in it (R191). -/
theorem startFails_keeps : (startFails f s).image = s.image
    ∧ (startFails f s).now = s.now + (s.ret.micros + f.elapsed) / 1000000 ∧ (startFails f s).ret.offset = s.ret.offset
    ∧ (startFails f s).ret.clockSet = s.ret.clockSet ∧ (startFails f s).ret.lastRain = s.ret.lastRain
    ∧ (startFails f s).ret.cold = s.ret.cold := by
  obtain ⟨-, himage, hret⟩ := startFails_fields f s
  obtain ⟨himage', -, hkept⟩ := startCloses_keeps h f.writes
  rw [startWrites_eq, if_neg fun hcold => h hcold.1] at himage hret
  refine ⟨himage.trans himage', ?_⟩
  rw [State.now, hret, hkept]
  exact ⟨rfl, rfl, rfl, rfl, rfl⟩

/-- The log, the slots and the counts are what the closes and the transfers made so far have left. -/
theorem startFails_accounts : (startFails f s).ret.log = (startCloses f.writes s).ret.log
    ∧ (startFails f s).ret.slots = (startCloses f.writes s).ret.slots ∧ (startFails f s).ret.counts = (startCloses f.writes s).ret.counts := by
  obtain ⟨-, -, hret⟩ := startFails_fields f s
  rw [startWrites_eq, if_neg fun hcold => h hcold.1] at hret
  rw [hret]
  exact ⟨rfl, rfl, rfl⟩

/-- Before the first write nothing is closed (log entry 50). -/
theorem startFails_unwritten (hwrites : f.writes = 0) : (startFails f s).ret.log = s.ret.log ∧ (startFails f s).ret.slots = s.ret.slots
    ∧ (startFails f s).ret.counts = s.ret.counts := by
  obtain ⟨hlog, hslots, hcounts⟩ := startFails_accounts (f := f) h
  obtain ⟨-, hret, -⟩ := begun_of_not_cold h
  rw [hlog, hslots, hcounts, hwrites, startCloses, closeOpenSpills_zero, hret]
  exact ⟨rfl, rfl, rfl⟩

/-- The spills that are closed before the fall are those of the first outfalls. -/
theorem openRecord_startFails {k : Fin 4} (hk : k ∈ (openOutfalls s).take f.writes) : openRecord (startFails f s) k = none := by
  obtain ⟨hlog, hslots, -⟩ := startFails_accounts (f := f) h
  rw [openRecord_congr hlog (congrArg (·.at_ k) hslots)]
  exact (startCloses_closes f.writes h).openRecord (.inl hk)

/-- A record that is closed already, or whose outfall's turn has not come, stays as it is. -/
theorem mem_startFails {e : LogEntry} (he : e ∈ s.ret.log)
    (hstays : e.record.openSpill = none ∨ e.record.outfall ∉ (openOutfalls s).take f.writes) : e ∈ (startFails f s).ret.log := by
  obtain ⟨hlog, -⟩ := startFails_accounts (f := f) h
  obtain ⟨-, hret, -⟩ := begun_of_not_cold h
  have hmem := (startCloses_closes f.writes h).log (hret ▸ he)
  rw [hlog]
  rcases hstays with hclosed | hturn
  · rwa [entryClosed_of_closed hclosed] at hmem
  · rwa [entryClosed, if_neg hturn] at hmem

/-- An open aggregate of an outfall whose turn has not come stays in its slot. -/
theorem slot_startFails {k : Fin 4} {r : SpillRecord} (hr : s.ret.slots.at_ k = some r) (hopen : r.openSpill.isSome = true)
    (hk : k ∉ (openOutfalls s).take f.writes) : (startFails f s).ret.slots.at_ k = some r := by
  obtain ⟨-, hslots, -⟩ := startFails_accounts (f := f) h
  obtain ⟨-, hret, -⟩ := begun_of_not_cold h
  rw [hslots]
  exact (startCloses_closes f.writes h).slot (hret ▸ hr) hopen hk

end FallInWarmStart

/-! ### The start values as the pins give them (R50, R51, R57, R77, R180, R185) -/

/-- The inputs are sampled, and works-stop, the floats, the levels and the gauges follow them. -/
def InputsSampled (t : State) (pins : BitVec 12) : Prop :=
  LevelsSampled t pins
  ∧ (t.term.worksStop = true ↔ sampledInput t.image pins .worksStop = some true)
  ∧ (∀ b, t.lvl.floats.at_ b = floatSampled (sampledInput t.image pins (.float b)))
  ∧ (∀ b, t.level b = if (t.bay b).enabled = true ∧ sampledInput t.image pins (.float b) = some true
      then { LevelRecord.blank with value := some (t.bay b).floatHeight, quality := .float } else LevelRecord.blank)
  ∧ ∀ g, t.rain.gauges.at_ g = if (t.image.gauges.at_ g).enabled
      then { stuck := false, history := List.replicate 60 0, minuteStart := t.now, total := 0, lastTip := none
             stuckDeadline := if sampledInput t.image pins (.gauge g) = some true
               then some { due := t.now + (t.image.gauges.at_ g).stuck, time := (t.image.gauges.at_ g).stuck } else none }
      else GaugeVol.blank

theorem inputsSampled_makeStart (s : State) : InputsSampled (makeStart s) s.term.pins := by
  obtain ⟨himage, -, hnow, hdebounced, hworksStop, hlvl, hrain⟩ := makeStart_rest s
  obtain ⟨himage', -⟩ := begun_rest (startRetention s)
  obtain ⟨hterm, -⟩ := startRetention_fields s
  obtain ⟨hlevels, hstop⟩ := begun_terminals (startRetention s)
  obtain ⟨-, -, -, -, hgauges⟩ := begun_rain (startRetention s)
  rw [hterm] at hlevels hstop
  refine ⟨fun p hp => ?_, ?_, fun b => ?_, fun b => ?_, fun g => ?_⟩
  · rw [himage, ← himage'] at hp
    rw [hdebounced]
    exact hlevels p hp
  · rw [hworksStop, himage]
    exact hstop
  · obtain ⟨hfloat, -⟩ := begun_levels (startRetention s) b
    rw [hlvl, himage, ← hterm]
    exact hfloat
  · obtain ⟨-, hlevel⟩ := begun_levels (startRetention s) b
    rw [State.level, State.bay, hlvl, himage, ← hterm]
    exact hlevel
  · rw [hrain, himage, hnow, ← hterm]
    exact hgauges g

/-- A bay's level is NONE or FLOAT at a start (R57). -/
theorem InputsSampled.quality {t : State} {pins : BitVec 12} (h : InputsSampled t pins) (b : Fin 8) :
    (t.level b).quality = .none ∨ (t.level b).quality = .float := by
  obtain ⟨-, -, -, hlevel, -⟩ := h
  rw [hlevel b]
  split
  · exact .inr rfl
  · exact .inl rfl

/-- The rain watch at a start (R62, R63, R77; log entry 31). -/
theorem makeStart_rain (s : State) : (makeStart s).rain.alert = .none ∧ (makeStart s).rain.slots = Tab.all 4 .empty
    ∧ (makeStart s).rain.nextRoll = ((makeStart s).now / 60 + 1) * 60
    ∧ ∀ r, (makeStart s).rain.rules.at_ r
      = { state := if ((makeStart s).image.rules.at_ r).level = .none then .disarmed else .clear, holdUntil := none } := by
  obtain ⟨himage, -, hnow, -, -, -, hrain⟩ := makeStart_rest s
  obtain ⟨hslots, halert, hroll, hrules, -⟩ := begun_rain (startRetention s)
  rw [hrain, himage, hnow]
  exact ⟨halert, hslots, hroll, hrules⟩

end Sys2Proof.Machine

/-! PROOF. The power events and START (R186 to R194). -/

namespace Sys2Proof.Machine

section Falls
variable (m : Moment) {s : State}

theorem exec_mainPowerFail_stopped (h : s.run = .stopped) : exec (.mainPowerFail m) s = .next (arrive m s) := by
  have hrun : (arrive m s).run = .stopped := by simpa using h
  exact congrArg Host.Outcome.next (if_pos hrun)

theorem exec_mainPowerFail (h : s.run ≠ .stopped) : exec (.mainPowerFail m) s = .next (losePower (arrive m s)) := by
  have hrun : (arrive m s).run ≠ .stopped := by simpa using h
  exact congrArg Host.Outcome.next (if_neg hrun)

theorem exec_backupSupplyLoss_stopped (h : s.run = .stopped) : exec (.backupSupplyLoss m) s
    = .next (((arrive m s).withBackup false).withRet { (arrive m s).ret with checkGood := false }) := by
  have hrun : (arrive m s).run = .stopped := by simpa using h
  exact congrArg Host.Outcome.next (if_pos hrun)

theorem exec_backupSupplyLoss (h : s.run ≠ .stopped) : exec (.backupSupplyLoss m) s = .next ((arrive m s).withBackup false) := by
  have hrun : (arrive m s).run ≠ .stopped := by simpa using h
  exact congrArg Host.Outcome.next (if_neg hrun)

end Falls

/-- No record is open after a start (R192). -/
theorem makeStart_noneOpen (s : State) : (∀ e ∈ (makeStart s).ret.log, e.record.openSpill = none)
    ∧ ∀ k r, (makeStart s).ret.slots.at_ k = some r → r.openSpill = none :=
  ⟨fun e he => (openSpillOf_eq_none.mp (openSpillOf_makeStart e.record.outfall)).1 e he rfl,
    fun k r hr => (openSpillOf_eq_none.mp (openSpillOf_makeStart k)).2 r hr⟩

/-- Settles O60: the falls outside a start by their branches; a start by what its steps leave, with its closes as one change of the retained
contents; and a fall during a start by the writes made so far. -/
theorem powerFallsAndStarts : Obligations.PowerFallsAndStarts := by
  intro m s a openSlot cause
  have himage : a.image = s.image := by simp [a]
  have hlog : s.ret.log = a.ret.log := by simp [a]
  have hslots : s.ret.slots = a.ret.slots := by simp [a]
  have hcounts : s.ret.counts = a.ret.counts := by simp [a]
  have hset : s.ret.clockSet = a.ret.clockSet := by simp [a]
  have hoffset : s.ret.offset = a.ret.offset := by simp [a]
  have hloss : s.ret.powerLoss = a.ret.powerLoss := by simp [a]
  have hrain : s.ret.lastRain = a.ret.lastRain := by simp [a]
  have hcold : s.ret.cold = a.ret.cold := by simp [a]
  have hgood : s.ret.checkGood = a.ret.checkGood := by simp [a]
  have hbackup : s.backup = a.backup := by simp [a]
  have hwritten : written s = written a := written_congr hset hoffset
  have hspills : openSpills s = openSpills a := by simp only [openSpills, hlog, hslots]
  have houtfalls : openOutfalls s = openOutfalls a := by rw [openOutfalls_eq_map, openOutfalls_eq_map, hspills]
  have hopenSlot : openSlot = fun k => (a.ret.slots.at_ k).any fun r => r.openSpill.isSome := by
    funext k
    exact congrArg (fun slots : Tab 4 (Option SpillRecord) => (slots.at_ k).any fun r => r.openSpill.isSome) hslots
  have hcause : cause = startCause a := (startCause_arrive m s).symm
  have hfinish : (if cause = .warm then s.ret.powerLoss.getD a.now else a.now) = startFinishOf a := by rw [hcause, hloss]; rfl
  have hend : (if cause = .warm then EndCause.powerLoss else .restart) = startEnd (startCause a) := by rw [hcause]; rfl
  refine ⟨fun h => ⟨exec_mainPowerFail_stopped m h, exec_backupSupplyLoss_stopped m h⟩,
    fun h => ⟨exec_backupSupplyLoss m h, losePower a, exec_mainPowerFail m h, rfl, ?image, ?retained⟩, rfl, fun h f => exec_start_running h m f,
    fun h => ⟨makeStart a, exec_start h m, ?starts⟩, fun h f => ⟨startFails f a, exec_start_fails h m f, ?fails⟩⟩
  case image => exact (losePower_fields a).1.trans himage
  case retained =>
    obtain ⟨-, hret⟩ := losePower_fields a
    rw [hret, hgood, hbackup]
  case fails =>
    obtain ⟨hfall, hcheck⟩ := startFails_loss f a
    rw [hgood, hbackup, hcause, hlog, hslots, hcounts, hoffset, hset, hrain, hcold, houtfalls, ← himage]
    refine ⟨rfl, hfall, hcheck, startFails_of_cold, fun hwarm => ?_⟩
    obtain ⟨hkept, hnow, hclock, hsetting, hrained, hflag⟩ := startFails_keeps (f := f) hwarm
    exact ⟨hkept, hnow, hclock, hsetting, hrained, hflag, startFails_unwritten hwarm, fun _ hk => openRecord_startFails hwarm hk,
      fun _ he hstays => mem_startFails hwarm he hstays, fun _ _ hr hopen hk => slot_startFails hwarm hr hopen hk⟩
  case starts =>
    obtain ⟨hrun, hmode, hspill, hdrn, hinhibit, hdevices, hlasts, hchannels, hlast, hexpiries⟩ := makeStart_fixed a
    obtain ⟨-, hclock, hnow, -⟩ := makeStart_rest a
    obtain ⟨-, -, hcaused⟩ := startRetention_fields a
    obtain ⟨halert, hempty, hroll, hrules⟩ := makeStart_rain a
    obtain ⟨hhead, hanswering, hslot⟩ := makeStart_port a
    obtain ⟨hlogClosed, hslotsClosed⟩ := makeStart_noneOpen a
    have hinputs : InputsSampled (makeStart a) m.pins := inputsSampled_makeStart a
    rw [startedNotice_eq, length_openOutfalls] at hhead
    rw [hcaused, ← hnow] at hclock
    refine ⟨hrun, hmode, halert, hspill, hdrn, hinhibit, hdevices, hlasts, hempty, hanswering, hslot, hinputs.quality, ?inputs, hrules, hroll,
      congrArg Clock.fast hclock, linesFollow_makeStart a, fun b => ?channels, hexpiries, fun b => freshEntryJoined_makeStart,
      fun b d => commandStands_makeStart, hlogClosed, hslotsClosed, ?cause, congrArg Clock.startSecond hclock, ?notice, ?cold, ?notCold⟩
    case inputs =>
      obtain ⟨hlevels, hstop, hfloats, hlevel, hgauges⟩ := hinputs
      refine ⟨hlevels, hstop, fun b => (hfloats b).trans ?_, hlevel, hgauges⟩
      unfold floatSampled
      rfl
    case channels => rw [hchannels, hlast]; exact ⟨Tab.at_all b _, Tab.at_all b _⟩
    case cause => rw [hcause]; exact congrArg Clock.cause hclock
    case notice =>
      rw [hcause, hlog, hloss, hwritten, hopenSlot]
      exact hhead
    case cold => rw [hcause]; exact makeStart_of_cold
    case notCold =>
      rw [hfinish, hend, hspills, hwritten, hcause, hlog, hcounts, hoffset, hset, hrain, hcold, hloss, ← himage]
      intro hwarm
      obtain ⟨hkept, hnow, hclock, hsetting, hfell, hrained, hflag⟩ := makeStart_keeps hwarm
      exact ⟨hkept, hnow, hclock, hsetting, hfell, hrained, hflag, fun _ he hclosed => mem_makeStart_of_closed hwarm he hclosed,
        fun _ he _ hopen => mem_makeStart_of_open hwarm he hopen, counts_makeStart hwarm, makeStart_tested hwarm⟩

end Sys2Proof.Machine

/-! PROOF. The step, frames on the host line, and the receive slot (R193, R195 to R197, R201, R208, R209). -/

namespace Sys2Proof.Machine

/-! ### The step -/

/-- Settles O1: the two cases of the queue. -/
theorem stepRunsFrontCommand : Obligations.StepRunsFrontCommand := by
  refine ⟨fun c rest s h => ?front, fun s h => ?empty⟩
  case front => rw [step, h]
  case empty => rw [step, h]

/-! ### Good frames (R196, R197) -/

/-- Settles O14: a receiver that hunts collects the frame, and its check is that over the bytes covered. -/
theorem goodFrameIsOffered : Obligations.GoodFrameIsOffered := by
  intro m seq kind body s hrun hhunting hlen
  have hreceived := exec_goodFrame (m := m) (q := seq) (kind := kind) hrun hhunting hlen
  rw [hostRequest, whileRunning_running _ _ _ hrun] at hreceived
  exact hreceived

/-! ### Frames that do not end (R195) -/

/-- The bytes after a start byte that begin a frame without ending it: too few are there, and the length byte is in bounds. -/
def Unfinished (got : List Byte) : Prop := ∀ len ∈ got.head?, len.toNat ≤ 240 ∧ got.length < len.toNat + 5

theorem unfinished_of_append {got : List Byte} {b : Byte} (h : Unfinished (got ++ [b])) : Unfinished got := by
  cases got with
  | nil => simp [Unfinished]
  | cons len rest =>
    have hlen := h len rfl
    simp only [List.length_append, List.length_cons, List.length_nil] at hlen
    intro x hx
    obtain rfl : len = x := by simpa using hx
    simp only [List.length_cons]
    omega

/-- Bytes that begin a frame are collected (R195). -/
theorem collect_unfinished {got : List Byte} (h : Unfinished got) (hne : got ≠ []) (s : State) :
    collect got s = setReceiver (.receiving got) s := by
  cases got with
  | nil => exact absurd rfl hne
  | cons len rest =>
    obtain ⟨hlen, hcount⟩ := h len rfl
    rw [collect, if_neg (Nat.not_lt.mpr (show len.toNat ≤ Config.maxBody from hlen)), if_neg (by omega)]

/-- A hunting receiver collects the bytes that follow a start byte, as long as they end no frame (R195). -/
theorem receiveBytes_unfinished {got : List Byte} {s : State} (hhunting : s.port.receiver = .hunting) (h : Unfinished got) :
    receiveBytes (0xA5#8 :: got) s = setReceiver (.receiving got) s := by
  induction got using List.reverseRecOn with
  | nil => simp [receiveBytes, receiveByte, hhunting]
  | append_singleton got b ih =>
    have hsplit : receiveBytes (0xA5#8 :: (got ++ [b])) s = receiveByte (receiveBytes (0xA5#8 :: got) s) b := by
      rw [receiveBytes, ← List.cons_append, List.foldl_append]
      rfl
    have hcollect : receiveByte (setReceiver (.receiving got) s) b = collect (got ++ [b]) (setReceiver (.receiving got) s) := rfl
    rw [hsplit, ih (unfinished_of_append h), hcollect, collect_unfinished h (by simp), setReceiver_setReceiver]

/-- A frame that has begun is discarded with FRAME_LOST (R195, R201). -/
theorem discardPartial_unfinished {got : List Byte} {s : State} (hhunting : s.port.receiver = .hunting) (h : Unfinished got) :
    discardPartial (receiveBytes (0xA5#8 :: got) s) = loseFrame s := by
  rw [receiveBytes_unfinished hhunting h]
  exact congrArg loseFrame (setReceiver_self hhunting)

/-- A length byte above 240 ends its frame at once (R195). -/
theorem receiveBytes_tooLong {len : Byte} {s : State} (hhunting : s.port.receiver = .hunting) (h : 240 < len.toNat) :
    receiveBytes [0xA5#8, len] s = loseFrame s := by
  have hstart : receiveByte s 0xA5#8 = setReceiver (.receiving []) s := by simp [receiveByte, hhunting]
  have hcollect : receiveByte (setReceiver (.receiving []) s) len = collect [len] (setReceiver (.receiving []) s) := rfl
  rw [receiveBytes, List.foldl_cons, List.foldl_cons, List.foldl_nil, hstart, hcollect, collect, if_pos (show Config.maxBody < len.toNat from h),
    setReceiver_setReceiver, setReceiver_self hhunting]

/-- The byte that ends a gap begins a frame where it is the start byte (R195; log entry 64). -/
theorem receiveByte_hunting {s : State} (hhunting : s.port.receiver = .hunting) (b : Byte) :
    receiveByte s b = setReceiver (if b = 0xA5#8 then .receiving [] else .hunting) s := by
  by_cases hb : b = 0xA5#8
  · simp [receiveByte, hhunting, hb]
  · simp [receiveByte, hhunting, hb, setReceiver_self hhunting]

/-! ### Frames with a wrong check (R196) -/

/-- The length byte of a body that is in bounds. -/
theorem toNat_byteOf_length {body : List Byte} (h : body.length ≤ 240) : (byteOf body.length).toNat = body.length := by
  rw [byteOf, BitVec.toNat_ofNat]
  omega

/-- A complete frame whose last two bytes are not its check is lost (R196). -/
theorem frameComplete_wrongCheck {seq kind c1 c2 : Byte} {body : List Byte} (hlen : body.length ≤ 240)
    (hcheck : [c1, c2] ≠ checkBytes (byteOf body.length :: seq :: kind :: body)) (s : State) :
    frameComplete (byteOf body.length :: seq :: kind :: (body ++ [c1, c2])) s = loseFrame s := by
  have hcovered : (byteOf body.length :: seq :: kind :: (body ++ [c1, c2])).take (3 + (byteOf body.length).toNat)
      = byteOf body.length :: seq :: kind :: body := by
    rw [toNat_byteOf_length hlen]
    exact List.take_left' (l₁ := byteOf body.length :: seq :: kind :: body) (by simp; omega)
  have hlast : (body ++ [c1, c2]).drop (byteOf body.length).toNat = [c1, c2] := by
    rw [toNat_byteOf_length hlen, List.drop_left]
  rw [frameComplete, hcovered, hlast, if_neg (Ne.symm hcheck)]

/-- The bytes of such a frame reach a hunting receiver. -/
theorem receiveBytes_wrongCheck {seq kind c1 c2 : Byte} {body : List Byte} {s : State} (hhunting : s.port.receiver = .hunting)
    (hlen : body.length ≤ 240) (hcheck : [c1, c2] ≠ checkBytes (byteOf body.length :: seq :: kind :: body)) :
    receiveBytes (0xA5#8 :: byteOf body.length :: seq :: kind :: (body ++ [c1, c2])) s = loseFrame s := by
  have hlength := toNat_byteOf_length hlen
  have hbegun : receiveBytes [0xA5#8, byteOf body.length] s = setReceiver (.receiving [byteOf body.length]) s :=
    receiveBytes_unfinished hhunting (by simp [Unfinished, hlength, hlen])
  have hsplit : receiveBytes (0xA5#8 :: byteOf body.length :: seq :: kind :: (body ++ [c1, c2])) s
      = receiveBytes (seq :: kind :: (body ++ [c1, c2])) (receiveBytes [0xA5#8, byteOf body.length] s) := rfl
  rw [hsplit, hbegun, receiveBytes_complete (by rw [hlength]; exact hlen) [] _ _ (by simp) (by simp [hlength]; omega),
    setReceiver_self hhunting]
  exact frameComplete_wrongCheck hlen hcheck s

/-- Settles O15: each of these frames comes to `loseFrame` on a receiver that hunts again. -/
theorem badFramesAreLost : Obligations.BadFramesAreLost := by
  intro m s hrun hhunting a lost
  have ha : a.port.receiver = .hunting := by simpa [a] using hhunting
  have hran (f : State → State) : whileRunning m f s = .next (refreshAlarms (f a)) := whileRunning_running m f s hrun
  refine ⟨fun seq kind c1 c2 body hlen hcheck => (hran _).trans ?check, fun len hlen => (hran _).trans ?long,
    fun got b h => ⟨(hran fun u => receiveByte (discardPartial (receiveBytes (0xA5#8 :: got) u)) b).trans ?gap,
      (hran fun u => discardPartial (receiveBytes (0xA5#8 :: got) u)).trans ?inside⟩,
    (hran fun u => discardPartial (receiveBytes [] u)).trans ?outside⟩
  case check => rw [receiveBytes_wrongCheck ha hlen hcheck]; rfl
  case long => rw [receiveBytes_tooLong ha hlen]; rfl
  case gap =>
    have hlost : (loseFrame a).port.receiver = .hunting := ha
    rw [discardPartial_unfinished ha h, receiveByte_hunting hlost]
    rfl
  case inside => rw [discardPartial_unfinished ha h]; rfl
  case outside =>
    have hnone : receiveBytes [] a = a := rfl
    rw [hnone, discardPartial, ha]

/-! ### The receive slot (R197) -/

theorem offer_free {s : State} (hanswering : s.port.answering = none) (hslot : s.port.slot = none) (msg : HostMessage) :
    offer msg s = takeRequest msg s := by
  rw [offer, hanswering, hslot]

theorem offer_waits {s : State} (hanswering : s.port.answering.isSome = true) (hslot : s.port.slot = none) (msg : HostMessage) :
    offer msg s = s.withPort { s.port with slot := some msg } := by
  obtain ⟨r, hr⟩ := Option.isSome_iff_exists.mp hanswering
  rw [offer, hr, hslot]

theorem offer_lost {s : State} (hanswering : s.port.answering.isSome = true) (hslot : s.port.slot.isSome = true) (msg : HostMessage) :
    offer msg s = loseFrame s := by
  obtain ⟨r, hr⟩ := Option.isSome_iff_exists.mp hanswering
  obtain ⟨waiting, hwaiting⟩ := Option.isSome_iff_exists.mp hslot
  rw [offer, hr, hwaiting]

/-- After a reply that no start follows, a port whose slot is empty is free. -/
theorem replySent_none {s : State} {r : Reply} (h : s.port.answering = some r) (hrestart : r.restart = false) (hslot : s.port.slot = none) :
    replySent s = s.withPort { s.port with answering := none } := by
  simp [replySent, h, hrestart, hslot]

/-- After such a reply the request that waits in the slot is taken. -/
theorem replySent_some {s : State} {r : Reply} {msg : HostMessage} (h : s.port.answering = some r) (hrestart : r.restart = false)
    (hslot : s.port.slot = some msg) : replySent s = takeRequest msg (s.withPort { s.port with answering := none, slot := none }) := by
  simp [replySent, h, hrestart, hslot, State.withPort]

/-- Settles O16: an offer by what stands in the port, and a sent reply by its mark and the slot. -/
theorem requestsWaitTheirTurn : Obligations.RequestsWaitTheirTurn := by
  refine ⟨fun msg s => ⟨fun ha hs => offer_free ha hs msg, fun ha hs => offer_waits ha hs msg, fun ha hs => offer_lost ha hs msg⟩, ?_⟩
  intro m s r hrun hr a free
  have ha : a.port.answering = some r := by simpa [a] using hr
  have hslot : a.port.slot = s.port.slot := by simp [a]
  have hran : exec (.replySent m) s = .next (refreshAlarms (replySent a)) := whileRunning_running m replySent s hrun
  rw [hran]
  refine ⟨fun hrestart hs => ?empty, fun msg hrestart hs => ?waiting, fun hrestart => ?restart⟩
  case empty => rw [replySent_none ha hrestart (hslot.trans hs)]
  case waiting => rw [replySent_some ha hrestart (hslot.trans hs)]
  case restart => rw [replySent_restart ha hrestart]

end Sys2Proof.Machine

/-! PROOF. Notices, the status summary, and FETCH_NOTICES (R199 to R206, R213). -/

namespace Sys2Proof.Machine

/-! ### Postings (R203, R204) -/

/-- The informational kinds by their codes (R204, R213). -/
theorem informational_iff (d : NoticeDetail) : d.informational = true ↔ d.code ∈ [2, 8, 12, 14, 19] := by
  cases d
  all_goals simp [NoticeDetail.informational, NoticeDetail.code]

/-- The notice of a posting (R203). -/
def postedNotice (time subject : Nat) (d : NoticeDetail) (s : State) : Notice :=
  { subject := subject, number := s.port.nextNumber, unset := !s.ret.clockSet, time := written s time, detail := d }

/-- A notice joins a queue that has room. -/
theorem addNotice_room {n : Notice} {p : Port} (h : p.notices.length < 32) : addNotice n p = { p with notices := p.notices ++ [n] } := if_pos h

/-- In a full queue the oldest informational notice gives way (R204). -/
theorem addNotice_full {n x : Notice} {p : Port} {front back : List Notice} (hfull : p.notices.length = 32)
    (hsplit : p.notices = front ++ x :: back) (hx : x.detail.informational = true) (hfront : ∀ y ∈ front, y.detail.informational = false) :
    addNotice n p = { p with notices := front ++ back ++ [n], noticeLost := true } := by
  have hany : p.notices.any (fun y => y.detail.informational) = true := by simp [hsplit, hx]
  have herase : p.notices.eraseP (fun y => y.detail.informational) = front ++ back := by
    rw [hsplit, List.eraseP_append_right _ (by simpa using hfront), List.eraseP_cons_of_pos (by simpa using hx)]
  rw [addNotice, if_neg (by simp [hfull, Config.noticeCap]), if_pos hany, herase]

/-- A notice that finds none to give way is dropped (R204). -/
theorem addNotice_dropped {n : Notice} {p : Port} (hfull : p.notices.length = 32) (hnone : ∀ y ∈ p.notices, y.detail.informational = false) :
    addNotice n p = { p with noticeLost := true } := by
  rw [addNotice, if_neg (by simp [hfull, Config.noticeCap]), if_neg (by simpa using hnone)]

/-- What finds a full queue: an oldest informational notice in it, or none. -/
theorem oldest_informational (ns : List Notice) : (∀ y ∈ ns, y.detail.informational = false)
    ∨ ∃ front x back, ns = front ++ x :: back ∧ x.detail.informational = true ∧ ∀ y ∈ front, y.detail.informational = false := by
  by_cases h : ∃ y ∈ ns, y.detail.informational = true
  · obtain ⟨y, hy, hinformational⟩ := h
    obtain ⟨x, front, back, hfront, hx, hsplit, -⟩ := List.exists_of_eraseP (p := fun z => z.detail.informational) hy hinformational
    exact .inr ⟨front, x, back, hsplit, hx, fun z hz => by simpa using hfront z hz⟩
  · exact .inl (by simpa using h)

/-- A full queue stays full, and a notice is lost (R204). -/
theorem addNotice_full_lost {n : Notice} {p : Port} (hfull : p.notices.length = 32) :
    (addNotice n p).noticeLost = true ∧ (addNotice n p).notices.length = 32 := by
  rcases oldest_informational p.notices with hnone | ⟨front, x, back, hsplit, hx, hfront⟩
  · rw [addNotice_dropped hfull hnone]
    exact ⟨rfl, hfull⟩
  · rw [addNotice_full hfull hsplit hx hfront]
    rw [hsplit] at hfull
    refine ⟨rfl, ?_⟩
    simp only [List.length_append, List.length_cons, List.length_nil] at hfull ⊢
    omega

/-- The port when a posting has taken its number (R203). -/
def numberTaken (p : Port) : Port := { p with nextNumber := (p.nextNumber + 1) % 256 }

@[simp] theorem numberTaken_fields (p : Port) : (numberTaken p).notices = p.notices ∧ (numberTaken p).noticeLost = p.noticeLost
    ∧ (numberTaken p).nextNumber = (p.nextNumber + 1) % 256 := ⟨rfl, rfl, rfl⟩

/-- A posting takes its number, and then its notice joins or is handled by the overflow rule. -/
theorem port_postAt (time subject : Nat) (d : NoticeDetail) (s : State) :
    (postAt time subject d s).port = addNotice (postedNotice time subject d s) (numberTaken s.port) := rfl

/-- Settles O13: room, an oldest informational notice, or neither, decides what a posting does. -/
theorem fullNoticeQueueDropsInformational : Obligations.FullNoticeQueueDropsInformational := by
  refine ⟨informational_iff, fun time subject d s => ⟨?number, fun hroom => ?room⟩, fun time subject d s hfull => ?full⟩
  case number => simp [port_postAt]
  case room =>
    rw [port_postAt, addNotice_room (by simpa using hroom)]
    exact ⟨rfl, rfl⟩
  case full =>
    have hheld : (numberTaken s.port).notices.length = 32 := hfull
    obtain ⟨hlost, hlength⟩ := addNotice_full_lost (n := postedNotice time subject d s) hheld
    refine ⟨hlost, hlength, fun front back x hsplit hx hfront => ?gives, fun hnone => ?dropped⟩
    case gives => rw [port_postAt, addNotice_full hheld hsplit hx hfront]; rfl
    case dropped => rw [port_postAt, addNotice_dropped hheld hnone]; rfl

/-! ### The status summary (R200, R206) -/

/-- ATTN is asserted while notices are held and main power is present (R206). -/
theorem attn_iff (s : State) : attn s = true ↔ s.port.notices ≠ [] ∧ s.run ≠ .stopped := by
  simp [attn, and_comm]

/-- The flag SUSPECT tells of an order in SUSPECT (R125, R200). -/
theorem anySuspect_iff (s : State) : anySuspect s = true ↔ ∃ b o, s.order b = some o ∧ o.state = .suspect := by
  rw [anySuspect, List.any_eq_true]
  refine exists_congr fun b => ?_
  cases s.order b with
  | none => simp
  | some o => simp [mem_allBays]

/-- Settles O18: GET_STATUS is a request that its block answers at once, and the summary is read off the state. -/
theorem getStatusAnswers : Obligations.GetStatusAnswers := by
  refine ⟨fun m q s hfree => ⟨?answered, ?refused⟩, fun q kind result body s => ⟨_, rfl, rfl, rfl, rfl, rfl, rfl, rfl⟩, attn_iff,
    fun s => ?summary⟩
  case answered => exact hostRequest_ok (r := .getStatus (.fields ())) hfree rfl rfl rfl
  case refused => exact hostRequest_refused (r := .getStatus .wrongLength) hfree rfl (by decide) (by decide)
  case summary =>
    refine ⟨rfl, rfl, rfl, rfl, rfl, rfl, rfl, ?unset, decide_eq_true_iff, rfl, rfl, anySuspect_iff s⟩
    case unset => simp [summary, statusFlags]

/-! ### FETCH_NOTICES (R205) -/

/-- FETCH_NOTICES is refused with a maximum of 0 and with one above 12, and otherwise takes the oldest notices (R205). -/
theorem handleFetchNotices_fields (n : Nat) (s : State) : handleFetchNotices (.fields n) s =
    if n = 0 ∨ 12 < n then refuse .refusedRange s
    else answerOk (.notices (s.port.notices.drop n).length (s.port.notices.take n))
      (s.withPort { s.port with notices := s.port.notices.drop n }) := by
  simp [handleFetchNotices, inRange]

/-- The state with NOTICE_LOST clear (R201). -/
def noticeLostCleared (t : State) : State := t.withPort { t.port with noticeLost := false }

/-- A FETCH_NOTICES that is answered OK also clears NOTICE_LOST, which its reply reports (R201, R205). -/
theorem hostRequest_fetchNotices {m : Moment} {q : Byte} {n : Nat} {s t : State} {body : ReplyBody} (h : PortFree s)
    (hr : handleFetchNotices (.fields n) (arrive m s) = answerOk body t) :
    hostRequest m q (.fetchNotices (.fields n)) s = .next (noticeLostCleared (answered q 0x82#8 .ok body t)) := by
  have hrequest : handleRequest (.fetchNotices (.fields n)) (arrive m s) = answerOk body t := hr
  rw [hostRequest_free m q _ s h, takeRequest, hrequest]
  rfl

/-- After an answer in a part that runs, ATTN tells whether notices are left (R206). -/
theorem attn_noticeLostCleared {s : State} (hrun : s.run = .running) (q kind : Byte) (res : Result) (body : ReplyBody) :
    attn (noticeLostCleared (answered q kind res body s)) = true ↔ s.port.notices ≠ [] := by
  have hanswered : (noticeLostCleared (answered q kind res body s)).run = s.run := rfl
  have hnotices : (noticeLostCleared (answered q kind res body s)).port.notices = s.port.notices := rfl
  simp [attn_iff, hanswered, hnotices, hrun]

/-- A posting leaves a notice in the queue, its own or another. -/
theorem addNotice_ne_nil (n : Notice) (p : Port) : (addNotice n p).notices ≠ [] := by
  unfold addNotice
  split
  · simp
  · rename_i hfull
    split
    · simp
    · exact List.ne_nil_of_length_pos (Nat.lt_of_lt_of_le (by decide) (Nat.not_lt.mp hfull))

/-- Settles O23: the notices leave before the reply is built, and a posting leaves the queue with a notice. -/
theorem fetchNoticesTakesTheOldest : Obligations.FetchNoticesTakesTheOldest := by
  intro m q n s hfree a left t
  have hnotices : a.port.notices = s.port.notices := by simp [a]
  have hrun : a.run = .running := by simpa [a] using hfree.1
  have hhandled := handleFetchNotices_fields n a
  rw [hnotices] at hhandled
  refine ⟨fun hlow hhigh => ⟨?fetched, ?released⟩, fun time subject d => ?asserted, ?length, fun hout => ?range⟩
  case fetched => exact hostRequest_fetchNotices hfree (hhandled.trans (if_neg (by omega)))
  case released =>
    have hrunning : left.run = .running := by simp [left, hrun]
    have hleft : left.port.notices = s.port.notices.drop n := by simp [left]
    refine (attn_noticeLostCleared hrunning q 0x82#8 .ok _).trans ?_
    rw [hleft]
    simp
  case asserted =>
    refine (attn_iff _).mpr ⟨addNotice_ne_nil _ _, ?_⟩
    have hposted : (postAt time subject d s).run = .running := hfree.1
    rw [hposted]
    decide
  case length => exact hostRequest_refused (r := .fetchNotices .wrongLength) hfree rfl (by decide) (by decide)
  case range => exact hostRequest_refused (r := .fetchNotices (.fields n)) hfree (hhandled.trans (if_pos hout)) (by decide) (by decide)

end Sys2Proof.Machine

/-! PROOF. The check of both lines, and the bytes of what the part sends (R208 to R210, R213 to R215). -/

namespace Sys2Proof.Machine

/-! ### The check (R208) -/

/-- A byte in the register that has moved up by fewer than eight places moves up one more, and no generator comes in. -/
theorem crcShift_byte (b : Byte) {i : Nat} (h : i < 8) : crcShift (b.zeroExtend 16 <<< i) = b.zeroExtend 16 <<< (i + 1) := by
  have hmsb : (b.zeroExtend 16 <<< i).msb = false := by
    have htop : b.getLsbD (15 - i) = false := BitVec.getLsbD_of_ge b _ (by omega)
    simp [BitVec.msb_eq_getLsbD_last, htop]
  rw [crcShift, hmsb, BitVec.shiftLeft_add]
  rfl

/-- A byte that clears the high byte of the register leaves the low byte there. -/
theorem crcByte_of_xor {r : BitVec 16} {b low : Byte} (h : r ^^^ (b.zeroExtend 16 <<< 8) = low.zeroExtend 16) :
    crcByte r b = low.zeroExtend 16 <<< 8 := by
  have hstart : low.zeroExtend 16 = low.zeroExtend 16 <<< 0 := by simp
  rw [crcByte, h, hstart]
  iterate 8 rw [crcShift_byte low (by decide)]
  simp

/-- The high byte of the register, which is the first check byte, clears it. -/
theorem xor_highByte (r : BitVec 16) : r ^^^ ((byteOf (r.toNat / 256)).zeroExtend 16 <<< 8) = (byteOf r.toNat).zeroExtend 16 := by
  have hhigh : byteOf (r.toNat / 256) = (r >>> 8).setWidth 8 := by
    apply BitVec.eq_of_toNat_eq
    simp [byteOf, Nat.shiftRight_eq_div_pow]
  have hlow : byteOf r.toNat = r.setWidth 8 := BitVec.ofNat_toNat 8 r
  rw [hhigh, hlow]
  ext i hi
  rcases Nat.lt_or_ge i 8 with h8 | h8
  · simp [h8, BitVec.getLsbD_eq_getElem hi]
  · simp [Nat.not_lt.mpr h8, Nat.add_sub_cancel' h8, BitVec.getLsbD_eq_getElem hi, show i - 8 < 8 by omega]

/-- Bytes that are followed by their check bring the register to 0. -/
theorem crc16_checked (bytes : List Byte) : crc16 (bytes ++ checkBytes bytes) = 0#16 := by
  have hfold : crc16 (bytes ++ checkBytes bytes)
      = crcByte (crcByte (crc16 bytes) (byteOf ((crc16 bytes).toNat / 256))) (byteOf (crc16 bytes).toNat) := by
    rw [crc16, List.foldl_append]
    rfl
  have hcleared : (byteOf (crc16 bytes).toNat).zeroExtend 16 <<< 8 ^^^ (byteOf (crc16 bytes).toNat).zeroExtend 16 <<< 8
      = (0#8).zeroExtend 16 := BitVec.xor_self
  rw [hfold, crcByte_of_xor (xor_highByte _), crcByte_of_xor hcleared]
  rfl

/-! ### Fields in bytes, most significant byte first (R208) -/

/-- The low bytes of a number, most significant first. -/
def beBytes : Nat → Nat → List Byte
  | 0, _ => []
  | w + 1, n => beBytes w (n / 256) ++ [byteOf n]

@[simp] theorem length_beBytes (w n : Nat) : (beBytes w n).length = w := by
  induction w generalizing n with
  | zero => rfl
  | succ w ih => rw [beBytes, List.length_append, ih]; rfl

/-- A field of bytes spells what of its number fits into it. -/
theorem beNat_beBytes (w n : Nat) : beNat (beBytes w n) = n % 256 ^ w := by
  induction w generalizing n with
  | zero => simp [beBytes, beNat, Nat.mod_one]
  | succ w ih =>
    have hstep : beNat (beBytes (w + 1) n) = beNat (beBytes w (n / 256)) * 256 + n % 256 := by
      simp [beBytes, beNat, byteOf]
    rw [hstep, ih, Nat.pow_succ', Nat.mod_mul]
    ring

theorem byteOf_eq (n : Nat) : [byteOf n] = beBytes 1 n := rfl
theorem be16_eq (n : Nat) : be16 n = beBytes 2 n := rfl

theorem be24_eq (n : Nat) : be24 n = beBytes 3 n := by
  simp [be24, beBytes, Nat.div_div_eq_div_mul]

theorem be32_eq (n : Nat) : be32 n = beBytes 4 n := by
  simp [be32, beBytes, Nat.div_div_eq_div_mul]

/-- A flag that is sent as a byte of its own. -/
theorem flag_eq (b : Bool) : (if b then 1#8 else 0#8) = byteOf (flagBit 0 b) := by
  cases b <;> rfl

/-- A signed field is sent in two's complement. -/
theorem beInt16_eq (i : Int) : beInt16 i = beBytes 2 (i % 65536).toNat := by
  rw [beInt16, be16_eq, BitVec.toNat_ofInt]
  rfl

/-! ### Layouts (R209 to R215) -/

/-- The bytes of fields, one after another. -/
def packed (fields : List WireField) : List Byte := fields.flatMap fun f => beBytes f.width f.value

/-- Each field begins where the one before it ends, and the first one at an offset. -/
def Consecutive : Nat → List WireField → Prop
  | _, [] => True
  | at_, f :: rest => f.offset = at_ ∧ Consecutive (at_ + f.width) rest

theorem packed_cons (f : WireField) (rest : List WireField) : packed (f :: rest) = beBytes f.width f.value ++ packed rest := rfl

/-- A number stands in bytes where its field begins. -/
theorem fieldAt_append (pre post : List Byte) (w n : Nat) : fieldAt (pre ++ beBytes w n ++ post) pre.length w = n % 256 ^ w := by
  rw [fieldAt, List.append_assoc, List.drop_left, List.take_left' (length_beBytes w n), beNat_beBytes]

/-- Fields that are sent one after another stand where their layout says, whatever comes before and after them. -/
theorem laidOut_packed {fields : List WireField} (pre post : List Byte) (h : Consecutive pre.length fields) :
    LaidOut (pre ++ packed fields ++ post) fields := by
  induction fields generalizing pre with
  | nil => simp [LaidOut]
  | cons f rest ih =>
    obtain ⟨hoffset, hrest⟩ := h
    rw [packed_cons, ← List.append_assoc]
    refine List.forall_mem_cons.mpr ⟨?_, ih (pre ++ beBytes f.width f.value) (by simpa using hrest)⟩
    rw [hoffset, List.append_assoc _ (packed rest)]
    exact fieldAt_append pre _ f.width f.value

/-- A place that lies in no field of a layout lies before the first one or after the last one. -/
theorem outside_packed {fields : List WireField} {at_ i : Nat} (h : Consecutive at_ fields)
    (hi : ∀ f ∈ fields, i < f.offset ∨ f.offset + f.width ≤ i) : i < at_ ∨ at_ + (packed fields).length ≤ i := by
  induction fields generalizing at_ with
  | nil => exact Nat.lt_or_ge i at_
  | cons f rest ih =>
    obtain ⟨rfl, hrest⟩ := h
    obtain ⟨hf, hothers⟩ := List.forall_mem_cons.mp hi
    have := ih hrest hothers
    simp only [packed_cons, List.length_append, length_beBytes]
    omega

/-- What bytes are: fields one after another from the first byte on, and then other bytes. -/
structure Sends (bytes : List Byte) (fields : List WireField) (post : List Byte) : Prop where
  consecutive : Consecutive 0 fields
  eq : bytes = packed fields ++ post

theorem Sends.laidOut {bytes post : List Byte} {fields : List WireField} (h : Sends bytes fields post) : LaidOut bytes fields := by
  rw [h.eq]
  exact laidOut_packed [] post h.consecutive

theorem length_packed (fields : List WireField) : (packed fields).length = (fields.map fun f => f.width).sum := by
  simp [packed, List.length_flatMap]

theorem Sends.length {bytes post : List Byte} {fields : List WireField} {n : Nat} (h : Sends bytes fields post)
    (hn : (fields.map fun f => f.width).sum = n) : bytes.length = n + post.length := by
  rw [h.eq, List.length_append, length_packed, hn]

theorem Sends.drop {bytes post : List Byte} {fields : List WireField} {n : Nat} (h : Sends bytes fields post)
    (hn : (fields.map fun f => f.width).sum = n) : bytes.drop n = post := by
  rw [h.eq, List.drop_left' ((length_packed fields).trans hn)]

/-! ### The detail of a notice (R213) -/

theorem sends_drain (d : DrainDetail) : Sends d.bytes (drainLayout d) [] := by
  refine ⟨⟨rfl, rfl, rfl, rfl, trivial⟩, ?_⟩
  simp [DrainDetail.bytes, drainLayout, packed, be16_eq, be32_eq, ← byteOf_eq, Nat.mul_comm]

/-- The named bytes of a detail are the fields of its kind. -/
theorem sends_named (d : NoticeDetail) : Sends d.named (detailLayout d).2 [] := by
  cases d with
  | drainDone d | drainCancelled d | drainFault d => exact sends_drain d
  | _ =>
    refine ⟨by simp [detailLayout, Consecutive], ?_⟩
    simp [NoticeDetail.named, detailLayout, packed, idBytes, be16_eq, be24_eq, be32_eq, beInt16_eq, ← byteOf_eq, flag_eq, Config.max16]

theorem code_eq (d : NoticeDetail) : d.code = (detailLayout d).1 := by
  cases d <;> rfl

/-- The fields of every kind fit into the eight detail bytes. -/
theorem length_named_le (d : NoticeDetail) : d.named.length ≤ 8 := by
  rw [(sends_named d).length rfl]
  cases d
  all_goals simp [detailLayout, drainLayout]

/-- After the named bytes a detail is filled up with 0. -/
theorem detail_bytes (d : NoticeDetail) : d.bytes = d.named ++ List.replicate (8 - d.named.length) 0 := by
  rw [NoticeDetail.bytes, List.take_append, List.take_of_length_le (length_named_le d), List.take_replicate,
    Nat.min_eq_left (Nat.sub_le ..)]

theorem length_detail_bytes (d : NoticeDetail) : d.bytes.length = 8 := by
  simp [detail_bytes, length_named_le]

theorem sends_detail (d : NoticeDetail) : Sends d.bytes (detailLayout d).2 (List.replicate (8 - d.named.length) 0) := by
  obtain ⟨hconsecutive, hnamed⟩ := sends_named d
  exact ⟨hconsecutive, by rw [detail_bytes, hnamed, List.append_nil]⟩

/-- A detail byte that no field of its kind names is 0. -/
theorem fieldAt_unnamed {d : NoticeDetail} {i : Nat} (hi : i < 8)
    (hout : ∀ f ∈ (detailLayout d).2, i < f.offset ∨ f.offset + f.width ≤ i) : fieldAt d.bytes i 1 = 0 := by
  obtain ⟨hconsecutive, hnamed⟩ := sends_named d
  have hafter : d.named.length ≤ i := by
    have := outside_packed hconsecutive hout
    rw [hnamed, List.append_nil]
    omega
  have hzero : (d.bytes.drop i).take 1 = [0] := by
    rw [detail_bytes, List.drop_append, List.drop_of_length_le hafter, List.drop_replicate, List.nil_append,
      List.take_replicate, show min 1 (8 - d.named.length - (i - d.named.length)) = 1 by omega]
    rfl
  rw [fieldAt, hzero]
  rfl

/-! ### The layouts one by one (R209, R210, R213 to R215) -/

theorem sends_notice (n : Notice) :
    Sends n.bytes [⟨0, 1, n.detail.code⟩, ⟨1, 1, n.subject⟩, ⟨2, 1, n.number⟩, ⟨3, 1, flagBit 0 n.unset⟩, ⟨4, 4, n.time⟩]
      n.detail.bytes := by
  refine ⟨⟨rfl, rfl, rfl, rfl, rfl, trivial⟩, ?_⟩
  simp [Notice.bytes, packed, ← byteOf_eq, be32_eq, flag_eq]

theorem length_notice_bytes (n : Notice) : n.bytes.length = 16 := by
  rw [(sends_notice n).length (n := 8) rfl, length_detail_bytes]

/-- The fields of a spill record (R214). -/
def recordLayout (e : LogEntry) : List WireField :=
  let r := e.record
  [⟨0, 4, e.id⟩, ⟨4, 1, r.outfall.val⟩, ⟨5, 1, r.cls.code⟩, ⟨6, 4, r.start⟩, ⟨10, 4, r.finish.getD 0⟩,
    ⟨14, 1, EndCause.code r.cause⟩, ⟨15, 4, r.duration⟩, ⟨19, 2, r.peak⟩, ⟨21, 4, r.volume⟩, ⟨25, 2, r.blocks⟩,
    ⟨27, 1, flagBit 0 r.clockUnset + flagBit 1 r.clockLate + flagBit 2 r.gap + flagBit 3 r.aggregate⟩, ⟨28, 2, r.merged⟩]

theorem sends_record (e : LogEntry) : Sends e.bytes (recordLayout e) [] := by
  refine ⟨⟨rfl, rfl, rfl, rfl, rfl, rfl, rfl, rfl, rfl, rfl, rfl, rfl, trivial⟩, ?_⟩
  have hflags : e.record.flagByte = byteOf (flagBit 0 e.record.clockUnset + flagBit 1 e.record.clockLate + flagBit 2 e.record.gap
    + flagBit 3 e.record.aggregate) := rfl
  simp [LogEntry.bytes, recordLayout, packed, ← byteOf_eq, be16_eq, be32_eq, hflags]

theorem length_record_bytes (e : LogEntry) : e.bytes.length = 30 := (sends_record e).length rfl

/-- The fields of the reply head (R210). -/
def headLayout (r : Reply) : List WireField :=
  let x := r.summary.flags
  [⟨0, 1, r.result.code⟩, ⟨1, 1, r.summary.mode.code⟩, ⟨2, 1, r.summary.alert.rank⟩, ⟨3, 1, r.summary.notices⟩,
    ⟨4, 1, flagBit 0 x.attn + flagBit 1 x.frameLost + flagBit 2 x.noticeLost + flagBit 3 x.clockUnset + flagBit 4 x.logFull
      + flagBit 5 x.worksStop + flagBit 6 x.cold + flagBit 7 x.suspect⟩, ⟨5, 2, r.summary.credits⟩]

theorem sends_head (r : Reply) : Sends r.head (headLayout r) [] := by
  refine ⟨⟨rfl, rfl, rfl, rfl, rfl, rfl, trivial⟩, ?_⟩
  have hflags (x : StatusFlags) : x.byte = byteOf (flagBit 0 x.attn + flagBit 1 x.frameLost + flagBit 2 x.noticeLost + flagBit 3 x.clockUnset
    + flagBit 4 x.logFull + flagBit 5 x.worksStop + flagBit 6 x.cold + flagBit 7 x.suspect) := rfl
  simp [Reply.head, headLayout, packed, ← byteOf_eq, be16_eq, hflags]

theorem sends_notices (left : Nat) (ns : List Notice) :
    Sends ([byteOf ns.length, byteOf left] ++ ns.flatMap Notice.bytes) [⟨0, 1, ns.length⟩, ⟨1, 1, left⟩] (ns.flatMap Notice.bytes) :=
  ⟨⟨rfl, rfl, trivial⟩, rfl⟩

/-- The fields of a READ_SPILLS body before its records (R214). -/
def spillsLayout (r : SpillsReport) : List WireField :=
  [⟨0, 1, r.held⟩, ⟨1, 4, r.oldest.getD 0⟩, ⟨5, 4, r.newest.getD 0⟩, ⟨9, 4, r.next.getD 0⟩, ⟨13, 1, r.records.length⟩]

theorem sends_spills (r : SpillsReport) :
    ∃ b, (ReplyBody.spills r).bytes? = some b ∧ Sends b (spillsLayout r) (r.records.flatMap LogEntry.bytes) := by
  refine ⟨_, rfl, ⟨rfl, rfl, rfl, rfl, rfl, trivial⟩, ?_⟩
  simp [spillsLayout, packed, ← byteOf_eq, be32_eq]

/-- The covered bytes of a request frame (R215). -/
def lineCovered (address : Nat) (c : LineCommand) (toggle : Bool) : List Byte :=
  [byteOf address, byteOf c.code, byteOf (flagBit 0 toggle)]

theorem sends_lineFrame (address : Nat) (c : LineCommand) (toggle : Bool) :
    Sends (lineFrame address c toggle) [⟨0, 1, 0xC3⟩, ⟨1, 1, address⟩, ⟨2, 1, c.code⟩, ⟨3, 1, flagBit 0 toggle⟩]
      (checkBytes (lineCovered address c toggle)) := by
  refine ⟨⟨rfl, rfl, rfl, rfl, trivial⟩, ?_⟩
  have hstart : byteOf 0xC3 = 0xC3#8 := rfl
  simp [lineFrame, lineCovered, packed, ← byteOf_eq, flag_eq, hstart]

theorem codesFollowTheTables : CodesFollowTheTables := by
  repeat' apply And.intro
  all_goals rfl

/-- Items of one length, one after another. -/
theorem length_flatMap_const {α : Type} {f : α → List Byte} {n : Nat} (h : ∀ x, (f x).length = n) (l : List α) :
    (l.flatMap f).length = n * l.length := by
  simp [List.length_flatMap, h, Nat.mul_comm]

/-- Settles O10: the check clears the register byte by byte, and every layout is that of fields sent one after another. -/
theorem checkClosesToZero : Obligations.CheckClosesToZero := by
  refine ⟨crc16_checked, codesFollowTheTables, fun _ _ _ => rfl, fun r => ?reply, rfl, fun left ns => ?notices, fun r => ?spills,
    fun n => ?notice, fun d => ?detail, fun e => ?record, fun s d c orig exchange => ?line⟩
  case reply =>
    have h := sends_head r
    refine ⟨h.length rfl, h.laidOut, fun b hb => ?_⟩
    rw [Reply.frame?, hb]
    rfl
  case notices =>
    have h := sends_notices left ns
    refine ⟨_, rfl, (h.length (n := 2) rfl).trans ?_, h.laidOut, h.drop rfl⟩
    rw [length_flatMap_const length_notice_bytes]
  case spills =>
    obtain ⟨b, hb, h⟩ := sends_spills r
    refine ⟨b, hb, (h.length (n := 14) rfl).trans ?_, h.laidOut, h.drop rfl⟩
    rw [length_flatMap_const length_record_bytes]
  case notice => exact ⟨length_notice_bytes n, (sends_notice n).drop rfl, (sends_notice n).laidOut⟩
  case detail => exact ⟨code_eq d, length_detail_bytes d, (sends_detail d).laidOut, fun i hi hout => fieldAt_unnamed hi hout⟩
  case record => exact ⟨length_record_bytes e, (sends_record e).laidOut⟩
  case line =>
    have h := sends_lineFrame (addressOf s d) exchange (frameToggle (s.device d) exchange)
    refine ⟨rfl, rfl, fun r hr => ?_⟩
    have haddress : addressOf s d = r.address := by rw [addressOf, hr]
    rw [← haddress]
    cases exchange
    all_goals exact h.laidOut

end Sys2Proof.Machine
